-- ==== Sys2Proof/Word.lean ====
section
/-! DEFINITION. The fixed-width words that the three links carry (R190, R194). -/

namespace Sys2Proof

/-- One byte of a frame or record. -/
abbrev Byte := BitVec 8

/-- A two-byte field: a duration, a kit tag, a CRC, a team number. -/
abbrev Half := BitVec 16

/-- A four-byte field: a kit id or the value of a setting. -/
abbrev Word := BitVec 32

/-- A tier mask, bit t − 1 standing for tier t (R194). -/
abbrev TierMask := BitVec 4

/-- The 22 attention flags, bit n standing for flag number n (R183, R194). -/
abbrev FlagSet := BitVec 22

end Sys2Proof
end

