-- ==== Sys2Proof/Syntax.lean ====
section
/-! DEFINITION. The commands of the AF-24, one constructor per row of the table of operations and events. -/

namespace Sys2Proof

/-- One period record of LOAD PLAN as the request carries it (R196). -/
structure PeriodFields where
  kind : Byte
  duration : Half
  factor : Byte
  holdAtEnd : Byte
deriving DecidableEq, Repr

/-- The definition fields of DEFINE ELEMENT as the request carries them, from kind to default silent (R196). -/
structure DefineFields where
  kind : Byte
  side : Byte
  baseValue : Byte
  controlBonus : Byte
  minTier : Byte
  holdLimit : Half
  cooldown : Half
  quota : Byte
  timeout : Half
  policy : Byte
  defaultRefusing : Byte
  defaultSilent : Byte
deriving DecidableEq, Repr

/-- The commands. An operand is a field of the frame or record that carries the command, at the field's own width.
A console request stands for a complete good record of that request. A robot row stands for the taking of a frame with
that slot field and kit tag from the uplink queue. The other rows are events on pins, lines and timers. -/
inductive Instr where
  -- start-up, pins and the console line
  | powerOn
  | resetPin
  | stopInPressed
  | stopInLetGo
  | breakDetected
  | breakEnd
  | consoleByte (b : Byte)
  | framingError
  | gapTimerExpiry
  | frameError
  | unknownRequest (kind : Byte)
  | consoleOverrun
  | replyEnd
  -- identification and settings
  | identify
  | setSetting (id : Byte) (value : Word)
  | getSetting (id : Byte)
  | storeSettings
  | restart
  -- elements
  | defineElement (element : Byte) (d : DefineFields)
  | readElement (element : Byte)
  | setElementMode (element refusing silent : Byte)
  | withdraw (element : Byte)
  | restoreElement (element : Byte)
  | readFaults
  | clearFaults (element : Byte)
  -- roster
  | register (slot : Byte) (kit : Word) (alliance : Byte) (team : Half)
  | unregister (slot : Byte)
  | readSlot (slot : Byte)
  | readStrangers
  | disableRobot (slot : Byte) (duration : Half)
  | enableRobot (slot : Byte)
  | restoreTiers (slot : Byte)
  -- match
  | loadPlan (count grace : Byte) (periods : List PeriodFields)
  | stage
  | start
  | pause
  | resume
  | abortMatch
  | closeMatch
  | readClock
  | periodExpiry
  | graceExpiry
  -- stop
  | fieldStop
  | releaseStop
  | readStop
  -- claims and field
  | readClaims (first : Byte)
  | revokeClaim (element bar expected : Byte)
  | consoleActuate (element argument : Byte)
  | passThrough (element : Byte) (bytes : List Byte)
  | passResult
  -- score
  | readScores
  | readTallies (first : Byte)
  | penalize (alliance : Byte) (amount : Half)
  | award (alliance : Byte) (amount : Half)
  -- mail, from the console
  | consoleMailPut (slot : Byte) (bytes : List Byte)
  | consoleMailRead (slot offset length : Byte)
  | mailStatus
  -- attention and the store
  | readEvents
  | clearEvents (set : BitVec 24)
  | setEventEnables (set : BitVec 24)
  | storeDone
  -- the robot link
  | uplinkArrival (bytes : List Byte)
  | hello (slot : Byte) (tag : Half) (kit : Word) (tiers : Byte)
  | confirm (slot : Byte) (tag : Half) (tier : Byte)
  | presence (slot : Byte) (tag : Half)
  | bye (slot : Byte) (tag : Half)
  | claim (slot : Byte) (tag : Half) (element : Byte)
  | release (slot : Byte) (tag : Half) (element : Byte)
  | robotActuate (slot : Byte) (tag : Half) (element argument : Byte)
  | robotMailPut (slot : Byte) (tag : Half) (bytes : List Byte)
  | robotMailRead (slot : Byte) (tag : Half) (offset : Byte)
  | downlinkFrameSent
  | beaconIntervalExpiry
  -- timers of slots and elements
  | confirmTimerExpiry (slot : Nat)
  | silenceTimerExpiry (slot : Nat)
  | restoreTimerExpiry (slot : Nat)
  | disableTimerExpiry (slot : Nat)
  | holdTimerExpiry (element : Nat)
  | cooldownExpiry (element : Nat)
  | towerSecond (element : Nat)
  -- the field bus and the lights
  | busFrameSent
  | busAnswer (bytes : List Byte)
  | answerWindowExpiry
  | actuationTimerExpiry (element : Nat)
  | pulseTimerExpiry (element : Nat)
  | resetPinRelease
deriving DecidableEq, Repr

end Sys2Proof
end

