-- ==== Sys2Proof/Decode.lean ====
section
/-! DEFINITION. Commands spelled by the table's bits: the table gives bits to no row (log entry 4). The byte layouts of
chapter 12 are read in Machine/Operands.lean and Machine/Records.lean. -/

namespace Sys2Proof

/-- The command that a word spells by the table's bits. No row of the table has bits, so no word spells one. -/
def decodeTableWord (_nbits _w : Nat) : Option Instr := none

end Sys2Proof
end

