-- ==== Sys2Proof/Config.lean ====
section
/-! DEFINITION. What the manual leaves to the part: the free values. -/

namespace Sys2Proof.Config

/-- A free value (log entry 7): R188 says only that a store write completes within 200 ms of its beginning and that the
AF-24 does not fix the moment more closely. The n-th write takes a duration read from this constant, which nothing
in Lean can evaluate. -/
opaque storeWriteTime : Nat → Nat

/-- A free value (log entry 20): a freed place of the command queue may meet, in the same instant, another request for a
place, and R121 lets either be taken first. The n-th freed place that a light-owed element waits for is taken behind the
other requests where this constant says so, and at once where it does not; nothing in Lean can evaluate it. -/
opaque otherRequestFirst : Nat → Bool

end Sys2Proof.Config
end

