-- ==== Sys2Proof/Machine/Tables.lean ====
section
/-! DEFINITION. Tables numbered from 1: slots 1..24, elements 1..32, alliances 1..4 (00_scope.md, Conventions). -/

namespace Sys2Proof.Machine

/-- The k-th record of a table, or a default for a number outside it. -/
def at1 {α : Type} {n : Nat} (v : Vector α n) (k : Nat) (d : α) : α :=
  if h : k - 1 < n ∧ 1 ≤ k then v[k - 1]'h.1 else d

/-- The table with its k-th record replaced; a number outside the table changes nothing. -/
def set1 {α : Type} {n : Nat} (v : Vector α n) (k : Nat) (x : α) : Vector α n :=
  if h : k - 1 < n ∧ 1 ≤ k then v.set (k - 1) x h.1 else v

/-- The table with a function applied to every record. -/
def mapTable {α β : Type} {n : Nat} (f : α → β) (v : Vector α n) : Vector β n :=
  ⟨⟨v.toArray.toList.map f⟩, by simp⟩

/-- The slot numbers in ascending order. -/
def slotNumbers : List Nat := List.range' 1 24

/-- The element numbers in ascending order. -/
def elementNumbers : List Nat := List.range' 1 32

/-- The alliance numbers in ascending order. -/
def allianceNumbers : List Nat := List.range' 1 4

end Sys2Proof.Machine
end

