-- ==== Sys2Proof/Machine/Types.lean ====
section
/-! DEFINITION. The records, modes and alternatives that the blocks of the AF-24 hold. Times left are whole microseconds
(log entry 1); an absent or stopped timer is none. -/

namespace Sys2Proof.Machine

/-- Time left of a running timer in microseconds; none for a stopped or absent timer. -/
abbrev Timer := Option Nat

-- Match Clock (chapter 1)

/-- The match phase (R3). -/
inductive Phase where
  | idle | staging | running | held | grace | finished
deriving DecidableEq, Repr

/-- The kind of a period (R1). -/
inductive PeriodKind where
  | auto | driver | endgame | interval
deriving DecidableEq, Repr

/-- Why the clock stands in HELD (R3). -/
inductive HeldMark where
  | none | paused | atEnd
deriving DecidableEq, Repr

/-- One period record of the plan (R1); the duration is in 100 ms, the score factor in eighths. -/
structure Period where
  kind : PeriodKind
  duration : Nat
  factor : Nat
  holdAtEnd : Bool
deriving DecidableEq, Repr

/-- A loaded plan: 1..8 period records and the grace value in 100 ms (R1). -/
structure Plan where
  periods : List Period
  grace : Nat
deriving DecidableEq, Repr

/-- The Match Clock (R1, R3). An empty plan is none. -/
structure Clock where
  plan : Option Plan
  phase : Phase
  index : Nat
  remaining : Nat
  mark : HeldMark
  graceTimer : Timer
deriving DecidableEq, Repr

-- Robot Roster (chapter 2)

/-- The six slot states (R20). -/
inductive SlotState where
  | empty | expected | offered | admitted | disabled | lost
deriving DecidableEq, Repr

/-- A disable remaining that is present (R19): permanent, or with microseconds of match time left. -/
inductive Disable where
  | permanent
  | timed (left : Nat)
deriving DecidableEq, Repr

/-- A slot record (R19) with its confirm, silence and restore timers; the disable timer is the timed disable's own. -/
structure Slot where
  state : SlotState
  kit : Word
  alliance : Nat
  team : Nat
  permitted : TierMask
  lastAd : Option TierMask
  tier : Option Nat
  cap : Option Nat
  attempts : Nat
  wasLost : Bool
  disable : Option Disable
  holdCount : Nat
  waitCount : Nat
  confirmTimer : Timer
  silenceTimer : Timer
  restoreTimer : Timer
deriving DecidableEq, Repr

/-- The Robot Roster: 24 slot records and the stranger list, newest first (R19, R25). -/
structure Roster where
  slots : Vector Slot 24
  strangers : List Word
deriving DecidableEq, Repr

-- Element Table (chapter 3)

/-- The kind of an element (R45). -/
inductive ElementKind where
  | none | goal | gate | dispenser | tower
deriving DecidableEq, Repr

/-- The indicator policy flags (R45). -/
structure Policy where
  hold : Bool
  contest : Bool
  pending : Bool
  score : Bool
  noSteady : Bool
deriving DecidableEq, Repr

/-- The definition part of an element record (R45); a NEUTRAL side is none. -/
structure ElementDef where
  kind : ElementKind
  side : Option Nat
  baseValue : Nat
  controlBonus : Nat
  minTier : Nat
  holdLimit : Nat
  cooldown : Nat
  quota : Nat
  timeout : Nat
  policy : Policy
  defaultRefusing : Bool
  defaultSilent : Bool
deriving DecidableEq, Repr

/-- Presence of an element on the bus (R46). -/
inductive Presence where
  | unknown | present | absent
deriving DecidableEq, Repr

/-- The four kinds of fault (R61); no fault is none. -/
inductive FaultKind where
  | jam | absent | check | refused
deriving DecidableEq, Repr

/-- How an actuation ended (R46). -/
inductive ActOutcome where
  | done | jammed | halted | refused | noAnswer | aborted
deriving DecidableEq, Repr

/-- The run-time part of an element record (R46). -/
structure ElementRun where
  refusing : Bool
  silent : Bool
  withdrawn : Bool
  withdrawPending : Bool
  presence : Presence
  missCount : Nat
  jammed : Bool
  faultTally : Nat
  lastFault : Option FaultKind
  lastOutcome : Option ActOutcome
deriving DecidableEq, Repr

/-- The mode that governs robots' frames (R51). -/
inductive Mode where
  | opened | refusing | silent | withdrawn
deriving DecidableEq, Repr

/-- What the fault capture holds when it is occupied (R62); the time is in 100 ms since the last start-up. -/
structure CapturedFault where
  kind : FaultKind
  element : Nat
  time : Nat
deriving DecidableEq, Repr

/-- The Element Table: definitions, run-time parts and the field-wide fault capture with its repeat mark (R45, R46, R62). -/
structure ElementTable where
  defs : Vector ElementDef 32
  runs : Vector ElementRun 32
  capture : Option CapturedFault
  repeated : Bool
deriving DecidableEq, Repr

-- Claim Arbiter (chapter 4)

/-- A barred slot with its cooldown time left (R66). -/
structure Bar where
  slot : Nat
  left : Nat
deriving DecidableEq, Repr

/-- The claim state of an element (R66). -/
structure Claim where
  holder : Option Nat
  holdTimer : Timer
  waiters : List Nat
  barred : Option Bar
deriving DecidableEq, Repr

-- Indicator Unit (chapter 6)

/-- The displays other than OFF (R116). -/
inductive Pattern where
  | steady | slow | fast | pulse
deriving DecidableEq, Repr

/-- The colours other than NONE (R116). -/
inductive Colour where
  | alliance (a : Nat)
  | white
deriving DecidableEq, Repr

/-- A tower display (R116): OFF is always paired with NONE, every other display with a colour. -/
inductive Display where
  | off
  | lit (pattern : Pattern) (colour : Colour)
deriving DecidableEq, Repr

/-- A light record (R116); an UNKNOWN issued display is none. -/
structure Light where
  computed : Display
  issued : Option Display
  pulse : Timer
  lastCredited : Option Nat
  owed : Bool
deriving DecidableEq, Repr

-- Field Bus Controller (chapter 5)

/-- Who asked for a queue entry or an actuation (R97, R100). -/
inductive Origin where
  | slot (n : Nat)
  | console
deriving DecidableEq, Repr

/-- A dispenser charge: the alliance charged and the count charged (R97). -/
structure Charge where
  alliance : Nat
  count : Nat
deriving DecidableEq, Repr

/-- The kind of a queue entry with its argument (R97). -/
inductive EntryArg where
  | actuate (argument : Nat)
  | light (display : Display)
  | raw (bytes : List Byte)
deriving DecidableEq, Repr

/-- An entry of the command queue (R97). -/
structure Entry where
  element : Nat
  arg : EntryArg
  origin : Origin
  charge : Option Charge
deriving DecidableEq, Repr

/-- The actuation state of an element (R100). -/
inductive ActState where
  | none | queued | inFlight
deriving DecidableEq, Repr

/-- The actuation record of an element (R100). -/
structure ActRecord where
  state : ActState
  origin : Option Origin
  charge : Option Charge
  timer : Timer
deriving DecidableEq, Repr

/-- The pass-through slot (R112). -/
inductive PassSlot where
  | empty
  | pending
  | done (bytes : List Byte)
  | noAnswer
  | checkFail
  | aborted
deriving DecidableEq, Repr

/-- The five kinds of transaction with what the request frame carries (R94). -/
inductive BusRequest where
  | poll (element : Nat)
  | actuate (element argument : Nat)
  | light (element : Nat) (display : Display)
  | raw (element : Nat) (bytes : List Byte)
  | halt
deriving DecidableEq, Repr

/-- The transaction on the bus (R94): the window is none while its request frame is being sent, then the answer window
left. -/
structure Transaction where
  request : BusRequest
  window : Timer
deriving DecidableEq, Repr

/-- The Field Bus Controller (R94, R97 to R100, R112). The bus is free when no transaction is current. The model's own
count freed says how many freed places wait behind other requests of the same instant (R121, log entry 20). -/
structure FieldBus where
  queue : List Entry
  freed : Nat
  acts : Vector ActRecord 32
  commandCount : Nat
  lastPolled : Nat
  haltPending : Bool
  pass : PassSlot
  current : Option Transaction
deriving DecidableEq, Repr

-- Score Unit (chapter 7)

/-- An alliance record (R124). -/
structure AllianceRecord where
  score : Nat
  penalty : Nat
  clampLoss : Nat
deriving DecidableEq, Repr

/-- The score state of an element (R125); an UNSET baseline is none, the tower accumulator is in microseconds. -/
structure ElementScore where
  baseline : Option Nat
  credited : Nat
  unattributed : Nat
  uncounted : Nat
  quotas : Vector Nat 4
  accumulator : Nat
deriving DecidableEq, Repr

/-- The Score Unit (R124, R125). -/
structure ScoreUnit where
  alliances : Vector AllianceRecord 4
  elements : Vector ElementScore 32
deriving DecidableEq, Repr

-- Stop Unit (chapter 8)

/-- The causes of a field stop (R144). -/
inductive Cause where
  | pin | brk | console | reset
deriving DecidableEq, Repr

/-- The Stop Unit: the stop state, the latched causes, and the level of STOP_IN (R144). -/
structure StopUnit where
  stopped : Bool
  pin : Bool
  brk : Bool
  console : Bool
  reset : Bool
  stopIn : Bool
deriving DecidableEq, Repr

-- Robot Link Interface (chapter 9)

/-- The nine uplink kinds with their fields (R157). -/
inductive UplinkBody where
  | hello (kit : Word) (tiers : Byte)
  | confirm (tier : Nat)
  | presence
  | bye
  | claim (element : Nat)
  | release (element : Nat)
  | actuate (element argument : Nat)
  | mailPut (bytes : List Byte)
  | mailRead (offset : Nat)
deriving DecidableEq, Repr

/-- An uplink frame that has passed the checks of R154. -/
structure UplinkFrame where
  slot : Nat
  tag : Half
  body : UplinkBody
deriving DecidableEq, Repr

/-- The answer codes to robots (R195). -/
inductive AnswerCode where
  | granted | held | queued | released | leftQueue | notHeld | full | limit | closed | notClaimable | wrongSide
  | tierLow | cooldown | notNow | notAdmitted | disabled | busy | fieldBusy | jammed | absentElement | notActuable
  | quotaSpent | accepted | noSuchElement | unknownKit | noCommonTier | tierMismatch | notOffered | confirmed | left
  | boxFull | boxEmpty | badOffset | ok
deriving DecidableEq, Repr

/-- The status of one element in a beacon (R164). -/
structure ElementStatus where
  holder : Nat
  waiting : Nat
  mode : Mode
  act : ActState
deriving DecidableEq, Repr

/-- The contents of a beacon (R162). -/
structure Beacon where
  phase : Phase
  index : Nat
  kind : Option PeriodKind
  remaining : Nat
  stopped : Bool
  permits : List Bool
  elements : List ElementStatus
deriving DecidableEq, Repr

/-- The downlink frames without their address (R158, R159, R162). -/
inductive DownBody where
  | offer (kit : Word) (slot alliance tier cap : Nat)
  | answer (kind element : Nat) (code : AnswerCode) (detail : Nat)
  | mailData (offset : Nat) (bytes : List Byte)
  | beacon (b : Beacon)
deriving DecidableEq, Repr

/-- A downlink frame complete with its address (R153, R158). -/
structure DownFrame where
  slot : Nat
  tag : Half
  body : DownBody
deriving DecidableEq, Repr

/-- The side that wrote a message (R165). -/
inductive MailOrigin where
  | console | robot
deriving DecidableEq, Repr

/-- A message record (R165); its length is the length of its bytes. -/
structure Message where
  origin : MailOrigin
  bytes : List Byte
  pending : Bool
deriving DecidableEq, Repr

/-- The Robot Link Interface (R153, R154, R158, R161, R165). The port holds the frame whose sending is in progress. -/
structure RobotLink where
  uplink : List UplinkFrame
  replies : List DownFrame
  port : Option DownFrame
  beaconDue : Bool
  beaconTimer : Timer
  boxes : Vector (Option Message) 24
deriving DecidableEq, Repr

-- Console Link Interface (chapter 10)

/-- The outcome codes of console replies (R180, R195). -/
inductive OutcomeCode where
  | ok | okAdjusted | accepted | badState | badArg | notFound | busy | full | stopHeld | noPlan | notStopped | jammed
  | boxFull | boxEmpty | badOffset | pending | frameError | unknownRequest
deriving DecidableEq, Repr

/-- A reply record: its kind, its outcome and the fields after the outcome code (R176, R196). -/
structure Reply where
  kind : Nat
  outcome : OutcomeCode
  fields : List Byte
deriving DecidableEq, Repr

/-- The receiver (R172): in RECEIVING it holds the length and the bytes taken since, in order of arrival. -/
inductive Receiver where
  | seeking
  | framing
  | receiving (length : Nat) (got : List Byte)
deriving DecidableEq, Repr

/-- The Console Link Interface (R171 to R178). The holding place is HELD while it holds the record's reply, which is
formed when the record is held (R176) and is being sent until its last stop bit (R177). -/
structure ConsoleLink where
  receiver : Receiver
  gapTimer : Timer
  held : Option Reply
  lineRate : Nat
  breakInProgress : Bool
  restarting : Bool
deriving DecidableEq, Repr

-- Attention Unit and Settings Store (chapter 11)

/-- The attention flags and the enable set (R183, R184). -/
structure Attention where
  flags : FlagSet
  enables : FlagSet
deriving DecidableEq, Repr

/-- The live settings (R186). -/
structure Settings where
  consoleRate : Nat
  allianceCount : Nat
  allowedTiers : TierMask
  tierCaps : Vector Nat 4
  beaconInterval : Nat
  silenceLimit : Nat
  confirmWindow : Nat
  downshiftThreshold : Nat
  downshiftEnable : Bool
  restoreInterval : Nat
  restoreEnable : Bool
  answerWindow : Nat
  pulseTime : Nat
deriving DecidableEq, Repr

/-- A copy of the live settings and the 32 definitions, as STORE SETTINGS takes it (R188). -/
structure SettingsCopy where
  settings : Settings
  defs : Vector ElementDef 32
deriving DecidableEq, Repr

/-- A write in progress: the copy being written and the time left to its completion (R188). -/
structure StoreWrite where
  copy : SettingsCopy
  left : Nat
deriving DecidableEq, Repr

/-- The Settings Store (R188): WRITING while a write is in progress. The standing copy carries a mark that says whether
its CRC checks. -/
structure Store where
  writing : Option StoreWrite
  standing : SettingsCopy
  standingGood : Bool
deriving DecidableEq, Repr

end Sys2Proof.Machine
end

