-- ==== Sys2Proof/Machine/Reset.lean ====
section
/-! DEFINITION. The reset values of each block, as the block's own chapter gives them, and the bus and the robot link behind
the arbiters' first choices. -/

namespace Sys2Proof.Machine

/-- R18. -/
def resetClock : Clock :=
  { plan := none, phase := .idle, index := 0, remaining := 0, mark := .none, graceTimer := none }

/-- An EMPTY slot: every field other than the state is absent or zero (R20). -/
def vacantSlot : Slot :=
  { state := .empty, kit := 0, alliance := 0, team := 0, permitted := 0, lastAd := none, tier := none, cap := none,
    attempts := 0, wasLost := false, disable := none, holdCount := 0, waitCount := 0, confirmTimer := none,
    silenceTimer := none, restoreTimer := none }

/-- R44. -/
def resetRoster : Roster := { slots := Vector.replicate 24 vacantSlot, strangers := [] }

/-- A policy that holds no flag. -/
def noPolicy : Policy := { hold := false, contest := false, pending := false, score := false, noSteady := false }

/-- The definition of an element of kind NONE: every field 0 and every flag clear (R50). -/
def undefinedElement : ElementDef :=
  { kind := .none, side := none, baseValue := 0, controlBonus := 0, minTier := 0, holdLimit := 0, cooldown := 0,
    quota := 0, timeout := 0, policy := noPolicy, defaultRefusing := false, defaultSilent := false }

/-- The run-time part after a start-up or a definition (R49, R65). -/
def freshRun (d : ElementDef) : ElementRun :=
  { refusing := d.defaultRefusing, silent := d.defaultSilent, withdrawn := false, withdrawPending := false,
    presence := .unknown, missCount := 0, jammed := false, faultTally := 0, lastFault := none, lastOutcome := none }

/-- R65, with the definitions that the start-up leaves in force. -/
def resetTable (defs : Vector ElementDef 32) : ElementTable :=
  { defs := defs, runs := mapTable freshRun defs, capture := none, repeated := false }

/-- An empty claim state (R66). -/
def emptyClaim : Claim := { holder := none, holdTimer := none, waiters := [], barred := none }

/-- R93. -/
def resetClaims : Vector Claim 32 := Vector.replicate 32 emptyClaim

/-- No actuation outstanding (R100). -/
def restAct : ActRecord := { state := .none, origin := none, charge := none, timer := none }

/-- R115; the entry of STOPPED at a start-up makes HALT pending. -/
def resetBus : FieldBus :=
  { queue := [], freed := 0, acts := Vector.replicate 32 restAct, commandCount := 0, lastPolled := 0, haltPending := true,
    pass := .empty, current := none }

/-- R123, before the recomputation of the defined elements. -/
def resetLight : Light := { computed := .off, issued := none, pulse := none, lastCredited := none, owed := false }

/-- The full share of an element's quota for each alliance (R128, R143): the quota of a DISPENSER, else 0. -/
def fullQuotas (d : ElementDef) : Vector Nat 4 :=
  Vector.replicate 4 (if d.kind = .dispenser then d.quota else 0)

/-- The score state that STAGE and a start-up give an element (R128, R143). -/
def freshScore (d : ElementDef) : ElementScore :=
  { baseline := none, credited := 0, unattributed := 0, uncounted := 0, quotas := fullQuotas d, accumulator := 0 }

/-- An alliance record at 0 (R128, R143). -/
def zeroAlliance : AllianceRecord := { score := 0, penalty := 0, clampLoss := 0 }

/-- R143, with the definitions in place; the same values as STAGE gives (R128). -/
def freshScores (defs : Vector ElementDef 32) : ScoreUnit :=
  { alliances := Vector.replicate 4 zeroAlliance, elements := mapTable freshScore defs }

/-- R152: STOPPED with RESET latched; the level of STOP_IN is the input's own, and PIN is latched if it is asserted when
the start-up completes. -/
def resetStop (stopIn completes : Bool) : StopUnit :=
  { stopped := true, pin := stopIn && completes, brk := false, console := false, reset := true, stopIn := stopIn }

/-- R170. -/
def resetLink : RobotLink :=
  { uplink := [], replies := [], port := none, beaconDue := true, beaconTimer := none,
    boxes := Vector.replicate 24 none }

/-- R182, at the CONSOLE RATE that the start-up leaves in force. -/
def resetConsole (rate : Nat) : ConsoleLink :=
  { receiver := .seeking, gapTimer := none, held := none, lineRate := rate, breakInProgress := false,
    restarting := false }

/-- The factory defaults (R186). -/
def factorySettings : Settings :=
  { consoleRate := 115200, allianceCount := 2, allowedTiers := 0xF, tierCaps := #v[40, 60, 80, 100],
    beaconInterval := 100, silenceLimit := 1000, confirmWindow := 500, downshiftThreshold := 3,
    downshiftEnable := true, restoreInterval := 4, restoreEnable := true, answerWindow := 3, pulseTime := 300 }

/-- Every element undefined (R65). -/
def noDefinitions : Vector ElementDef 32 := Vector.replicate 32 undefinedElement

/-- The status of an undefined element in a beacon (R164). -/
def undefinedStatus : ElementStatus := { holder := 0, waiting := 0, mode := .withdrawn, act := .none }

/-- The beacon that is the first downlink frame after a start-up, with no element defined (R170). -/
def firstBeacon : Beacon :=
  { phase := .idle, index := 0, kind := none, remaining := 0, stopped := true, permits := List.replicate 24 false,
    elements := List.replicate 32 undefinedStatus }

/-- The bus behind the transaction arbiter's first choice: the HALT that the start-up made pending is sent (R98, R115). -/
def startedBus : FieldBus :=
  { resetBus with haltPending := false, current := some { request := .halt, window := none } }

/-- The link behind the port arbiter's first choice: the due beacon is sent, and its interval timer starts (R160, R161,
R170). -/
def startedLink : RobotLink :=
  { resetLink with port := some { slot := 0, tag := 0, body := .beacon firstBeacon }, beaconDue := false,
                   beaconTimer := some (factorySettings.beaconInterval * 1000) }

/-- The bit of SETTINGS_DEFAULTED, flag 20 (R183). -/
def settingsDefaultedBit : FlagSet := 1#22 <<< 20

end Sys2Proof.Machine
end

