-- ==== Sys2Proof/Machine/State.lean ====
section
/-! DEFINITION. The state of the AF-24, the reasons for which a step could stop, and the state after reset. -/

namespace Sys2Proof.Machine

/-- The state of every block, and the commands that wait, first in first out. STOP_OUT and ATTN are views of it
(stopOut, attn). The counters freeCount and meetings are the model's own, for its free values (log entries 7 and 20). -/
structure State where
  clock : Clock
  roster : Roster
  table : ElementTable
  claims : Vector Claim 32
  bus : FieldBus
  lights : Vector Light 32
  score : ScoreUnit
  stop : StopUnit
  link : RobotLink
  console : ConsoleLink
  attention : Attention
  settings : Settings
  store : Store
  uptime : Nat
  resetAsserted : Bool
  freeCount : Nat
  meetings : Nat
  pending : List Instr
deriving DecidableEq, Repr

/-- No command of the AF-24 faults: the manual gives every command its outcome in every state, so the type has no
constructor. -/
inductive Fault where
deriving DecidableEq, Repr

/-- Why a command would be refused by the model. -/
inductive Refusal where
  /-- Raised by an arm of exec whose command has no meaning yet; safe, since nothing is then claimed of it. No arm
  raises it now. -/
  | notModelled (mnemonic : String)
deriving DecidableEq, Repr

/-- The reset values of every block at power-on with a standing copy that fails its check (log entry 3), STOP_IN and
RESET negated. -/
def State.resetValues : State :=
  { clock := resetClock, roster := resetRoster, table := resetTable noDefinitions, claims := resetClaims,
    bus := resetBus, lights := Vector.replicate 32 resetLight, score := freshScores noDefinitions,
    stop := resetStop false true, link := resetLink, console := resetConsole factorySettings.consoleRate,
    attention := { flags := settingsDefaultedBit, enables := 0 }, settings := factorySettings,
    store := { writing := none, standing := { settings := factorySettings, defs := noDefinitions },
               standingGood := false },
    uptime := 0, resetAsserted := false, freeCount := 0, meetings := 0, pending := [] }

/-- The machine right after that start-up: the arbiters have chosen on their free links, so the HALT and the first beacon
are being sent before any command is taken (R98, R115, R160, R170; log entry 6). -/
def State.reset : State := { State.resetValues with bus := startedBus, link := startedLink }

end Sys2Proof.Machine
end

