-- ==== Sys2Proof/Machine/Flags.lean ====
section
/-! DEFINITION. The attention flags and the output lines that follow the state (R144, R183, R184). -/

namespace Sys2Proof.Machine

/-- The 22 attention flags in the order of their numbers (R183). -/
inductive Flag where
  | periodEnd | lapse | matchOver | fieldStop | stopClear | admitted | lost | downshift | stranger | revoked
  | elementFault | withdrawn | presence | mailIn | mailTaken | consoleOverrun | radioCongestion | scoreClamp
  | passDone | consoleActDone | settingsDefaulted | storeDone
deriving DecidableEq, Repr

/-- The number of a flag (R183). -/
def flagNumber : Flag → Nat
  | .periodEnd => 0
  | .lapse => 1
  | .matchOver => 2
  | .fieldStop => 3
  | .stopClear => 4
  | .admitted => 5
  | .lost => 6
  | .downshift => 7
  | .stranger => 8
  | .revoked => 9
  | .elementFault => 10
  | .withdrawn => 11
  | .presence => 12
  | .mailIn => 13
  | .mailTaken => 14
  | .consoleOverrun => 15
  | .radioCongestion => 16
  | .scoreClamp => 17
  | .passDone => 18
  | .consoleActDone => 19
  | .settingsDefaulted => 20
  | .storeDone => 21

/-- The set that holds one flag. -/
def flagBit (f : Flag) : FlagSet := 1#22 <<< flagNumber f

/-- Whether a flag is set. -/
def State.flagSet (s : State) (f : Flag) : Bool := s.attention.flags.getLsbD (flagNumber f)

/-- A flag is set by its cause, whatever the enable set holds (R183). -/
def State.setFlag (f : Flag) (s : State) : State :=
  { s with attention := { s.attention with flags := s.attention.flags ||| flagBit f } }

/-- Sets the flag where a condition holds. -/
def State.setFlagIf (c : Bool) (f : Flag) (s : State) : State := if c then s.setFlag f else s

/-- Each flag of a set is cleared, the flags outside it are left as they stand (R185). -/
def State.clearFlags (set : FlagSet) (s : State) : State :=
  { s with attention := { s.attention with flags := s.attention.flags &&& ~~~set } }

/-- The whole enable set is replaced (R185). -/
def State.setEnables (set : FlagSet) (s : State) : State :=
  { s with attention := { s.attention with enables := set } }

/-- The ATTN line: asserted while a flag is both set and in the enable set (R184). -/
def State.attn (s : State) : Bool := s.attention.flags &&& s.attention.enables != 0

/-- The STOP_OUT line: asserted in STOPPED and negated in CLEAR (R144), asserted while RESET is held (R152). -/
def State.stopOut (s : State) : Bool := s.stop.stopped || s.resetAsserted

end Sys2Proof.Machine
end

