-- ==== Sys2Proof/Machine/Ops.lean ====
section
/-! DEFINITION. Reading and writing the records of the blocks, and the kinds of running time (R4, R5, R27, R51, R163). -/

namespace Sys2Proof.Machine

-- Units of duration in microseconds (00_scope.md, Units of duration)

/-- A duration in 100 ms units, in microseconds. -/
def tenths (n : Nat) : Nat := n * 100000

/-- A duration in 1 ms units, in microseconds. -/
def millis (n : Nat) : Nat := n * 1000

/-- A duration in 1 s units, in microseconds. -/
def seconds (n : Nat) : Nat := n * 1000000

/-- Time left rounded up to whole 100 ms units (R4). -/
def roundUp (us : Nat) : Nat := (us + 99999) / 100000

/-- The time left of a running timer as it is reported: at least 1 until the expiry is taken (R4, R68). -/
def leftReported (us : Nat) : Nat := max 1 (roundUp us)

/-- The time left of a timer as it is reported: 0 for none (R68). -/
def reported (t : Timer) : Nat := (t.map leftReported).getD 0

-- Records

/-- The record of a slot; a number outside 1..24 reads as an EMPTY slot. -/
def State.slot (s : State) (n : Nat) : Slot := at1 s.roster.slots n vacantSlot

/-- The roster with one slot record replaced. -/
def State.setSlot (n : Nat) (x : Slot) (s : State) : State :=
  { s with roster := { s.roster with slots := set1 s.roster.slots n x } }

/-- A slot record is changed by a function. -/
def State.modSlot (n : Nat) (f : Slot → Slot) (s : State) : State := s.setSlot n (f (s.slot n))

/-- The definition part of an element record; a number outside 1..32 reads as an undefined element. -/
def State.elemDef (s : State) (e : Nat) : ElementDef := at1 s.table.defs e undefinedElement

/-- The table with one definition part replaced. -/
def State.setDef (e : Nat) (x : ElementDef) (s : State) : State :=
  { s with table := { s.table with defs := set1 s.table.defs e x } }

/-- The run-time part of an element record. -/
def State.run (s : State) (e : Nat) : ElementRun := at1 s.table.runs e (freshRun undefinedElement)

/-- The table with one run-time part replaced. -/
def State.setRun (e : Nat) (x : ElementRun) (s : State) : State :=
  { s with table := { s.table with runs := set1 s.table.runs e x } }

/-- A run-time part is changed by a function. -/
def State.modRun (e : Nat) (f : ElementRun → ElementRun) (s : State) : State := s.setRun e (f (s.run e))

/-- The claim state of an element. -/
def State.claim (s : State) (e : Nat) : Claim := at1 s.claims e emptyClaim

/-- One claim state is replaced. -/
def State.setClaim (e : Nat) (x : Claim) (s : State) : State := { s with claims := set1 s.claims e x }

/-- The light record of an element. -/
def State.light (s : State) (e : Nat) : Light := at1 s.lights e resetLight

/-- One light record is replaced. -/
def State.setLight (e : Nat) (x : Light) (s : State) : State := { s with lights := set1 s.lights e x }

/-- The actuation record of an element. -/
def State.act (s : State) (e : Nat) : ActRecord := at1 s.bus.acts e restAct

/-- One actuation record is replaced. -/
def State.setAct (e : Nat) (x : ActRecord) (s : State) : State :=
  { s with bus := { s.bus with acts := set1 s.bus.acts e x } }

/-- The command queue is replaced. -/
def State.setQueue (q : List Entry) (s : State) : State := { s with bus := { s.bus with queue := q } }

/-- The pass-through slot is replaced. -/
def State.setPass (p : PassSlot) (s : State) : State := { s with bus := { s.bus with pass := p } }

/-- The score state of an element. -/
def State.elemScore (s : State) (e : Nat) : ElementScore :=
  at1 s.score.elements e (freshScore undefinedElement)

/-- One element's score state is replaced. -/
def State.setElemScore (e : Nat) (x : ElementScore) (s : State) : State :=
  { s with score := { s.score with elements := set1 s.score.elements e x } }

/-- The record of an alliance. -/
def State.alliance (s : State) (a : Nat) : AllianceRecord := at1 s.score.alliances a zeroAlliance

/-- One alliance record is replaced. -/
def State.setAlliance (a : Nat) (x : AllianceRecord) (s : State) : State :=
  { s with score := { s.score with alliances := set1 s.score.alliances a x } }

/-- The message box of a slot; none for an empty box (R165). -/
def State.box (s : State) (n : Nat) : Option Message := at1 s.link.boxes n none

/-- One message box is replaced. -/
def State.setBox (n : Nat) (x : Option Message) (s : State) : State :=
  { s with link := { s.link with boxes := set1 s.link.boxes n x } }

-- The Match Clock's readings

/-- The record of the current period; none when the index is 0 (R3). -/
def State.currentPeriod (s : State) : Option Period :=
  match s.clock.plan with
  | some p => if s.clock.index = 0 then none else p.periods[s.clock.index - 1]?
  | none => none

/-- The current kind; none stands for the kind NONE (R3). -/
def State.currentKind (s : State) : Option PeriodKind := s.currentPeriod.map (·.kind)

/-- The period factor of a credit (R133). -/
def State.periodFactor (s : State) : Nat := (s.currentPeriod.map (·.factor)).getD 0

/-- The number of periods in the loaded plan, 0 when it is empty (R17). -/
def State.periodCount (s : State) : Nat := (s.clock.plan.map (·.periods.length)).getD 0

/-- Match time runs while the phase is RUNNING (R5). -/
def State.matchTime (s : State) : Bool := s.clock.phase = .running

/-- A driving kind (R1). -/
def isDriving : Option PeriodKind → Bool
  | some .auto => true
  | some .driver => true
  | some .endgame => true
  | some .interval => false
  | none => false

/-- Drive time runs while match time runs and the current kind is a driving kind (R5). -/
def State.driveTime (s : State) : Bool := s.matchTime && isDriving s.currentKind

/-- Remaining time as it is reported; a period reads 0 only from its expiry on, and in GRACE it is the grace left (R4, R11,
R17). -/
def State.remainingReported (s : State) : Nat :=
  match s.clock.phase with
  | .running => leftReported s.clock.remaining
  | .held => if s.clock.mark = .paused then leftReported s.clock.remaining else 0
  | .grace => reported s.clock.graceTimer
  | .idle | .staging | .finished => 0

/-- The drive permit of a slot (R163). -/
def State.drivePermit (s : State) (n : Nat) : Bool := (s.slot n).state = .admitted && s.driveTime

-- Elements

/-- An element is defined unless its kind is NONE (R45). -/
def State.defined (s : State) (e : Nat) : Bool := (s.elemDef e).kind != .none

/-- Some element is defined (R98). -/
def State.someDefined (s : State) : Bool := elementNumbers.any s.defined

/-- The effective mode of a defined element; withdraw pending is read beside it (R51). -/
def State.mode (s : State) (e : Nat) : Mode :=
  let r := s.run e
  if r.withdrawn then .withdrawn else if r.silent then .silent else if r.refusing then .refusing else .opened

/-- The mode that READ ELEMENT reports: WITHDRAWN for kind NONE (R196). -/
def State.modeReported (s : State) (e : Nat) : Mode := if s.defined e then s.mode e else .withdrawn

/-- The mode that the beacon shows: an OPEN element with withdraw pending shows REFUSING (R51, R164). -/
def State.modeShown (s : State) (e : Nat) : Mode :=
  if s.modeReported e = .opened && (s.run e).withdrawPending then .refusing else s.modeReported e

/-- The alliance of the holder, read from the holder's slot record (R92, R117, R132). -/
def State.holderAlliance (s : State) (e : Nat) : Option Nat := (s.claim e).holder.map fun h => (s.slot h).alliance

/-- An element is claimable (R69). -/
def claimable (d : ElementDef) : Bool :=
  match d.kind with
  | .gate | .dispenser | .tower => true
  | .goal => d.side.isNone
  | .none => false

/-- A kind that is actuated (R100). -/
def actuable (d : ElementDef) : Bool :=
  match d.kind with
  | .gate | .dispenser => true
  | .goal | .tower | .none => false

/-- The largest value of a two-byte saturating count (R124, R125). -/
def countLimit : Nat := 65535

/-- A saturating addition to a two-byte count. -/
def satAdd (a b : Nat) : Nat := min countLimit (a + b)

/-- Places in the command queue (R97). -/
def queuePlaces : Nat := 16

/-- Real time since the last start-up in 100 ms units, kept at 4,294,967,295 (R62). -/
def State.faultTime (s : State) : Nat := min 4294967295 (s.uptime / 100000)

/-- A beacon becomes due (R161). -/
def State.makeBeaconDue (s : State) : State := { s with link := { s.link with beaconDue := true } }

/-- While RESET is held asserted no frame, record or timer event is taken (R189). -/
def whenAwake (f : State → State) (s : State) : State := if s.resetAsserted then s else f s

end Sys2Proof.Machine
end

