-- ==== Sys2Proof/Machine/Indicator.lean ====
section
/-! DEFINITION. The Indicator Unit's shared operations: the computed display, the recomputation, the freed place and the
result of a LIGHT (chapter 6). -/

namespace Sys2Proof.Machine

/-- The first condition of R117 whose policy flag is held gives the display of an element in play. -/
def displayInPlay (d : ElementDef) (r : ElementRun) (c : Claim) (l : Light) (holderAlliance : Option Nat) : Display :=
  if d.policy.score && l.pulse.isSome then .lit .pulse (.alliance (l.lastCredited.getD 0))
  else if d.policy.contest && c.holder.isSome && !c.waiters.isEmpty then
    .lit .slow (.alliance (holderAlliance.getD 0))
  else if d.policy.pending && (r.withdrawPending || r.jammed) then .lit .fast .white
  else if d.policy.hold && !d.policy.noSteady then
    match holderAlliance, d.side with
    | some a, _ => .lit .steady (.alliance a)
    | none, some a => .lit .steady (.alliance a)
    | none, none => .off
  else .off

/-- The computed display (R117): a withdrawn or undefined element computes OFF NONE. -/
def State.display (s : State) (e : Nat) : Display :=
  if !s.defined e || (s.run e).withdrawn then .off
  else displayInPlay (s.elemDef e) (s.run e) (s.claim e) (s.light e) (s.holderAlliance e)

/-- A LIGHT entry for the element. -/
def Entry.isLightFor (x : Entry) (e : Nat) : Bool :=
  match x.arg with
  | .light _ => x.element = e
  | .actuate _ => false
  | .raw _ => false

/-- The queue holds a LIGHT entry for the element (R97). -/
def State.lightQueued (s : State) (e : Nat) : Bool := s.bus.queue.any (·.isLightFor e)

/-- A LIGHT entry, with origin CONSOLE and no charge (R120). -/
def lightEntry (e : Nat) (d : Display) : Entry :=
  { element := e, arg := .light d, origin := .console, charge := none }

/-- The queue with the contents of the element's LIGHT entry replaced in its place (R97, R120). -/
def replaceLight (e : Nat) (d : Display) (q : List Entry) : List Entry :=
  q.map fun x => if x.isLightFor e then { x with arg := .light d } else x

/-- The issuing of a light record's computed display, by the first case of R120 that applies. -/
def issueLight (e : Nat) (l : Light) (s : State) : State :=
  if l.issued = some l.computed then s.setLight e { l with owed := false }
  else if s.lightQueued e then
    (s.setQueue (replaceLight e l.computed s.bus.queue)).setLight e { l with issued := some l.computed }
  else if s.bus.queue.length < queuePlaces then
    (s.setQueue (s.bus.queue ++ [lightEntry e l.computed])).setLight e
      { l with issued := some l.computed, owed := false }
  else s.setLight e { l with owed := true }

/-- A recomputation of an element (R119, R120); an undefined element is never issued a light. -/
def recompute (e : Nat) (s : State) : State :=
  if s.defined e then issueLight e { s.light e with computed := s.display e } s else s

/-- Several elements are recomputed in the order in which they are handed over (R119). -/
def recomputeAll (es : List Nat) (s : State) : State := es.foldl (fun s e => recompute e s) s

/-- The light-owed element with the lowest element number (R121). -/
def State.lowestOwed (s : State) : Option Nat := elementNumbers.find? fun e => (s.light e).owed

/-- A freed place is taken: it serves the lowest owed element, if the queue has room (R121). -/
def servePlace (s : State) : State :=
  match s.lowestOwed with
  | none => s
  | some e =>
    if s.bus.queue.length < queuePlaces then
      (s.setQueue (s.bus.queue ++ [lightEntry e (s.light e).computed])).setLight e
        { s.light e with issued := some (s.light e).computed, owed := false }
    else s

/-- Several freed places are taken one after another (R121). -/
def servePlaces : Nat → State → State
  | 0, s => s
  | n + 1, s => servePlaces n (servePlace s)

/-- The freed places that wait behind other requests are taken (R121). -/
def takeWaitingPlaces (s : State) : State := servePlaces s.bus.freed { s with bus := { s.bus with freed := 0 } }

/-- An entry's departure hands on its freed place (R121): it is taken at once, or it waits until other requests of the same
instant have been taken, as the free value has it (log entry 20). Without an owed element nothing happens. -/
def freedPlace (s : State) : State :=
  if s.lowestOwed.isNone then s
  else if Config.otherRequestFirst s.meetings then
    { s with bus := { s.bus with freed := s.bus.freed + 1 }, meetings := s.meetings + 1 }
  else servePlace { s with meetings := s.meetings + 1 }

/-- The undefining of an element clears its light record (R119). -/
def clearLight (e : Nat) (s : State) : State := s.setLight e resetLight

/-- A credit starts or restarts the element's pulse in the colour of the credited alliance (R118). -/
def startPulse (e a : Nat) (s : State) : State :=
  recompute e (s.setLight e { s.light e with lastCredited := some a, pulse := some (millis s.settings.pulseTime) })

/-- A LIGHT that brought no answer or a failed check (R122). -/
def lightFailed (e : Nat) (s : State) : State :=
  if s.defined e && !s.lightQueued e then s.setLight e { s.light e with issued := none } else s

end Sys2Proof.Machine
end

