-- ==== Sys2Proof/Machine/Scoring.lean ====
section
/-! DEFINITION. The Score Unit's shared operations: saturation, credits, arrivals, quotas and the tower accumulator
(chapter 7). -/

namespace Sys2Proof.Machine

/-- An addition to a score with saturation; the excess goes to the clamp loss and SCORE_CLAMP is set (R124). -/
def addPoints (a n : Nat) (s : State) : State :=
  let r := s.alliance a
  if r.score + n ≤ countLimit then s.setAlliance a { r with score := r.score + n }
  else (s.setAlliance a { r with score := countLimit, clampLoss := satAdd r.clampLoss (r.score + n - countLimit) }).setFlag
    .scoreClamp

/-- A penalty: a subtraction with a floor, whose shortfall goes to the clamp loss, and the full amount to the penalty
points applied (R124, R139). -/
def takePoints (a n : Nat) (s : State) : State :=
  let r := s.alliance a
  let p := satAdd r.penalty n
  if n ≤ r.score then s.setAlliance a { r with score := r.score - n, penalty := p }
  else (s.setAlliance a { score := 0, penalty := p, clampLoss := satAdd r.clampLoss (n - r.score) }).setFlag .scoreClamp

/-- The points of a credit: the product of the four factors in 64ths, rounded half up (R134, R137). -/
def creditPoints (n v m p : Nat) : Nat := (n * v * m * p + 32) / 64

/-- A credit of n objects to an alliance with a multiplier in eighths (R133, R134, R135). -/
def creditGoal (e a m n : Nat) (s : State) : State :=
  let s := addPoints a (creditPoints n (s.elemDef e).baseValue m s.periodFactor) s
  let s := s.setElemScore e { s.elemScore e with credited := satAdd (s.elemScore e).credited n }
  startPulse e a s

/-- The credit window (R131). -/
def creditWindow (p : Phase) : Bool :=
  match p with
  | .running | .held | .grace => true
  | .idle | .staging | .finished => false

/-- The counting of n objects that have arrived at a goal (R131, R132). -/
def countObjects (e n : Nat) (s : State) : State :=
  if !creditWindow s.clock.phase || (s.run e).withdrawn then
    s.setElemScore e { s.elemScore e with uncounted := satAdd (s.elemScore e).uncounted n }
  else
    match (s.elemDef e).side, s.holderAlliance e with
    | some a, _ => creditGoal e a 8 n s
    | none, some a => creditGoal e a (s.elemDef e).controlBonus n s
    | none, none =>
      s.setElemScore e { s.elemScore e with unattributed := satAdd (s.elemScore e).unattributed n }

/-- The arrival count: the total minus the baseline, modulo 256 (R130). -/
def arrivalCount (total baseline : Nat) : Nat := (total + 256 - baseline) % 256

/-- The object total of a good POLL answer from a GOAL (R130). -/
def goalTotal (e total : Nat) (s : State) : State :=
  let s' := s.setElemScore e { s.elemScore e with baseline := some total }
  match (s.elemScore e).baseline with
  | none => s'
  | some b => if arrivalCount total b = 0 then s' else countObjects e (arrivalCount total b) s'

/-- The remaining quota of an alliance at an element (R125, R126). -/
def State.quotaLeft (s : State) (e a : Nat) : Nat := at1 (s.elemScore e).quotas a 0

/-- The remaining quota of an alliance at an element is replaced. -/
def setQuota (e a q : Nat) (s : State) : State :=
  s.setElemScore e { s.elemScore e with quotas := set1 (s.elemScore e).quotas a q }

/-- A charge lowers the alliance's remaining quota (R126). -/
def chargeQuota (e a n : Nat) (s : State) : State := setQuota e a (s.quotaLeft e a - n) s

/-- A refund raises the alliance's remaining quota within the element's quota (R127). -/
def refundQuota (e a n : Nat) (s : State) : State := setQuota e a (min (s.elemDef e).quota (s.quotaLeft e a + n)) s

/-- The element's tower accumulator becomes 0 (R138). -/
def clearAccumulator (e : Nat) (s : State) : State := s.setElemScore e { s.elemScore e with accumulator := 0 }

/-- The setting up of a match on entering STAGING (R128). -/
def setUpScores (s : State) : State := { s with score := freshScores s.table.defs }

/-- The score state after a definition: the three tallies keep their values (R129). -/
def defineScore (e : Nat) (s : State) : State :=
  s.setElemScore e { s.elemScore e with baseline := none, accumulator := 0, quotas := fullQuotas (s.elemDef e) }

/-- 1000 ms are taken from the element's tower accumulator (R137, step 1). -/
def takeSecond (e : Nat) (s : State) : State :=
  s.setElemScore e { s.elemScore e with accumulator := (s.elemScore e).accumulator - seconds 1 }

/-- A tower second: 1000 ms leave the accumulator, and a second's points go to the holder's alliance (R137). -/
def creditSecond (e a : Nat) (s : State) : State :=
  let s := takeSecond e s
  let s := addPoints a (creditPoints 1 (s.elemDef e).baseValue (s.elemDef e).controlBonus s.periodFactor) s
  startPulse e a s

end Sys2Proof.Machine
end

