-- ==== Sys2Proof/Machine/Arbiter.lean ====
section
/-! DEFINITION. The Claim Arbiter's shared operations: grant, handover, revocation, drop, emptying and clearing
(chapter 4). -/

namespace Sys2Proof.Machine

/-- A slot's hold count or wait count is changed together with the holder or list it counts (R67). -/
def countHold (n : Nat) (up : Bool) (s : State) : State :=
  s.modSlot n fun x => { x with holdCount := if up then x.holdCount + 1 else x.holdCount - 1 }

/-- As countHold, for the wait count. -/
def countWait (n : Nat) (up : Bool) (s : State) : State :=
  s.modSlot n fun x => { x with waitCount := if up then x.waitCount + 1 else x.waitCount - 1 }

/-- A fresh hold timer: the element's hold limit if that limit is above 0 (R68). -/
def freshHold (d : ElementDef) : Timer := if d.holdLimit = 0 then none else some (tenths d.holdLimit)

/-- A slot leaves the wait list of one element; the waiters behind it move up (R66). -/
def leaveList (n e : Nat) (s : State) : State :=
  if (s.claim e).waiters.contains n then
    recompute e (countWait n false (s.setClaim e { s.claim e with waiters := (s.claim e).waiters.erase n }))
  else s

/-- A slot is removed from every wait list it stands in, and its wait count becomes 0 (R67, R87). DESIGN CHOICE (R119, log
entry 8): the elements whose lists it leaves are handed over in ascending number, for a new holder and for a drop. -/
def leaveAllLists (n : Nat) (s : State) : State :=
  (elementNumbers.foldl (fun s e => leaveList n e s) s).modSlot n fun x => { x with waitCount := 0 }

/-- A slot becomes holder with a fresh hold timer; a slot that now holds 2 leaves every wait list (R67, R73, R79). -/
def becomeHolder (n e : Nat) (s : State) : State :=
  let s := s.setClaim e { s.claim e with holder := some n, holdTimer := freshHold (s.elemDef e) }
  let s := countHold n true s
  let s := recompute e (clearAccumulator e s)
  if (s.slot n).holdCount = 2 then leaveAllLists n s else s

/-- The handover of an element that has lost its holder (R79). -/
def handover (e : Nat) (s : State) : State :=
  match (s.claim e).waiters with
  | [] => recompute e (clearAccumulator e s)
  | n :: rest => becomeHolder n e (countWait n false (s.setClaim e { s.claim e with waiters := rest }))

/-- The holder becomes none, the hold timer stops and the former holder's hold count is decremented. -/
def dropHolder (e : Nat) (s : State) : State :=
  match (s.claim e).holder with
  | none => s
  | some h => countHold h false (s.setClaim e { s.claim e with holder := none, holdTimer := none })

/-- A hold ends and the element is handed over (R77, R87). -/
def endHold (e : Nat) (s : State) : State := handover e (dropHolder e s)

/-- A former holder is barred if the element's cooldown is above 0 (R81, step 2). -/
def bar (n e : Nat) (s : State) : State :=
  if (s.elemDef e).cooldown = 0 then s
  else s.setClaim e { s.claim e with barred := some { slot := n, left := tenths (s.elemDef e).cooldown } }

/-- A slot joins the end of a wait list (R74). -/
def joinList (n e : Nat) (s : State) : State :=
  recompute e (countWait n true (s.setClaim e { s.claim e with waiters := (s.claim e).waiters ++ [n] }))

/-- The hold of a slot on one element ends, if it has one. -/
def endHoldOf (n e : Nat) (s : State) : State := if (s.claim e).holder = some n then endHold e s else s

/-- The drop of a slot's claims: every wait list first, then each hold in ascending element number (R87). -/
def dropClaims (n : Nat) (s : State) : State :=
  elementNumbers.foldl (fun s e => endHoldOf n e s) (leaveAllLists n s)

/-- The emptying of an element by a withdrawal, without handover (R90). -/
def emptyElement (e : Nat) (s : State) : State :=
  let s := (s.claim e).waiters.foldl (fun s n => countWait n false s) (dropHolder e s)
  s.setClaim e emptyClaim

/-- One element of the clearing: its claim state is emptied, its accumulator cleared, and its light recomputed if its
holder or wait list changed (R89, R92). -/
def clearElement (e : Nat) (s : State) : State :=
  let c := s.claim e
  let s := clearAccumulator e (s.setClaim e emptyClaim)
  if c.holder.isSome || !c.waiters.isEmpty then recompute e s else s

/-- The clearing on entering GRACE and FINISHED (R89); the changed elements are handed over in ascending number (R119, log
entry 8). -/
def clearClaims (s : State) : State :=
  let s := { s with roster := { s.roster with
    slots := mapTable (fun x => { x with holdCount := 0, waitCount := 0 }) s.roster.slots } }
  elementNumbers.foldl (fun s e => clearElement e s) s

/-- The position of a waiter, 1 for the head (R66). -/
def waitPosition (n : Nat) (ws : List Nat) : Nat := ws.idxOf n + 1

/-- The cooldown time left of the element's bar, as it is reported (R68). -/
def cooldownReported (c : Claim) : Nat := (c.barred.map fun b => leftReported b.left).getD 0

/-- The outcome of a CLAIM that passes R70: the checks of R71 to R74 in their order, with the detail of R75. -/
def claimElement (n e : Nat) (s : State) : State × AnswerCode × Nat :=
  let d := s.elemDef e
  let c := s.claim e
  let x := s.slot n
  if !claimable d then (s, .notClaimable, 0)
  else if d.side.isSome && d.side != some x.alliance then (s, .wrongSide, 0)
  else if x.tier.getD 0 < d.minTier then (s, .tierLow, 0)
  else if c.barred.map (·.slot) = some n then (s, .cooldown, cooldownReported c)
  else if c.holder = some n then (s, .held, reported c.holdTimer)
  else if c.waiters.contains n then (s, .queued, waitPosition n c.waiters)
  else if c.holder.isNone then
    if 2 ≤ x.holdCount then (s, .limit, 0) else (becomeHolder n e s, .granted, d.holdLimit)
  else if 2 ≤ x.holdCount || 2 ≤ x.waitCount then (s, .limit, 0)
  else if 4 ≤ c.waiters.length then (s, .full, 0)
  else (joinList n e s, .queued, c.waiters.length + 1)

/-- The outcome of a RELEASE that passes the checks of its element, mode and phase (R77, checks 4 to 6). -/
def releaseElement (n e : Nat) (s : State) : State × AnswerCode × Nat :=
  if (s.claim e).holder = some n then (endHold e s, .released, 0)
  else if (s.claim e).waiters.contains n then (leaveList n e s, .leftQueue, 0)
  else (s, .notHeld, 0)

/-- The revocation of a holder by its hold limit: bar, REVOKED, handover (R81). -/
def expireHold (e : Nat) (s : State) : State :=
  match (s.claim e).holder with
  | none => s
  | some h => handover e ((bar h e (dropHolder e s)).setFlag .revoked)

end Sys2Proof.Machine
end

