-- ==== Sys2Proof/Machine/Elements.lean ====
section
/-! DEFINITION. The Element Table's shared operations: faults, presence, withdrawal and the end of an actuation
(chapter 3, R106). -/

namespace Sys2Proof.Machine

/-- The priority of a fault kind, 1 the highest (R61). -/
def faultPriority : FaultKind → Nat
  | .jam => 1
  | .absent => 2
  | .check => 3
  | .refused => 4

/-- A recorded fault reaches the fault capture (R62). -/
def captureFault (e : Nat) (k : FaultKind) (s : State) : State :=
  let new : CapturedFault := { kind := k, element := e, time := s.faultTime }
  match s.table.capture with
  | none => { s with table := { s.table with capture := some new } }
  | some held =>
    if faultPriority k < faultPriority held.kind then
      { s with table := { s.table with capture := some new, repeated := true } }
    else { s with table := { s.table with repeated := true } }

/-- A fault of an element is recorded (R61). -/
def recordFault (e : Nat) (k : FaultKind) (s : State) : State :=
  let was := (s.run e).jammed
  let s := s.modRun e fun r =>
    { r with faultTally := min 255 (r.faultTally + 1), lastFault := some k, jammed := r.jammed || k == .jam }
  let s := if k = .jam && !was then recompute e s else s
  (captureFault e k s).setFlag .elementFault

/-- A good answer at a defined element (R59). -/
def goodAnswer (e : Nat) (s : State) : State :=
  let r := s.run e
  (s.setRun e { r with missCount := 0, presence := .present }).setFlagIf (r.presence != .present) .presence

/-- The counting of a miss (R60, steps 2 and 3). -/
def countMiss (e : Nat) (s : State) : State :=
  let r := s.run e
  if r.presence = .absent then s
  else if r.missCount + 1 < 3 then s.setRun e { r with missCount := r.missCount + 1 }
  else (recordFault e .absent (s.setRun e { r with missCount := 3, presence := .absent })).setFlag .presence

/-- A transaction that brought no answer, or an answer that failed its check (R60). -/
def missedAnswer (e : Nat) (failedCheck : Bool) (s : State) : State :=
  countMiss e (if failedCheck then recordFault e .check s else s)

/-- A withdrawal takes effect (R56). -/
def withdrawNow (e : Nat) (s : State) : State :=
  let s := s.modRun e fun r => { r with withdrawn := true, withdrawPending := false }
  let s := clearAccumulator e (emptyElement e s)
  recompute e (s.setFlag .withdrawn)

/-- The fault that the ending of an actuation carries (R57). -/
def endingFault : ActOutcome → Option FaultKind
  | .jammed => some .jam
  | .refused => some .refused
  | .done => none
  | .halted => none
  | .noAnswer => none
  | .aborted => none

/-- The end of an actuation at the Element Table: outcome, fault, pending withdrawal (R57). -/
def actuationEnded (e : Nat) (o : ActOutcome) (s : State) : State :=
  let s := s.modRun e fun r => { r with lastOutcome := some o }
  let s := match endingFault o with
    | some k => recordFault e k s
    | none => s
  if (s.run e).withdrawPending then withdrawNow e s else s

/-- The refund of an ABORTED actuation that carried a charge (R106, step 2). -/
def refundCharge (e : Nat) (o : ActOutcome) (c : Option Charge) (s : State) : State :=
  match o, c with
  | .aborted, some c => refundQuota e c.alliance c.count s
  | .aborted, none => s
  | .done, _ => s
  | .jammed, _ => s
  | .halted, _ => s
  | .refused, _ => s
  | .noAnswer, _ => s

/-- An actuation ends, whichever way (R106). -/
def endActuation (e : Nat) (o : ActOutcome) (s : State) : State :=
  let a := s.act e
  let s := refundCharge e o a.charge (s.setAct e restAct)
  (actuationEnded e o s).setFlagIf (a.origin = some .console) .consoleActDone

/-- The default flags of every defined element are copied into its live flags (R54). -/
def copyDefaultFlags (s : State) : State :=
  elementNumbers.foldl (fun s e =>
    if s.defined e then
      s.modRun e fun r => { r with refusing := (s.elemDef e).defaultRefusing, silent := (s.elemDef e).defaultSilent }
    else s) s

end Sys2Proof.Machine
end

