-- ==== Sys2Proof/Machine/Crc.lean ====
section
/-! DEFINITION. Bytes of multi-byte fields, the bits of a byte on its line, and the CRC-16 of the three links (R190). -/

namespace Sys2Proof.Machine

/-- A number as a byte. -/
def byte (n : Nat) : Byte := BitVec.ofNat 8 n

/-- A number as two bytes, least significant first (R190). -/
def twoBytes (n : Nat) : List Byte := [byte n, byte (n / 256)]

/-- A number as three bytes, least significant first. -/
def threeBytes (n : Nat) : List Byte := [byte n, byte (n / 256), byte (n / 65536)]

/-- A number as four bytes, least significant first. -/
def fourBytes (n : Nat) : List Byte := [byte n, byte (n / 256), byte (n / 65536), byte (n / 16777216)]

/-- A mark as one byte, 1 for yes and 0 for no (R194). -/
def markByte (b : Bool) : Byte := if b then 1 else 0

/-- The byte at an offset of a payload. -/
def byteAt (p : List Byte) (i : Nat) : Byte := p.getD i 0

/-- The two-byte field at an offset of a payload. -/
def halfAt (p : List Byte) (i : Nat) : Half := byteAt p (i + 1) ++ byteAt p i

/-- The three-byte field at an offset of a payload. -/
def tripleAt (p : List Byte) (i : Nat) : BitVec 24 := byteAt p (i + 2) ++ byteAt p (i + 1) ++ byteAt p i

/-- The four-byte field at an offset of a payload. -/
def wordAt (p : List Byte) (i : Nat) : Word :=
  byteAt p (i + 3) ++ byteAt p (i + 2) ++ byteAt p (i + 1) ++ byteAt p i

/-- The bits of a byte in the order in which they go out on its line, least significant first (R190). -/
def byteBits (b : Byte) : List Bool :=
  [b.getLsbD 0, b.getLsbD 1, b.getLsbD 2, b.getLsbD 3, b.getLsbD 4, b.getLsbD 5, b.getLsbD 6, b.getLsbD 7]

/-- The bits of a frame's bytes on a line (R190). -/
def lineBits (bytes : List Byte) : List Bool := bytes.flatMap byteBits

/-- The number that bits give, the first at bit 0 (R190, R193). -/
def bitsValue : List Bool → Nat
  | [] => 0
  | b :: rest => b.toNat + 2 * bitsValue rest

/-- The bytes that a line's bits give, eight bits each; bits that fill no byte give none (R190). -/
def lineBytes : List Bool → List Byte
  | b0 :: b1 :: b2 :: b3 :: b4 :: b5 :: b6 :: b7 :: rest =>
    byte (bitsValue [b0, b1, b2, b3, b4, b5, b6, b7]) :: lineBytes rest
  | _ => []

/-- One step of the CRC register (R190, step 3). -/
def crcShift (r : BitVec 16) : BitVec 16 := if r.msb then (r <<< 1) ^^^ 0x1021#16 else r <<< 1

/-- A number of steps of the CRC register. -/
def crcShifts : Nat → BitVec 16 → BitVec 16
  | 0, r => r
  | k + 1, r => crcShifts k (crcShift r)

/-- One covered byte is taken into the register (R190, steps 2 and 3). -/
def crcByte (r : BitVec 16) (b : Byte) : BitVec 16 := crcShifts 8 (r ^^^ (b ++ 0#8))

/-- The CRC-16 over the covered bytes (R190). -/
def crc16 (bytes : List Byte) : BitVec 16 := bytes.foldl crcByte 0xFFFF#16

/-- A frame: the lead byte, the covered bytes and their CRC, low byte first (R190, R191). -/
def closeFrame (lead : Byte) (covered : List Byte) : List Byte := lead :: covered ++ twoBytes (crc16 covered).toNat

/-- The covered bytes of a frame that begins with its lead byte and ends with the CRC over them; none otherwise. -/
def openFrame (lead : Byte) (bytes : List Byte) : Option (List Byte) :=
  match bytes with
  | [] => none
  | b :: rest =>
    if b = lead && 2 ≤ rest.length then
      let covered := rest.take (rest.length - 2)
      if rest.drop (rest.length - 2) = twoBytes (crc16 covered).toNat then some covered else none
    else none

end Sys2Proof.Machine
end

