-- ==== Sys2Proof/Machine/Codes.lean ====
section
/-! DEFINITION. The code values that the AF-24 sends (R193 to R196). -/

namespace Sys2Proof.Machine

/-- R193. -/
def phaseCode : Phase → Nat
  | .idle => 0
  | .staging => 1
  | .running => 2
  | .held => 3
  | .grace => 4
  | .finished => 5

/-- R193. -/
def periodKindCode : Option PeriodKind → Nat
  | none => 0
  | some .auto => 1
  | some .driver => 2
  | some .endgame => 3
  | some .interval => 4

/-- R196. -/
def markCode : HeldMark → Nat
  | .none => 0
  | .paused => 1
  | .atEnd => 2

/-- R196. -/
def slotStateCode : SlotState → Nat
  | .empty => 0
  | .expected => 1
  | .offered => 2
  | .admitted => 3
  | .disabled => 4
  | .lost => 5

/-- Disable remaining: 0 for absent, the time left rounded up, FFFFh for PERMANENT (R24, R196). -/
def disableCode : Option Disable → Nat
  | none => 0
  | some .permanent => 0xFFFF
  | some (.timed left) => leftReported left

/-- R194. -/
def elementKindCode : ElementKind → Nat
  | .none => 0
  | .goal => 1
  | .gate => 2
  | .dispenser => 3
  | .tower => 4

/-- R193. -/
def modeCode : Mode → Nat
  | .opened => 0
  | .refusing => 1
  | .silent => 2
  | .withdrawn => 3

/-- R193. -/
def actStateCode : ActState → Nat
  | .none => 0
  | .queued => 1
  | .inFlight => 2

/-- R196. -/
def presenceCode : Presence → Nat
  | .unknown => 0
  | .present => 1
  | .absent => 2

/-- R196. -/
def faultCode : Option FaultKind → Nat
  | none => 0
  | some .jam => 1
  | some .absent => 2
  | some .check => 3
  | some .refused => 4

/-- R196. -/
def outcomeOfActCode : Option ActOutcome → Nat
  | none => 0
  | some .done => 1
  | some .jammed => 2
  | some .halted => 3
  | some .refused => 4
  | some .noAnswer => 5
  | some .aborted => 6

/-- Five marks packed from bit 0 up. -/
def packMarks (a b c d e : Bool) : Nat :=
  (if a then 1 else 0) + (if b then 2 else 0) + (if c then 4 else 0) + (if d then 8 else 0) + (if e then 16 else 0)

/-- SHOW_HOLD bit 0 to NO_STEADY bit 4 (R196). -/
def policyCode (p : Policy) : Nat := packMarks p.hold p.contest p.pending p.score p.noSteady

/-- R194. -/
def displayCode : Display → Nat
  | .off => 0
  | .lit .steady _ => 1
  | .lit .slow _ => 2
  | .lit .fast _ => 3
  | .lit .pulse _ => 4

/-- R194. -/
def colourCode : Display → Nat
  | .off => 0
  | .lit _ (.alliance a) => a
  | .lit _ .white => 5

/-- R195. -/
def outcomeCode : OutcomeCode → Nat
  | .ok => 0x00
  | .okAdjusted => 0x01
  | .accepted => 0x02
  | .badState => 0x10
  | .badArg => 0x11
  | .notFound => 0x12
  | .busy => 0x13
  | .full => 0x14
  | .stopHeld => 0x15
  | .noPlan => 0x16
  | .notStopped => 0x17
  | .jammed => 0x18
  | .boxFull => 0x19
  | .boxEmpty => 0x1A
  | .badOffset => 0x1B
  | .pending => 0x1C
  | .frameError => 0x1D
  | .unknownRequest => 0x1E

/-- R195. -/
def answerCode : AnswerCode → Nat
  | .granted => 0x00
  | .held => 0x01
  | .queued => 0x02
  | .released => 0x03
  | .leftQueue => 0x04
  | .notHeld => 0x05
  | .full => 0x06
  | .limit => 0x07
  | .closed => 0x08
  | .notClaimable => 0x09
  | .wrongSide => 0x0A
  | .tierLow => 0x0B
  | .cooldown => 0x0C
  | .notNow => 0x0D
  | .notAdmitted => 0x0E
  | .disabled => 0x0F
  | .busy => 0x10
  | .fieldBusy => 0x11
  | .jammed => 0x12
  | .absentElement => 0x13
  | .notActuable => 0x14
  | .quotaSpent => 0x15
  | .accepted => 0x16
  | .noSuchElement => 0x17
  | .unknownKit => 0x18
  | .noCommonTier => 0x19
  | .tierMismatch => 0x1A
  | .notOffered => 0x1B
  | .confirmed => 0x1C
  | .left => 0x1D
  | .boxFull => 0x1E
  | .boxEmpty => 0x1F
  | .badOffset => 0x20
  | .ok => 0x21

/-- The kind value of an uplink frame (R192). -/
def uplinkKind : UplinkBody → Nat
  | .hello _ _ => 1
  | .confirm _ => 2
  | .presence => 3
  | .bye => 4
  | .claim _ => 5
  | .release _ => 6
  | .actuate _ _ => 7
  | .mailPut _ => 8
  | .mailRead _ => 9

/-- The element number that an ANSWER carries: the answered frame's, for CLAIM, RELEASE and ACTUATE, else 0 (R159). -/
def uplinkElement : UplinkBody → Nat
  | .claim e => e
  | .release e => e
  | .actuate e _ => e
  | .hello _ _ => 0
  | .confirm _ => 0
  | .presence => 0
  | .bye => 0
  | .mailPut _ => 0
  | .mailRead _ => 0

/-- A flag set as three bytes, bits 22 and 23 sent as 0 (R194). -/
def flagBytes (f : FlagSet) : List Byte := threeBytes f.toNat

/-- A slot, alliance or tier that may be absent, sent as 0 when it is (R196). -/
def orZero (o : Option Nat) : Nat := o.getD 0

end Sys2Proof.Machine
end

