-- ==== Sys2Proof/Machine/Frames.lean ====
section
/-! DEFINITION. The frames that the AF-24 sends on its three links, byte by byte and bit by bit (R171, R190 to R193). -/

namespace Sys2Proof.Machine

/-- The two status bytes of an element (R193). -/
def statusBytes (x : ElementStatus) : List Byte :=
  [byte x.holder, byte (x.waiting + 8 * modeCode x.mode + 32 * actStateCode x.act)]

/-- The 73-byte payload of a beacon; the drive permit of slot s is bit s − 1 of a three-byte value (R193). -/
def beaconPayload (b : Beacon) : List Byte :=
  [byte (phaseCode b.phase), byte b.index, byte (periodKindCode b.kind)] ++ twoBytes b.remaining
    ++ [markByte b.stopped] ++ threeBytes (bitsValue b.permits) ++ b.elements.flatMap statusBytes

/-- The kind value of a downlink frame (R192). -/
def downKind : DownBody → Nat
  | .offer _ _ _ _ _ => 0x41
  | .answer _ _ _ _ => 0x42
  | .mailData _ _ => 0x43
  | .beacon _ => 0x44

/-- The payload of a downlink frame (R192). -/
def downPayload : DownBody → List Byte
  | .offer kit slot alliance tier cap =>
    fourBytes kit.toNat ++ [byte slot, byte alliance, byte tier, byte cap]
  | .answer kind element code detail =>
    [byte kind, byte element, byte (answerCode code)] ++ twoBytes detail
  | .mailData offset bytes => [byte offset, byte bytes.length] ++ bytes
  | .beacon b => beaconPayload b

/-- A downlink frame as it is sent (R191). -/
def downFrameBytes (f : DownFrame) : List Byte :=
  let p := downPayload f.body
  closeFrame 0x5A ([byte p.length, byte (downKind f.body), byte f.slot] ++ twoBytes f.tag.toNat ++ p)

/-- The address of a request frame: the element, or 0 for a HALT (R191). -/
def busAddress : BusRequest → Nat
  | .poll e => e
  | .actuate e _ => e
  | .light e _ => e
  | .raw e _ => e
  | .halt => 0

/-- The kind value of a request frame on the field bus (R192). -/
def busKind : BusRequest → Nat
  | .poll _ => 0x01
  | .actuate _ _ => 0x02
  | .light _ _ => 0x03
  | .halt => 0x04
  | .raw _ _ => 0x05

/-- The payload of a request frame on the field bus (R192). -/
def busPayload : BusRequest → List Byte
  | .poll _ => []
  | .actuate _ argument => [byte argument]
  | .light _ d => [byte (displayCode d), byte (colourCode d)]
  | .raw _ bytes => bytes
  | .halt => []

/-- A request frame on the field bus as it is sent (R191). -/
def busFrameBytes (r : BusRequest) : List Byte :=
  let p := busPayload r
  closeFrame 0xC3 ([byte (busAddress r), byte (busKind r), byte p.length] ++ p)

/-- The payload of a console reply: the outcome code first (R177). -/
def replyPayload (r : Reply) : List Byte := byte (outcomeCode r.outcome) :: r.fields

/-- A console reply as it is sent (R177, R191). -/
def replyBytes (r : Reply) : List Byte :=
  let p := replyPayload r
  closeFrame 0xA5 ([byte p.length, byte r.kind] ++ p)

/-- The bits of a downlink frame on the robot link (R190). -/
def downFrameLine (f : DownFrame) : List Bool := lineBits (downFrameBytes f)

/-- The bits of a request frame on the field bus (R190). -/
def busFrameLine (r : BusRequest) : List Bool := lineBits (busFrameBytes r)

/-- A character of the console line, mark as true: a start bit at space (DEDUCED, log entry 16), eight data bits least
significant first, and a stop bit at mark (R171). -/
def character (b : Byte) : List Bool := false :: byteBits b ++ [true]

/-- The bits of a console reply on its line, character by character (R171, R190). -/
def replyLine (r : Reply) : List Bool := (replyBytes r).flatMap character

end Sys2Proof.Machine
end

