-- ==== Sys2Proof/WellFormed.lean ====
section
/-! DEFINITION. Which commands a link, a pin or a timer can bring about. The meanings are total all the same. -/

namespace Sys2Proof

/-- The request kinds of the catalogue (R192). -/
def catalogueKinds : List Nat :=
  [0x01, 0x02, 0x03, 0x04, 0x05] ++ [0x10, 0x11, 0x12, 0x13, 0x14, 0x15, 0x16]
    ++ [0x20, 0x21, 0x22, 0x23, 0x24, 0x25, 0x26] ++ [0x30, 0x31, 0x32, 0x33, 0x34, 0x35, 0x36, 0x37]
    ++ [0x40, 0x41, 0x42] ++ [0x48, 0x49, 0x4A, 0x4B, 0x4C] ++ [0x50, 0x51, 0x52, 0x53]
    ++ [0x58, 0x59, 0x5A] ++ [0x60, 0x61, 0x62]

/-- A slot number that a robot frame may carry (R154, check 2). -/
def slotFieldOk (slot : Byte) : Bool := slot.toNat ≤ 24

/-- A slot of the roster (R19). -/
def slotNumberOk (n : Nat) : Bool := 1 ≤ n && n ≤ 24

/-- An element of the table (R45). -/
def elementNumberOk (n : Nat) : Bool := 1 ≤ n && n ≤ 32

/-- The longest payload of a console record is 120 bytes (R191), the longest message of a robot frame 48 (R192). -/
def Instr.wf : Instr → Bool
  | .unknownRequest kind => !catalogueKinds.contains kind.toNat
  | .loadPlan _ _ periods => 2 + 5 * periods.length ≤ 120
  | .passThrough _ bytes => 1 + bytes.length ≤ 120
  | .consoleMailPut _ bytes => 1 + bytes.length ≤ 120
  | .hello slot _ _ _ => slotFieldOk slot
  | .confirm slot _ _ => slotFieldOk slot
  | .presence slot _ => slotFieldOk slot
  | .bye slot _ => slotFieldOk slot
  | .claim slot _ _ => slotFieldOk slot
  | .release slot _ _ => slotFieldOk slot
  | .robotActuate slot _ _ _ => slotFieldOk slot
  | .robotMailPut slot _ bytes => slotFieldOk slot && 1 ≤ bytes.length && bytes.length ≤ 48
  | .robotMailRead slot _ _ => slotFieldOk slot
  | .confirmTimerExpiry n => slotNumberOk n
  | .silenceTimerExpiry n => slotNumberOk n
  | .restoreTimerExpiry n => slotNumberOk n
  | .disableTimerExpiry n => slotNumberOk n
  | .holdTimerExpiry n => elementNumberOk n
  | .cooldownExpiry n => elementNumberOk n
  | .towerSecond n => elementNumberOk n
  | .actuationTimerExpiry n => elementNumberOk n
  | .pulseTimerExpiry n => elementNumberOk n
  | .powerOn | .resetPin | .stopInPressed | .stopInLetGo | .breakDetected | .breakEnd | .consoleByte _
  | .framingError | .gapTimerExpiry | .frameError | .consoleOverrun | .replyEnd | .identify | .setSetting _ _
  | .getSetting _ | .storeSettings | .restart | .defineElement _ _ | .readElement _ | .setElementMode _ _ _
  | .withdraw _ | .restoreElement _ | .readFaults | .clearFaults _ | .register _ _ _ _ | .unregister _
  | .readSlot _ | .readStrangers | .disableRobot _ _ | .enableRobot _ | .restoreTiers _ | .stage | .start | .pause
  | .resume | .abortMatch | .closeMatch | .readClock | .periodExpiry | .graceExpiry | .fieldStop | .releaseStop
  | .readStop | .readClaims _ | .revokeClaim _ _ _ | .consoleActuate _ _ | .passResult | .readScores | .readTallies _
  | .penalize _ _ | .award _ _ | .consoleMailRead _ _ _ | .mailStatus | .readEvents | .clearEvents _
  | .setEventEnables _ | .storeDone | .uplinkArrival _ | .downlinkFrameSent | .beaconIntervalExpiry | .busFrameSent
  | .busAnswer _ | .answerWindowExpiry | .resetPinRelease => true

end Sys2Proof
end

