-- ==== Sys2Proof/Machine/Operands.lean ====
section
/-! DEFINITION. The reading of received characters and fields: enumerations, ranges and frames (R154, R171, R180, R191, R194,
R196). -/

namespace Sys2Proof.Machine

/-- The command that a character of the console line brings, mark as true: a byte, or a framing error where its stop bit is at
space (R171); none for bits that are no character. -/
def characterCommand : List Bool → Option Instr
  | [false, b0, b1, b2, b3, b4, b5, b6, b7, stop] =>
    some (if stop then .consoleByte (byte (bitsValue [b0, b1, b2, b3, b4, b5, b6, b7])) else .framingError)
  | _ => none

/-- A yes/no field; none for a value that is neither (R180, R194). -/
def yesNo (b : Byte) : Option Bool := if b = 1 then some true else if b = 0 then some false else none

/-- The kind of a period (R194); none outside the codes. -/
def periodKindOf (b : Byte) : Option PeriodKind :=
  if b = 1 then some .auto else if b = 2 then some .driver else if b = 3 then some .endgame
  else if b = 4 then some .interval else none

/-- The kind of an element (R194); none outside the codes. -/
def elementKindOf (b : Byte) : Option ElementKind :=
  if b = 0 then some .none else if b = 1 then some .goal else if b = 2 then some .gate
  else if b = 3 then some .dispenser else if b = 4 then some .tower else none

/-- The indicator policy; bits 5..7 are ignored on receipt (R196). -/
def policyOf (b : Byte) : Policy :=
  { hold := b.getLsbD 0, contest := b.getLsbD 1, pending := b.getLsbD 2, score := b.getLsbD 3,
    noSteady := b.getLsbD 4 }

/-- An advertised mask; tiers outside 1..4 are ignored (R27). -/
def tierMaskOf (b : Byte) : TierMask := b.setWidth 4

/-- A number brought to the nearest end of a range (R180). -/
def clampTo (lo hi n : Nat) : Nat := max lo (min hi n)

/-- OK_ADJUSTED takes the place of OK where a value was brought into range (R180). -/
def okIf (adjusted : Bool) : OutcomeCode := if adjusted then .okAdjusted else .ok

/-- The kit tag: the low 16 bits of a kit id (R19). -/
def kitTag (kit : Word) : Half := kit.setWidth 16

/-- The uplink kinds with the payload each requires; none fails check 3 of R154. -/
def uplinkBodyOf (kind : Nat) (p : List Byte) : Option UplinkBody :=
  if kind = 1 then if p.length = 5 then some (.hello (wordAt p 0) (byteAt p 4)) else none
  else if kind = 2 then if p.length = 1 then some (.confirm (byteAt p 0).toNat) else none
  else if kind = 3 then if p.length = 0 then some .presence else none
  else if kind = 4 then if p.length = 0 then some .bye else none
  else if kind = 5 then if p.length = 1 then some (.claim (byteAt p 0).toNat) else none
  else if kind = 6 then if p.length = 1 then some (.release (byteAt p 0).toNat) else none
  else if kind = 7 then if p.length = 2 then some (.actuate (byteAt p 0).toNat (byteAt p 1).toNat) else none
  else if kind = 8 then if 1 ≤ p.length && p.length ≤ 48 then some (.mailPut p) else none
  else if kind = 9 then if p.length = 1 then some (.mailRead (byteAt p 0).toNat) else none
  else none

/-- A frame from the modem by checks 1 to 3 of R154: CRC, lead and length, then slot, then kind and payload length. -/
def uplinkFrameOf (bytes : List Byte) : Option UplinkFrame :=
  match openFrame 0x5A bytes with
  | none => none
  | some c =>
    let p := c.drop 5
    if c.length < 5 then none
    else if (byteAt c 0).toNat != p.length || 80 < p.length then none
    else if 24 < (byteAt c 2).toNat then none
    else
      match uplinkBodyOf (byteAt c 1).toNat p with
      | none => none
      | some body => some { slot := (byteAt c 2).toNat, tag := halfAt c 3, body := body }

/-- A frame that a robot row names passes checks 2 and 3 of R154. -/
def frameOk (f : UplinkFrame) : Bool :=
  f.slot ≤ 24 &&
    match f.body with
    | .mailPut bytes => 1 ≤ bytes.length && bytes.length ≤ 48
    | .hello _ _ => true
    | .confirm _ => true
    | .presence => true
    | .bye => true
    | .claim _ => true
    | .release _ => true
    | .actuate _ _ => true
    | .mailRead _ => true

/-- What a good answer on the field bus holds (R94, R95, R113). -/
inductive AnswerData where
  | poll (total status position : Nat)
  | actuate (accepted : Bool)
  | light
  | raw (bytes : List Byte)
deriving DecidableEq, Repr

/-- The contents of an answer that passes its check and comes from the addressed element: kind and payload (R95, R191). -/
def busAnswerOf (address : Nat) (bytes : List Byte) : Option (Nat × List Byte) :=
  match openFrame 0xC3 bytes with
  | none => none
  | some c =>
    let p := c.drop 3
    if c.length < 3 then none
    else if (byteAt c 2).toNat != p.length || 8 < p.length then none
    else if (byteAt c 0).toNat != address then none
    else some ((byteAt c 1).toNat, p)

/-- A good answer to a request; none is a failed check (R95, R113). -/
def goodAnswerOf (r : BusRequest) (bytes : List Byte) : Option AnswerData :=
  match r, busAnswerOf (busAddress r) bytes with
  | _, none => none
  | .poll _, some (kind, p) =>
    if kind = 0x81 && p.length = 3 && (byteAt p 1).toNat ≤ 4 && (byteAt p 2).toNat ≤ 3 then
      some (.poll (byteAt p 0).toNat (byteAt p 1).toNat (byteAt p 2).toNat)
    else none
  | .actuate _ _, some (kind, p) =>
    if kind = 0x82 && p.length = 1 && (byteAt p 0).toNat ≤ 1 then some (.actuate (byteAt p 0 = 0)) else none
  | .light _ _, some (kind, p) =>
    if kind = 0x83 && p.length = 1 && byteAt p 0 = 0 then some .light else none
  | .raw _ _, some (_, p) => some (.raw p)
  | .halt, some _ => none

end Sys2Proof.Machine
end

