-- ==== Sys2Proof/Machine/Bus.lean ====
section
/-! DEFINITION. The Field Bus Controller's shared operations: the command queue, the transaction arbiter, the results of
transactions, and the halting of the field (chapter 5). -/

namespace Sys2Proof.Machine

/-- A transaction is put on the bus: the sending of its request frame begins (R94). -/
def sendRequest (r : BusRequest) (s : State) : State :=
  { s with bus := { s.bus with current := some { request := r, window := none } } }

/-- The transaction of a queue entry (R94, R97). -/
def entryRequest (x : Entry) : BusRequest :=
  match x.arg with
  | .actuate argument => .actuate x.element argument
  | .light d => .light x.element d
  | .raw bytes => .raw x.element bytes

/-- The next element of the poll rotation, if some element is defined (R99). -/
def State.nextPolled (s : State) : Option Nat :=
  match elementNumbers.find? fun e => s.bus.lastPolled < e && s.defined e with
  | some e => some e
  | none => elementNumbers.find? s.defined

/-- The choice of the transaction arbiter on a free bus (R98); an entry that is sent departs from the queue and frees its
place (R121). -/
def chooseTransaction (s : State) : State :=
  if s.bus.haltPending then sendRequest .halt { s with bus := { s.bus with haltPending := false } }
  else
    match s.bus.queue with
    | x :: rest =>
      if s.bus.commandCount < 4 || !s.someDefined then
        freedPlace (sendRequest (entryRequest x)
          { s with bus := { s.bus with queue := rest, commandCount := min 4 (s.bus.commandCount + 1) } })
      else
        match s.nextPolled with
        | some e => sendRequest (.poll e) { s with bus := { s.bus with commandCount := 0, lastPolled := e } }
        | none => s
    | [] =>
      match s.nextPolled with
      | some e => sendRequest (.poll e) { s with bus := { s.bus with commandCount := 0, lastPolled := e } }
      | none => s

/-- The transaction arbiter acts whenever the bus is free (R98). -/
def busArbiter (s : State) : State := if s.bus.current.isSome then s else chooseTransaction s

/-- The result of a transaction that expects an answer (R95). -/
inductive BusResult where
  | good (a : AnswerData)
  | failedCheck
  | noAnswer
deriving DecidableEq, Repr

/-- The report of a result to the Element Table, for a defined element (R59, R60, R95). -/
def reportResult (e : Nat) (r : BusResult) (s : State) : State :=
  if s.defined e then
    match r with
    | .good _ => goodAnswer e s
    | .failedCheck => missedAnswer e true s
    | .noAnswer => missedAnswer e false s
  else s

/-- The outcome that the actuation status of a good POLL answer gives an actuation in flight (R105, R194). -/
def statusOutcome (status : Nat) : Option ActOutcome :=
  if status = 2 then some .done else if status = 3 then some .jammed else if status = 4 then some .halted else none

/-- The actuation status of a good POLL answer (R96, step 2). -/
def takeStatus (e status : Nat) (s : State) : State :=
  if (s.act e).state = .inFlight then
    match statusOutcome status with
    | some o => endActuation e o s
    | none => s
  else s

/-- The result of a POLL (R96). -/
def pollResult (e : Nat) (r : BusResult) (s : State) : State :=
  match r with
  | .good (.poll total status _) =>
    takeStatus e status (if (s.elemDef e).kind = .goal then goalTotal e total s else s)
  | .good (.actuate _) => s
  | .good .light => s
  | .good (.raw _) => s
  | .failedCheck => s
  | .noAnswer => s

/-- The result of an ACTUATE (R104). -/
def actuateResult (e : Nat) (r : BusResult) (s : State) : State :=
  match r with
  | .good (.actuate true) =>
    s.setAct e { s.act e with state := .inFlight, timer := some (tenths (s.elemDef e).timeout) }
  | .good (.actuate false) => endActuation e .refused s
  | .good (.poll _ _ _) => endActuation e .noAnswer s
  | .good .light => endActuation e .noAnswer s
  | .good (.raw _) => endActuation e .noAnswer s
  | .failedCheck => endActuation e .noAnswer s
  | .noAnswer => endActuation e .noAnswer s

/-- The result of a LIGHT (R111, R122). -/
def lightResult (e : Nat) (r : BusResult) (s : State) : State :=
  match r with
  | .good _ => s
  | .failedCheck => lightFailed e s
  | .noAnswer => lightFailed e s

/-- The pass-through slot after a RAW (R113). -/
def passOf (r : BusResult) : PassSlot :=
  match r with
  | .good (.raw bytes) => .done bytes
  | .good (.poll _ _ _) => .checkFail
  | .good (.actuate _) => .checkFail
  | .good .light => .checkFail
  | .failedCheck => .checkFail
  | .noAnswer => .noAnswer

/-- A pass-through result arrives (R113). -/
def passArrives (p : PassSlot) (s : State) : State := (s.setPass p).setFlag .passDone

/-- A result is acted on by the kind of its transaction (R95 to R113). -/
def actOnResult (q : BusRequest) (r : BusResult) (s : State) : State :=
  match q with
  | .poll e => pollResult e r s
  | .actuate e _ => actuateResult e r s
  | .light e _ => lightResult e r s
  | .raw _ _ => passArrives (passOf r) s
  | .halt => s

/-- A transaction that expects an answer ends: report, action, and the bus is free (R95). -/
def endTransaction (q : BusRequest) (r : BusResult) (s : State) : State :=
  let s := { s with bus := { s.bus with current := none } }
  actOnResult q r (reportResult (busAddress q) r s)

/-- An entry is appended at the tail of the command queue (R97). -/
def appendEntry (x : Entry) (s : State) : State := s.setQueue (s.bus.queue ++ [x])

/-- An ACTUATE entry is queued and the actuation record filled in (R102, R103). -/
def queueActuation (e argument : Nat) (o : Origin) (c : Option Charge) (s : State) : State :=
  (appendEntry { element := e, arg := .actuate argument, origin := o, charge := c } s).setAct e
    { state := .queued, origin := some o, charge := c, timer := none }

/-- The argument of an ACTUATE brought into range (R102, R103). -/
def clampArgument (d : ElementDef) (argument : Nat) : Nat :=
  match d.kind with
  | .dispenser => clampTo 1 8 argument
  | .gate | .goal | .tower | .none => min 3 argument

/-- An entry for the discarding of R108: an ACTUATE, or the RAW. -/
def Entry.isActuate (x : Entry) : Bool :=
  match x.arg with
  | .actuate _ => true
  | .light _ => false
  | .raw _ => false

/-- A RAW entry (R97). -/
def Entry.isRaw (x : Entry) : Bool :=
  match x.arg with
  | .raw _ => true
  | .actuate _ => false
  | .light _ => false

/-- An entry departs from its place in the queue, and the place is handed on as freed (R97, R121). -/
def departEntry (x : Entry) (s : State) : State := freedPlace (s.setQueue (s.bus.queue.erase x))

/-- An ACTUATE entry is discarded and its actuation ends ABORTED (R108, step 2). -/
def discardActuate (x : Entry) (s : State) : State := endActuation x.element .aborted (departEntry x s)

/-- The RAW entry is discarded and the pass-through slot takes ABORTED (R108, step 3). -/
def discardRaw (x : Entry) (s : State) : State := passArrives .aborted (departEntry x s)

/-- The Field Bus Controller at the entry of STOPPED (R108). -/
def haltField (s : State) : State :=
  let s := { s with bus := { s.bus with haltPending := true } }
  let s := (s.bus.queue.filter Entry.isActuate).foldl (fun s x => discardActuate x s) s
  (s.bus.queue.filter Entry.isRaw).foldl (fun s x => discardRaw x s) s

end Sys2Proof.Machine
end

