-- ==== Sys2Proof/Machine/Link.lean ====
section
/-! DEFINITION. The Robot Link Interface's shared operations: the reply queue, the beacon and the port arbiter
(chapter 9). -/

namespace Sys2Proof.Machine

/-- A downlink frame joins the reply queue, or is dropped with RADIO_CONGESTION when the queue holds 8 (R158). -/
def queueReply (f : DownFrame) (s : State) : State :=
  if s.link.replies.length < 8 then { s with link := { s.link with replies := s.link.replies ++ [f] } }
  else s.setFlag .radioCongestion

/-- An ANSWER to a frame other than a HELLO: its address is that of the frame answered (R158, R159). -/
def answerFrame (f : UplinkFrame) (code : AnswerCode) (detail : Nat) (s : State) : State :=
  queueReply { slot := f.slot, tag := f.tag,
               body := .answer (uplinkKind f.body) (uplinkElement f.body) code detail } s

/-- An ANSWER to a HELLO: the kit tag of the kit id it carried, and the slot the kit id is registered to or 0 (R158). -/
def answerHello (slot : Nat) (kit : Word) (code : AnswerCode) (s : State) : State :=
  queueReply { slot := slot, tag := kitTag kit, body := .answer 1 0 code 0 } s

/-- The status of an element in the beacon (R164). -/
def State.elementStatus (s : State) (e : Nat) : ElementStatus :=
  if s.defined e then
    { holder := orZero (s.claim e).holder, waiting := (s.claim e).waiters.length, mode := s.modeShown e,
      act := (s.act e).state }
  else undefinedStatus

/-- The beacon built from the state of every block (R162, R163). -/
def State.beacon (s : State) : Beacon :=
  { phase := s.clock.phase, index := s.clock.index, kind := s.currentKind, remaining := s.remainingReported,
    stopped := s.stop.stopped, permits := slotNumbers.map s.drivePermit,
    elements := elementNumbers.map s.elementStatus }

/-- The beacon frame: slot 0 and kit tag 0, for every robot (R153). -/
def State.beaconFrame (s : State) : DownFrame := { slot := 0, tag := 0, body := .beacon s.beacon }

/-- The port arbiter acts whenever the port is free: a due beacon first, else the head reply (R160, R161). -/
def portArbiter (s : State) : State :=
  if s.link.port.isSome then s
  else if s.link.beaconDue then
    { s with link := { s.link with port := some s.beaconFrame, beaconDue := false,
                                   beaconTimer := some (millis s.settings.beaconInterval) } }
  else
    match s.link.replies with
    | f :: rest => { s with link := { s.link with port := some f, replies := rest } }
    | [] => s

/-- The end of an event: freed places that wait are taken, behind the requests of the event (R121, log entry 20), and the two
arbiters choose, each if its link is free and has work (R98, R160). -/
def settle (s : State) : State := portArbiter (busArbiter (takeWaitingPlaces s))

end Sys2Proof.Machine
end

