-- ==== Sys2Proof/Machine/Phases.lean ====
section
/-! DEFINITION. The Match Clock's shared operations (chapter 1) and the entry of the field stop (chapters 1, 5, 8, 9). -/

namespace Sys2Proof.Machine

/-- The fields of the clock that a change of phase sets, which makes a beacon due (R3, R16). -/
def enterPhase (p : Phase) (index remaining : Nat) (mark : HeldMark) (grace : Timer) (s : State) : State :=
  ({ s with clock := { s.clock with phase := p, index := index, remaining := remaining, mark := mark,
                                    graceTimer := grace } }).makeBeaconDue

/-- A period is loaded and RUNNING stands (R7, R9, R10); a number outside the plan loads nothing. -/
def loadPeriod (i : Nat) (s : State) : State :=
  enterPhase .running i (tenths (((s.clock.plan.bind fun p => p.periods[i - 1]?).map (·.duration)).getD 0)) .none
    none s

/-- FINISHED is entered: MATCH_OVER, the index kept, every claim state cleared (R12, R89). -/
def enterFinished (s : State) : State :=
  clearClaims ((enterPhase .finished s.clock.index 0 .none none s).setFlag .matchOver)

/-- The grace value of the plan (R1). -/
def State.graceValue (s : State) : Nat := (s.clock.plan.map (·.grace)).getD 0

/-- GRACE is entered: the grace timer starts, every claim state is cleared (R11, R89). -/
def enterGrace (s : State) : State :=
  clearClaims (enterPhase .grace s.clock.index 0 .none (some (tenths s.graceValue)) s)

/-- The match leaves its last period (R9, R10 step 4). -/
def endLastPeriod (s : State) : State := if s.graceValue = 0 then enterFinished s else enterGrace s

/-- The next period is loaded, or the last one left (R9, R10). -/
def nextPeriod (s : State) : State :=
  if s.clock.index < s.periodCount then loadPeriod (s.clock.index + 1) s else endLastPeriod s

/-- HELD is entered with a mark (R8, R10, R15). -/
def enterHeld (mark : HeldMark) (remaining : Nat) (s : State) : State :=
  enterPhase .held s.clock.index remaining mark none s

/-- The Match Clock at the entry of STOPPED (R15). -/
def stopClock (s : State) : State :=
  if s.clock.phase = .running then enterHeld .paused s.clock.remaining s else s

/-- The latched set with one cause added (R144). -/
def latch (c : Cause) (u : StopUnit) : StopUnit :=
  match c with
  | .pin => { u with pin := true }
  | .brk => { u with brk := true }
  | .console => { u with console := true }
  | .reset => { u with reset := true }

/-- The field stop is entered and handed on to the clock, the field bus and the beacon (R147). -/
def enterStop (s : State) : State := (haltField (stopClock s)).makeBeaconDue

/-- No cause is latched (R144, R149). -/
def unlatch (u : StopUnit) : StopUnit := { u with pin := false, brk := false, console := false, reset := false }

/-- A cause arrives by PIN, BREAK or CONSOLE: on a CLEAR field it enters the stop, on a STOPPED one it only joins the
latched set; FIELD_STOP is set at every arrival (R146). -/
def causeArrives (c : Cause) (s : State) : State :=
  if s.stop.stopped then ({ s with stop := latch c s.stop }).setFlag .fieldStop
  else enterStop (({ s with stop := latch c { unlatch s.stop with stopped := true } }).setFlag .fieldStop)

end Sys2Proof.Machine
end

