-- ==== Sys2Proof/Machine/Admission.lean ====
section
/-! DEFINITION. The Robot Roster's shared operations: tiers, timers, the stranger list and the moves between slot states
(chapter 2). -/

namespace Sys2Proof.Machine

/-- Every tier (R22). -/
def allTiers : TierMask := 0xF

/-- A tier lies in a mask (R194). -/
def hasTier (m : TierMask) (t : Nat) : Bool := 1 ≤ t && m.getLsbD (t - 1)

/-- The highest tier of a mask (R27). -/
def highestTier (m : TierMask) : Option Nat := [4, 3, 2, 1].find? (hasTier m)

/-- A mask holds a tier lower than a given one (R32). -/
def hasLower (m : TierMask) (t : Nat) : Bool := [1, 2, 3, 4].any fun u => hasTier m u && u < t

/-- A mask without one tier (R32). -/
def removeTier (m : TierMask) (t : Nat) : TierMask := m &&& ~~~(1#4 <<< (t - 1))

/-- The effective advertisement of a slot (R27). -/
def effectiveTiers (x : Slot) (allowed : TierMask) : TierMask := x.lastAd.getD 0 &&& x.permitted &&& allowed

/-- The live TIER CAP for a tier (R27). -/
def State.tierCap (s : State) (t : Nat) : Nat := at1 s.settings.tierCaps t 0

/-- The restore timer at an entry of EXPECTED or LOST: it starts while RESTORE ENABLE is on (R20). -/
def restoreStart (g : Settings) (old : Timer) : Timer :=
  if g.restoreEnable then some (seconds g.restoreInterval) else old

/-- A slot returned to EXPECTED: tier, cap, was-lost mark and the confirm and silence timers are cleared, and the restore
timer starts as R20 requires (R30, R32, R36, R41, R42). -/
def toExpected (g : Settings) (x : Slot) : Slot :=
  { x with state := .expected, tier := none, cap := none, wasLost := false, confirmTimer := none,
           silenceTimer := none, restoreTimer := restoreStart g x.restoreTimer }

/-- A slot that has fallen silent (R35). -/
def toLost (g : Settings) (x : Slot) : Slot :=
  { x with state := .lost, wasLost := true, silenceTimer := none,
           restoreTimer := restoreStart g x.restoreTimer }

/-- A slot offered a tier (R28, R30). -/
def toOffered (g : Settings) (tier cap : Nat) (wasLost : Bool) (x : Slot) : Slot :=
  { x with state := .offered, tier := some tier, cap := some cap, wasLost := wasLost,
           confirmTimer := some (millis g.confirmWindow), silenceTimer := none, restoreTimer := none }

/-- A slot admitted by its CONFIRM (R31). -/
def toAdmitted (g : Settings) (x : Slot) : Slot :=
  { x with state := if x.disable.isSome then .disabled else .admitted, confirmTimer := none, attempts := 0,
           wasLost := false, silenceTimer := some (millis g.silenceLimit) }

/-- A disable ends (R39, R40). -/
def endDisable (x : Slot) : Slot :=
  { x with disable := none, state := if x.state = .disabled then .admitted else x.state }

/-- An offer that has lapsed unconfirmed (R32, steps 2 and 3), with the attempt count already incremented. -/
def lapseOffer (g : Settings) (x : Slot) : Slot :=
  { x with state := if x.wasLost then .lost else .expected, wasLost := false, tier := none, cap := none,
           confirmTimer := none, restoreTimer := restoreStart g x.restoreTimer }

/-- The downshift is taken (R32, step 2). -/
def downshifts (g : Settings) (x : Slot) : Bool :=
  g.downshiftEnable && g.downshiftThreshold ≤ x.attempts
    && hasLower (effectiveTiers x g.allowedTiers) (x.tier.getD 0)

/-- The slot a kit id is registered to (R26). -/
def State.slotOfKit (s : State) (kit : Word) : Option Nat :=
  slotNumbers.find? fun n => (s.slot n).state != .empty && (s.slot n).kit == kit

/-- An unknown kit id comes to the front of the stranger list, which keeps at most 4 (R25). -/
def noteStranger (kit : Word) (l : List Word) : List Word := (kit :: l.erase kit).take 4

/-- The stranger list is replaced. -/
def State.setStrangers (l : List Word) (s : State) : State :=
  { s with roster := { s.roster with strangers := l } }

/-- The OFFER of a slot: its stored tier and cap, under its kit's tag (R27, R158). -/
def sendOffer (n : Nat) (s : State) : State :=
  let x := s.slot n
  queueReply { slot := n, tag := kitTag x.kit,
               body := .offer x.kit n x.alliance (orZero x.tier) (orZero x.cap) } s

/-- A slot's claims are dropped, and the slot then returns to EXPECTED (R21, R36, R41). -/
def returnToExpected (n : Nat) (s : State) : State :=
  let s := dropClaims n s
  s.modSlot n (toExpected s.settings)

/-- The silence timer restarts at a frame dispatched for an ADMITTED or DISABLED slot (R35). -/
def restartSilence (n : Nat) (s : State) : State :=
  let x := s.slot n
  if x.state = .admitted || x.state = .disabled then
    s.setSlot n { x with silenceTimer := some (millis s.settings.silenceLimit) }
  else s

/-- A slot whose tier a new ALLOWED TIERS does not hold returns to EXPECTED (R41). -/
def recheckTier (n : Nat) (s : State) : State :=
  let x := s.slot n
  if (x.state = .offered || x.state = .admitted || x.state = .disabled)
      && !hasTier s.settings.allowedTiers (x.tier.getD 0) then returnToExpected n s
  else s

/-- One slot at CLOSE MATCH (R42). -/
def closeSlot (n : Nat) (s : State) : State :=
  let x := s.slot n
  if x.state = .empty then s
  else if x.state = .expected then s.setSlot n { x with disable := none }
  else (returnToExpected n s).modSlot n fun x => { x with disable := none }

/-- The roster at CLOSE MATCH (R42). -/
def closeRoster (s : State) : State := slotNumbers.foldl (fun s n => closeSlot n s) s

end Sys2Proof.Machine
end

