-- ==== Sys2Proof/Machine/StartUp.lean ====
section
/-! DEFINITION. The start-up that every reset shares (R189 and the reset values of each chapter). -/

namespace Sys2Proof.Machine

/-- A start-up during a write abandons it, and the standing copy then fails its check (R188). -/
def abandonWrite (x : Store) : Store :=
  { x with writing := none, standingGood := x.standingGood && x.writing.isNone }

/-- Every block takes its reset values with the given live settings and definitions, and every defined element is then
recomputed in ascending number (R123, R189). The pins, the standing copy, the free values and the waiting commands are
not of the blocks. -/
def startUpWith (g : Settings) (defs : Vector ElementDef 32) (flags : FlagSet) (completes : Bool) (s : State) : State :=
  recomputeAll elementNumbers
    { clock := resetClock, roster := resetRoster, table := resetTable defs, claims := resetClaims, bus := resetBus,
      lights := Vector.replicate 32 resetLight, score := freshScores defs, stop := resetStop s.stop.stopIn completes,
      link := resetLink, console := resetConsole g.consoleRate, attention := { flags := flags, enables := 0 },
      settings := g, store := abandonWrite s.store, uptime := 0, resetAsserted := s.resetAsserted,
      freeCount := s.freeCount, meetings := s.meetings, pending := s.pending }

/-- The start-up at power-on and at the RESET pin: from the standing copy if its CRC is good, else from the factory
defaults with SETTINGS_DEFAULTED set (R189). -/
def coldStartUp (completes : Bool) (s : State) : State :=
  if (abandonWrite s.store).standingGood then
    startUpWith s.store.standing.settings s.store.standing.defs 0 completes s
  else startUpWith factorySettings noDefinitions settingsDefaultedBit completes s

/-- The start-up after the reply to RESTART: the live settings and the definitions in force are kept (R189). -/
def warmStartUp (s : State) : State := startUpWith s.settings s.table.defs 0 true s

end Sys2Proof.Machine
end

