-- ==== Sys2Proof/Machine/Records.lean ====
section
/-! DEFINITION. The holding place and the serving of console requests (R174 to R177, R180). -/

namespace Sys2Proof.Machine

/-- The outcome of a command. -/
abbrev Result := Host.Outcome State Fault Refusal

/-- What serving a request leaves: the state, and the outcome and fields of the reply (R176). -/
structure Served where
  state : State
  outcome : OutcomeCode
  fields : List Byte

/-- A refusal carries the outcome byte alone and changes no state (R180). -/
def refuse (o : OutcomeCode) (s : State) : Served := { state := s, outcome := o, fields := [] }

/-- A request carried out as asked, without reply fields. -/
def carryOut (s : State) : Served := { state := s, outcome := .ok, fields := [] }

/-- A reading: OK with fields, and no change of state. -/
def reading (fields : List Byte) (s : State) : Served := { state := s, outcome := .ok, fields := fields }

/-- The receiver at the completion of a record: SEEKING, with the gap timer stopped (R172). -/
def receiverDone (s : State) : State :=
  { s with console := { s.console with receiver := .seeking, gapTimer := none } }

/-- A completed record finds the holding place HELD: it is discarded and CONSOLE_OVERRUN is set (R175). -/
def overrun (s : State) : State := s.setFlag .consoleOverrun

/-- A reply is formed and its sending begins; the holding place is HELD (R175, R177). -/
def holdReply (r : Reply) (s : State) : State := { s with console := { s.console with held := some r } }

/-- The reply kind of a request kind: that kind plus 80h, or 80h for a kind of 80h and above (R176). -/
def replyKind (kind : Nat) : Nat := if kind < 0x80 then kind + 0x80 else 0x80

/-- A completed record is offered to the holding place: EMPTY, it is held, served at once and answered; HELD, it is
discarded as an overrun (R174, R175, R176). -/
def offerRecord (kind : Nat) (serve : State → Served) (s : State) : State :=
  if s.console.held.isSome then overrun (receiverDone s)
  else
    let r := serve (receiverDone s)
    holdReply { kind := replyKind kind, outcome := r.outcome, fields := r.fields } r.state

/-- A console request as a whole record; none is taken while RESET is held (R176, R189). -/
def consoleRequest (kind : Nat) (serve : State → Served) (s : State) : State := whenAwake (offerRecord kind serve) s

/-- The work of a request that may give a link something to send ends with the choices of the arbiters (R98, R160). -/
def settled (r : Served) : Served := { r with state := settle r.state }

/-- A slot number of the roster (R180). -/
def slotInRange (n : Nat) : Bool := 1 ≤ n && n ≤ 24

/-- An element number of the table (R180). -/
def elementInRange (n : Nat) : Bool := 1 ≤ n && n ≤ 32

end Sys2Proof.Machine
end

