-- ==== Sys2Proof/Machine/MatchCommands.lean ====
section
/-! DEFINITION. The commands of the Match Clock (chapter 1). -/

namespace Sys2Proof.Machine

/-- A period record with its enumerations read; none for a kind or hold-at-end value outside its codes (R2, check 3). -/
def periodOf (f : PeriodFields) : Option Period :=
  match periodKindOf f.kind, yesNo f.holdAtEnd with
  | some k, some h =>
    some { kind := k, duration := f.duration.toNat, factor := f.factor.toNat, holdAtEnd := h }
  | none, _ => none
  | some _, none => none

/-- Every period record with its enumerations read (R2, check 3). -/
def periodsOf : List PeriodFields → Option (List Period)
  | [] => some []
  | f :: rest =>
    match periodOf f, periodsOf rest with
    | some p, some ps => some (p :: ps)
    | none, _ => none
    | some _, none => none

/-- A period record brought into range (R2). -/
def clampPeriod (p : Period) : Period :=
  { p with duration := clampTo 1 6000 p.duration, factor := min 16 p.factor }

/-- A plan brought into range (R2). -/
def clampPlan (p : Plan) : Plan := { periods := p.periods.map clampPeriod, grace := min 100 p.grace }

/-- LOAD PLAN (R2); a variable part that is no whole number of period records is none. -/
def serveLoadPlan (count grace : Nat) (records : Option (List PeriodFields)) (s : State) : Served :=
  if s.clock.phase != .idle then refuse .badState s
  else if count = 0 || 8 < count then refuse .badArg s
  else
    match records with
    | none => refuse .badArg s
    | some fs =>
      if fs.length != count then refuse .badArg s
      else
        match periodsOf fs with
        | none => refuse .badArg s
        | some ps =>
          if ps.any fun p => isDriving (some p.kind) then
            let raw : Plan := { periods := ps, grace := grace }
            { state := { s with clock := { s.clock with plan := some (clampPlan raw) } },
              outcome := okIf (clampPlan raw != raw), fields := [] }
          else refuse .badArg s

/-- STAGE (R6), with the setting up of the match (R54, R128). -/
def serveStage (s : State) : Served :=
  if s.clock.phase != .idle then refuse .badState s
  else if s.clock.plan.isNone then refuse .noPlan s
  else settled (carryOut (copyDefaultFlags (setUpScores (enterPhase .staging 0 0 .none none s))))

/-- START (R7). -/
def serveStart (s : State) : Served :=
  if s.clock.phase != .staging then refuse .badState s
  else if s.stop.stopped then refuse .stopHeld s
  else settled (carryOut (loadPeriod 1 s))

/-- PAUSE (R8). -/
def servePause (s : State) : Served :=
  if s.clock.phase != .running then refuse .badState s
  else settled (carryOut (enterHeld .paused s.clock.remaining s))

/-- What a RESUME does by the held mark (R9). -/
def resumeClock (s : State) : State :=
  if s.clock.mark = .atEnd then nextPeriod s
  else enterPhase .running s.clock.index s.clock.remaining .none none s

/-- RESUME (R9). -/
def serveResume (s : State) : Served :=
  if s.clock.phase != .held then refuse .badState s
  else if s.stop.stopped then refuse .stopHeld s
  else settled (carryOut (resumeClock s))

/-- ABORT MATCH (R13). -/
def serveAbortMatch (s : State) : Served :=
  match s.clock.phase with
  | .idle | .finished => refuse .badState s
  | .staging | .running | .held | .grace => settled (carryOut (enterFinished s))

/-- CLOSE MATCH (R14), with the return of the robots to EXPECTED (R42). -/
def serveCloseMatch (s : State) : Served :=
  match s.clock.phase with
  | .staging | .finished => settled (carryOut (closeRoster (enterPhase .idle 0 0 .none none s)))
  | .idle | .running | .held | .grace => refuse .badState s

/-- READ CLOCK (R17, R196). -/
def serveReadClock (s : State) : Served :=
  reading ([byte (phaseCode s.clock.phase), byte s.clock.index, byte (periodKindCode s.currentKind)]
    ++ twoBytes s.remainingReported ++ [byte (markCode s.clock.mark), byte s.periodCount]) s

/-- A period expires (R10). -/
def expirePeriod (s : State) : State :=
  let s := (s.setFlagIf (s.flagSet .periodEnd) .lapse).setFlag .periodEnd
  if (s.currentPeriod.map (·.holdAtEnd)).getD false then enterHeld .atEnd 0 s else nextPeriod s

/-- LOAD PLAN; a payload longer than 8 period records is refused before the request reaches the clock (R180). -/
def execLoadPlan (count grace : Byte) (periods : List PeriodFields) (s : State) : Result :=
  .next (consoleRequest 0x30
    (if 8 < periods.length then refuse .badArg else serveLoadPlan count.toNat grace.toNat (some periods)) s)

/-- STAGE. -/
def execStage (s : State) : Result := .next (consoleRequest 0x31 serveStage s)

/-- START. -/
def execStart (s : State) : Result := .next (consoleRequest 0x32 serveStart s)

/-- PAUSE. -/
def execPause (s : State) : Result := .next (consoleRequest 0x33 servePause s)

/-- RESUME. -/
def execResume (s : State) : Result := .next (consoleRequest 0x34 serveResume s)

/-- ABORT MATCH. -/
def execAbortMatch (s : State) : Result := .next (consoleRequest 0x35 serveAbortMatch s)

/-- CLOSE MATCH. -/
def execCloseMatch (s : State) : Result := .next (consoleRequest 0x36 serveCloseMatch s)

/-- READ CLOCK. -/
def execReadClock (s : State) : Result := .next (consoleRequest 0x37 serveReadClock s)

/-- The current period's remaining time reaches 0 while the phase is RUNNING; otherwise there is no expiry (R10). -/
def execPeriodExpiry (s : State) : Result :=
  .next (whenAwake (fun s => if s.clock.phase = .running then settle (expirePeriod s) else s) s)

/-- The grace timer expires (R11); otherwise there is no expiry. -/
def execGraceExpiry (s : State) : Result :=
  .next (whenAwake (fun s => if s.clock.phase = .grace then settle (enterFinished s) else s) s)

end Sys2Proof.Machine
end

