-- ==== Sys2Proof/Machine/ElementCommands.lean ====
section
/-! DEFINITION. The commands of the Element Table (chapter 3). -/

namespace Sys2Proof.Machine

/-- The side of a definition (R194): 0 is NEUTRAL. -/
def sideOf (b : Byte) : Option Nat := if b = 0 then none else some b.toNat

/-- A definition of a kind other than NONE as it is carried, with a quota stored as 0 for a kind other than DISPENSER
(R48). -/
def rawDefinition (k : ElementKind) (d : DefineFields) (refusing silent : Bool) : ElementDef :=
  { kind := k, side := sideOf d.side, baseValue := d.baseValue.toNat, controlBonus := d.controlBonus.toNat,
    minTier := d.minTier.toNat, holdLimit := d.holdLimit.toNat, cooldown := d.cooldown.toNat,
    quota := if k = .dispenser then d.quota.toNat else 0, timeout := d.timeout.toNat, policy := policyOf d.policy,
    defaultRefusing := refusing, defaultSilent := silent }

/-- A definition brought into range (R48). -/
def clampDefinition (d : ElementDef) : ElementDef :=
  { d with controlBonus := clampTo 8 32 d.controlBonus, minTier := clampTo 1 4 d.minTier,
           holdLimit := min 1200 d.holdLimit, cooldown := min 300 d.cooldown,
           timeout := clampTo 1 600 d.timeout }

/-- A definition is written, the run-time part set, and the element handed on (R49, R119, R129). -/
def define (e : Nat) (d : ElementDef) (s : State) : State :=
  let s := (s.setDef e d).setRun e (freshRun d)
  let s := if d.kind = .none then clearLight e s else recompute e s
  defineScore e s

/-- The checks of a definition of a kind other than NONE (R48, steps 4 to 6, and R180 for the yes/no fields). -/
def definitionOk (k : ElementKind) (d : DefineFields) (allianceCount : Nat) : Bool :=
  d.side.toNat ≤ 4 && !(k = .tower && d.side != 0) && d.side.toNat ≤ allianceCount
    && (yesNo d.defaultRefusing).isSome && (yesNo d.defaultSilent).isSome

/-- DEFINE ELEMENT (R48, R49). -/
def serveDefineElement (e : Nat) (d : DefineFields) (s : State) : Served :=
  if s.clock.phase != .idle then refuse .badState s
  else if !elementInRange e then refuse .badArg s
  else
    match elementKindOf d.kind with
    | none => refuse .badArg s
    | some .none =>
      if (s.act e).state != .none then refuse .busy s
      else settled (carryOut (define e undefinedElement s))
    | some k =>
      if !definitionOk k d s.settings.allianceCount then refuse .badArg s
      else if (s.act e).state != .none then refuse .busy s
      else
        let raw := rawDefinition k d ((yesNo d.defaultRefusing).getD false) ((yesNo d.defaultSilent).getD false)
        settled { state := define e (clampDefinition raw) s, outcome := okIf (clampDefinition raw != raw), fields := [] }

/-- The definition fields of an element from kind to default silent (R196). -/
def definitionBytes (d : ElementDef) : List Byte :=
  [byte (elementKindCode d.kind), byte (orZero d.side), byte d.baseValue, byte d.controlBonus, byte d.minTier]
    ++ twoBytes d.holdLimit ++ twoBytes d.cooldown ++ [byte d.quota] ++ twoBytes d.timeout
    ++ [byte (policyCode d.policy), markByte d.defaultRefusing, markByte d.defaultSilent]

/-- The run-time fields of an element (R196). -/
def runBytes (r : ElementRun) : List Byte :=
  [byte (packMarks r.refusing r.silent r.withdrawn r.withdrawPending r.jammed), byte (presenceCode r.presence),
    byte r.missCount, byte r.faultTally, byte (faultCode r.lastFault), byte (outcomeOfActCode r.lastOutcome)]

/-- The claim fields of an element: holder, hold time left, waiting count, waiters, barred slot, cooldown left (R196). -/
def claimBytes (c : Claim) : List Byte :=
  [byte (orZero c.holder)] ++ twoBytes (reported c.holdTimer) ++ [byte c.waiters.length]
    ++ [0, 1, 2, 3].map (fun i => byte (c.waiters.getD i 0))
    ++ [byte (orZero (c.barred.map (·.slot)))] ++ twoBytes (cooldownReported c)

/-- READ ELEMENT (R50, R196). -/
def serveReadElement (e : Nat) (s : State) : Served :=
  if !elementInRange e then refuse .badArg s
  else reading (definitionBytes (s.elemDef e) ++ runBytes (s.run e)
    ++ [byte (modeCode (s.modeReported e)), byte (actStateCode (s.act e).state)] ++ claimBytes (s.claim e)) s

/-- SET ELEMENT MODE (R53). -/
def serveSetElementMode (e : Nat) (refusing silent : Byte) (s : State) : Served :=
  if !elementInRange e then refuse .badArg s
  else
    match yesNo refusing, yesNo silent with
    | some r, some q =>
      if !s.defined e then refuse .badState s
      else carryOut (s.modRun e fun x => { x with refusing := r, silent := q })
    | none, _ => refuse .badArg s
    | some _, none => refuse .badArg s

/-- WITHDRAW (R55). -/
def serveWithdraw (e : Nat) (s : State) : Served :=
  if !elementInRange e then refuse .badArg s
  else if !s.defined e then refuse .badState s
  else if (s.run e).withdrawn then carryOut s
  else if (s.run e).withdrawPending then { state := s, outcome := .accepted, fields := [] }
  else if (s.act e).state = .none then settled (carryOut (withdrawNow e s))
  else
    settled { state := recompute e (s.modRun e fun r => { r with withdrawPending := true }), outcome := .accepted,
              fields := [] }

/-- RESTORE ELEMENT (R58). -/
def serveRestoreElement (e : Nat) (s : State) : Served :=
  if !elementInRange e then refuse .badArg s
  else if !s.defined e then refuse .badState s
  else if (s.run e).withdrawPending then
    settled (carryOut (recompute e (s.modRun e fun r => { r with withdrawPending := false })))
  else if (s.run e).withdrawn then
    settled (carryOut (recompute e (s.modRun e fun r => { r with withdrawn := false })))
  else carryOut s

/-- The fault fields of an element (R63, R196). -/
def faultBytes (r : ElementRun) : List Byte := [byte r.faultTally, byte (faultCode r.lastFault), markByte r.jammed]

/-- The fault capture with its repeat mark (R63, R196). -/
def captureBytes (t : ElementTable) : List Byte :=
  [byte (faultCode (t.capture.map (·.kind))), byte (orZero (t.capture.map (·.element)))]
    ++ fourBytes (orZero (t.capture.map (·.time))) ++ [markByte t.repeated]

/-- READ FAULTS (R63). -/
def serveReadFaults (s : State) : Served :=
  reading (captureBytes s.table ++ elementNumbers.flatMap fun e => faultBytes (s.run e)) s

/-- The clearing of one element's faults (R64). -/
def clearElementFaults (e : Nat) (s : State) : State :=
  let was := (s.run e).jammed
  let s := s.modRun e fun r => { r with jammed := false, faultTally := 0, lastFault := none }
  if was then recompute e s else s

/-- CLEAR FAULTS (R64). -/
def serveClearFaults (e : Nat) (s : State) : Served :=
  if e = 0 then carryOut { s with table := { s.table with capture := none, repeated := false } }
  else if !elementInRange e then refuse .badArg s
  else if !s.defined e then carryOut s
  else settled (carryOut (clearElementFaults e s))

/-- DEFINE ELEMENT. -/
def execDefineElement (element : Byte) (d : DefineFields) (s : State) : Result :=
  .next (consoleRequest 0x10 (serveDefineElement element.toNat d) s)

/-- READ ELEMENT. -/
def execReadElement (element : Byte) (s : State) : Result :=
  .next (consoleRequest 0x11 (serveReadElement element.toNat) s)

/-- SET ELEMENT MODE. -/
def execSetElementMode (element refusing silent : Byte) (s : State) : Result :=
  .next (consoleRequest 0x12 (serveSetElementMode element.toNat refusing silent) s)

/-- WITHDRAW. -/
def execWithdraw (element : Byte) (s : State) : Result := .next (consoleRequest 0x13 (serveWithdraw element.toNat) s)

/-- RESTORE ELEMENT. -/
def execRestoreElement (element : Byte) (s : State) : Result :=
  .next (consoleRequest 0x14 (serveRestoreElement element.toNat) s)

/-- READ FAULTS. -/
def execReadFaults (s : State) : Result := .next (consoleRequest 0x15 serveReadFaults s)

/-- CLEAR FAULTS. -/
def execClearFaults (element : Byte) (s : State) : Result :=
  .next (consoleRequest 0x16 (serveClearFaults element.toNat) s)

end Sys2Proof.Machine
end

