-- ==== Sys2Proof/Machine/RosterCommands.lean ====
section
/-! DEFINITION. The console's and the timers' commands of the Robot Roster (chapter 2). -/

namespace Sys2Proof.Machine

/-- A slot as REGISTER leaves it (R22). -/
def registeredSlot (g : Settings) (kit : Word) (alliance team : Nat) : Slot :=
  { vacantSlot with state := .expected, kit := kit, alliance := alliance, team := team, permitted := allTiers,
                    restoreTimer := restoreStart g none }

/-- REGISTER (R22). -/
def serveRegister (n : Nat) (kit : Word) (alliance team : Nat) (s : State) : Served :=
  if s.clock.phase != .idle && s.clock.phase != .staging then refuse .badState s
  else if !slotInRange n then refuse .badArg s
  else if alliance = 0 || s.settings.allianceCount < alliance then refuse .badArg s
  else if (s.slot n).state != .empty then refuse .badState s
  else if (s.slotOfKit kit).isSome then refuse .badArg s
  else
    { state := (s.setSlot n (registeredSlot s.settings kit alliance (max 1 team))).setStrangers
        (s.roster.strangers.erase kit),
      outcome := okIf (team = 0), fields := [] }

/-- UNREGISTER (R23). -/
def serveUnregister (n : Nat) (s : State) : Served :=
  if s.clock.phase != .idle && s.clock.phase != .staging then refuse .badState s
  else if !slotInRange n then refuse .badArg s
  else if (s.slot n).state = .empty then refuse .badState s
  else settled (carryOut (((dropClaims n s).setSlot n vacantSlot).setBox n none))

/-- The record of a slot as READ SLOT gives it (R24, R196). -/
def slotBytes (x : Slot) : List Byte :=
  [byte (slotStateCode x.state)] ++ fourBytes x.kit.toNat ++ [byte x.alliance] ++ twoBytes x.team
    ++ [byte x.permitted.toNat, byte (x.lastAd.getD 0).toNat, byte (orZero x.tier), byte (orZero x.cap),
        byte x.attempts, markByte x.wasLost]
    ++ twoBytes (disableCode x.disable) ++ [byte x.holdCount, byte x.waitCount]

/-- READ SLOT (R24). -/
def serveReadSlot (n : Nat) (s : State) : Served :=
  if !slotInRange n then refuse .badArg s else reading (slotBytes (s.slot n)) s

/-- READ STRANGERS: the count, then four kit ids, newest first, unused places 0 (R25, R196). -/
def serveReadStrangers (s : State) : Served :=
  reading (byte s.roster.strangers.length
    :: [0, 1, 2, 3].flatMap fun i => fourBytes (s.roster.strangers.getD i 0).toNat) s

/-- The disable that a duration asks for (R38). -/
def disableOf (duration : Nat) : Disable :=
  if duration = 0 then .permanent else .timed (tenths (min 6000 duration))

/-- The slot record under a new disable: an ADMITTED slot becomes DISABLED (R38). -/
def disableSlot (d : Disable) (x : Slot) : Slot :=
  { x with disable := some d, state := if x.state = .admitted then .disabled else x.state }

/-- DISABLE ROBOT (R38). -/
def serveDisableRobot (n duration : Nat) (s : State) : Served :=
  if !slotInRange n then refuse .badArg s
  else if (s.slot n).state = .empty || (s.slot n).state = .expected then refuse .badState s
  else
    let dropped := if (s.slot n).state = .admitted then dropClaims n s else s
    settled { state := dropped.modSlot n (disableSlot (disableOf duration)), outcome := okIf (6000 < duration),
              fields := [] }

/-- ENABLE ROBOT (R40). -/
def serveEnableRobot (n : Nat) (s : State) : Served :=
  if !slotInRange n then refuse .badArg s
  else if (s.slot n).state = .empty then refuse .badState s
  else carryOut (s.modSlot n endDisable)

/-- RESTORE TIERS (R34). -/
def serveRestoreTiers (n : Nat) (s : State) : Served :=
  if !slotInRange n then refuse .badArg s
  else if (s.slot n).state = .empty then refuse .badState s
  else carryOut (s.modSlot n fun x => { x with permitted := allTiers, attempts := 0 })

/-- REGISTER. -/
def execRegister (slot : Byte) (kit : Word) (alliance : Byte) (team : Half) (s : State) : Result :=
  .next (consoleRequest 0x20 (serveRegister slot.toNat kit alliance.toNat team.toNat) s)

/-- UNREGISTER. -/
def execUnregister (slot : Byte) (s : State) : Result := .next (consoleRequest 0x21 (serveUnregister slot.toNat) s)

/-- READ SLOT. -/
def execReadSlot (slot : Byte) (s : State) : Result := .next (consoleRequest 0x22 (serveReadSlot slot.toNat) s)

/-- READ STRANGERS. -/
def execReadStrangers (s : State) : Result := .next (consoleRequest 0x23 serveReadStrangers s)

/-- DISABLE ROBOT. -/
def execDisableRobot (slot : Byte) (duration : Half) (s : State) : Result :=
  .next (consoleRequest 0x24 (serveDisableRobot slot.toNat duration.toNat) s)

/-- ENABLE ROBOT. -/
def execEnableRobot (slot : Byte) (s : State) : Result := .next (consoleRequest 0x25 (serveEnableRobot slot.toNat) s)

/-- RESTORE TIERS. -/
def execRestoreTiers (slot : Byte) (s : State) : Result :=
  .next (consoleRequest 0x26 (serveRestoreTiers slot.toNat) s)

/-- The lapse of an unconfirmed offer (R32). -/
def lapse (n : Nat) (s : State) : State :=
  let x := s.slot n
  let x : Slot := { x with attempts := min 15 (x.attempts + 1) }
  let down := downshifts s.settings x
  let x : Slot := if down then { x with permitted := removeTier x.permitted (x.tier.getD 0), attempts := 0 } else x
  (s.setSlot n (lapseOffer s.settings x)).setFlagIf down .downshift

/-- The confirm timer of an OFFERED slot expires (R32); a timer that does not run has no expiry. -/
def execConfirmTimerExpiry (slot : Nat) (s : State) : Result :=
  .next (whenAwake (fun s =>
    if (s.slot slot).state = .offered && (s.slot slot).confirmTimer.isSome then lapse slot s else s) s)

/-- The silence timer of a slot expires (R35). -/
def fallSilent (n : Nat) (s : State) : State :=
  let s := dropClaims n s
  (s.modSlot n (toLost s.settings)).setFlag .lost

/-- The silence timer of an ADMITTED or DISABLED slot expires (R35); a timer that does not run has no expiry. -/
def execSilenceTimerExpiry (slot : Nat) (s : State) : Result :=
  .next (whenAwake (fun s =>
    if ((s.slot slot).state = .admitted || (s.slot slot).state = .disabled) && (s.slot slot).silenceTimer.isSome
    then settle (fallSilent slot s) else s) s)

/-- The slot record at the expiry of its restore timer (R33). DESIGN CHOICE (log entry 14): RESTORE ENABLE as it stands at the
expiry decides, also where it has been turned off and on again while the timer ran. -/
def restoreSlot (enabled : Bool) (x : Slot) : Slot :=
  if enabled then { x with permitted := allTiers, attempts := 0, restoreTimer := none }
  else { x with restoreTimer := none }

/-- The restore timer of a slot expires (R33); a timer that does not run has no expiry. -/
def execRestoreTimerExpiry (slot : Nat) (s : State) : Result :=
  .next (whenAwake (fun s =>
    if (s.slot slot).restoreTimer.isSome then s.modSlot slot (restoreSlot s.settings.restoreEnable) else s) s)

/-- A disable that counts down (R39). -/
def isTimed : Option Disable → Bool
  | some (.timed _) => true
  | some .permanent => false
  | none => false

/-- A timed disable ends, which it can while match time runs (R39). -/
def execDisableTimerExpiry (slot : Nat) (s : State) : Result :=
  .next (whenAwake (fun s =>
    if isTimed (s.slot slot).disable && s.matchTime then s.modSlot slot endDisable else s) s)

end Sys2Proof.Machine
end

