-- ==== Sys2Proof/Machine/ClaimCommands.lean ====
section
/-! DEFINITION. The console's and the timers' commands of the Claim Arbiter (chapter 4). -/

namespace Sys2Proof.Machine

/-- The elements that a reading from a first element covers: 8, or those up to element 32 (R86, R142). -/
def covered (first : Nat) : List Nat := List.range' first (min 8 (33 - first))

/-- READ CLAIMS (R86, R196). -/
def serveReadClaims (first : Nat) (s : State) : Served :=
  if !elementInRange first then refuse .badArg s
  else reading ([byte first, byte (covered first).length] ++ (covered first).flatMap fun e => claimBytes (s.claim e)) s

/-- The revocation by the console: bar where asked, then handover; REVOKED is not set (R84). -/
def revoke (h e : Nat) (withBar : Bool) (s : State) : State :=
  let s := dropHolder e s
  handover e (if withBar then bar h e s else s)

/-- REVOKE CLAIM (R84). -/
def serveRevokeClaim (e : Nat) (barValue : Byte) (expected : Nat) (s : State) : Served :=
  if !elementInRange e || 24 < expected then refuse .badArg s
  else
    match yesNo barValue with
    | none => refuse .badArg s
    | some withBar =>
      if !s.defined e then refuse .badState s
      else
        match (s.claim e).holder with
        | none => refuse .notFound s
        | some h =>
          if expected != 0 && expected != h then refuse .notFound s
          else
            let s' := revoke h e withBar s
            settled { state := s', outcome := .ok, fields := [byte h, byte (orZero (s'.claim e).holder)] }

/-- READ CLAIMS. -/
def execReadClaims (first : Byte) (s : State) : Result :=
  .next (consoleRequest 0x48 (serveReadClaims first.toNat) s)

/-- REVOKE CLAIM. -/
def execRevokeClaim (element bar expected : Byte) (s : State) : Result :=
  .next (consoleRequest 0x49 (serveRevokeClaim element.toNat bar expected.toNat) s)

/-- A hold limit runs out, which it can while drive time runs (R81, R91); a timer that does not run has no expiry. -/
def execHoldTimerExpiry (element : Nat) (s : State) : Result :=
  .next (whenAwake (fun s =>
    if (s.claim element).holder.isSome && (s.claim element).holdTimer.isSome && s.driveTime
    then settle (expireHold element s) else s) s)

/-- A cooldown expires, which it can while drive time runs: the bar becomes absent (R82, R91). -/
def execCooldownExpiry (element : Nat) (s : State) : Result :=
  .next (whenAwake (fun s =>
    if s.driveTime then s.setClaim element { s.claim element with barred := none } else s) s)

end Sys2Proof.Machine
end

