-- ==== Sys2Proof/Machine/BusCommands.lean ====
section
/-! DEFINITION. The console's commands of the Field Bus Controller, the events of the bus, and the pulse timer
(chapters 5 and 6). -/

namespace Sys2Proof.Machine

/-- Console ACTUATE (R103). -/
def serveConsoleActuate (e argument : Nat) (s : State) : Served :=
  if !elementInRange e then refuse .badArg s
  else if !actuable (s.elemDef e) then refuse .badState s
  else if (s.run e).withdrawn then refuse .badState s
  else if (s.act e).state != .none then refuse .busy s
  else if s.stop.stopped then refuse .stopHeld s
  else if (s.run e).jammed then refuse .jammed s
  else if queuePlaces ≤ s.bus.queue.length then refuse .full s
  else
    settled { state := queueActuation e (clampArgument (s.elemDef e) argument) .console none s, outcome := .accepted,
              fields := [byte (clampArgument (s.elemDef e) argument)] }

/-- PASS-THROUGH (R112). -/
def servePassThrough (e : Nat) (bytes : List Byte) (s : State) : Served :=
  if !elementInRange e || 8 < bytes.length then refuse .badArg s
  else if s.bus.pass = .pending then refuse .busy s
  else if s.stop.stopped then refuse .stopHeld s
  else if queuePlaces ≤ s.bus.queue.length then refuse .full s
  else
    settled { state := (appendEntry { element := e, arg := .raw bytes, origin := .console, charge := none } s).setPass
                .pending,
              outcome := .accepted, fields := [] }

/-- PASS RESULT (R114, R196). -/
def servePassResult (s : State) : Served :=
  match s.bus.pass with
  | .pending => refuse .pending s
  | .empty => refuse .notFound s
  | .done bytes => reading ([byte 0, byte bytes.length] ++ bytes) s
  | .noAnswer => reading [byte 1, byte 0] s
  | .checkFail => reading [byte 2, byte 0] s
  | .aborted => reading [byte 3, byte 0] s

/-- Console ACTUATE. -/
def execConsoleActuate (element argument : Byte) (s : State) : Result :=
  .next (consoleRequest 0x4A (serveConsoleActuate element.toNat argument.toNat) s)

/-- PASS-THROUGH. -/
def execPassThrough (element : Byte) (bytes : List Byte) (s : State) : Result :=
  .next (consoleRequest 0x4B (servePassThrough element.toNat bytes) s)

/-- PASS RESULT. -/
def execPassResult (s : State) : Result := .next (consoleRequest 0x4C servePassResult s)

/-- The answer window starts at the end of a request frame that expects an answer; the bus is free at the end of a HALT
(R94, R109). DESIGN CHOICE (log entry 19): the window is ANSWER WINDOW as it stands at the frame's end, also where the setting
was changed while that frame was being sent (R94, R186). -/
def requestFrameEnds (s : State) : State :=
  match s.bus.current with
  | none => s
  | some t =>
    match t.window, t.request with
    | some _, _ => s
    | none, .halt => settle { s with bus := { s.bus with current := none } }
    | none, q =>
      { s with bus := { s.bus with
          current := some { request := q, window := some (millis s.settings.answerWindow) } } }

/-- The end of a request frame on the field bus (R94). -/
def execBusFrameSent (s : State) : Result := .next (whenAwake requestFrameEnds s)

/-- The class of a frame that arrives within the window (R95). -/
def classify (q : BusRequest) (bytes : List Byte) : BusResult :=
  match goodAnswerOf q bytes with
  | some a => .good a
  | none => .failedCheck

/-- The transaction that waits for its answer is ended with a result (R95); bytes for no transaction are discarded. -/
def takeResult (result : BusRequest → BusResult) (s : State) : State :=
  match s.bus.current with
  | none => s
  | some t =>
    match t.window with
    | none => s
    | some _ => settle (endTransaction t.request (result t.request) s)

/-- An answer frame arrives within the window (R95). -/
def execBusAnswer (bytes : List Byte) (s : State) : Result :=
  .next (whenAwake (takeResult fun q => classify q bytes) s)

/-- The answer window expires with no answer (R94, R95). -/
def execAnswerWindowExpiry (s : State) : Result := .next (whenAwake (takeResult fun _ => .noAnswer) s)

/-- An in-flight actuation's timer expires and the actuation ends JAMMED (R105); a timer that does not run has no expiry. -/
def execActuationTimerExpiry (element : Nat) (s : State) : Result :=
  .next (whenAwake (fun s =>
    if (s.act element).state = .inFlight && (s.act element).timer.isSome
    then settle (endActuation element .jammed s) else s) s)

/-- An element's pulse timer expires and the element is recomputed (R118); a timer that does not run has no expiry. -/
def execPulseTimerExpiry (element : Nat) (s : State) : Result :=
  .next (whenAwake (fun s =>
    if (s.light element).pulse.isSome
    then settle (recompute element (s.setLight element { s.light element with pulse := none })) else s) s)

end Sys2Proof.Machine
end

