-- ==== Sys2Proof/Machine/ScoreCommands.lean ====
section
/-! DEFINITION. The commands of the Score Unit (chapter 7). -/

namespace Sys2Proof.Machine

/-- An alliance record as READ SCORES gives it (R141, R196). -/
def allianceBytes (r : AllianceRecord) : List Byte := twoBytes r.score ++ twoBytes r.penalty ++ twoBytes r.clampLoss

/-- READ SCORES (R141). -/
def serveReadScores (s : State) : Served :=
  reading ([byte s.settings.allianceCount, byte (phaseCode s.clock.phase), byte s.clock.index]
    ++ allianceNumbers.flatMap fun a => allianceBytes (s.alliance a)) s

/-- The score state of an element as READ TALLIES gives it; the accumulator is in whole milliseconds, rounded down, and
reads at most 999 (R125, R142, R196). -/
def tallyBytes (d : ElementDef) (x : ElementScore) : List Byte :=
  [byte (elementKindCode d.kind + if x.baseline.isNone then 8 else 0), byte (orZero x.baseline)]
    ++ twoBytes x.credited ++ twoBytes x.unattributed ++ twoBytes x.uncounted
    ++ allianceNumbers.map (fun a => byte (at1 x.quotas a 0)) ++ twoBytes (min 999 (x.accumulator / 1000))

/-- READ TALLIES (R142). -/
def serveReadTallies (first : Nat) (s : State) : Served :=
  if !elementInRange first then refuse .badArg s
  else reading ([byte first, byte (covered first).length]
    ++ (covered first).flatMap fun e => tallyBytes (s.elemDef e) (s.elemScore e)) s

/-- The phases in which PENALIZE and AWARD are taken (R139, R140). -/
def settlingPhase (p : Phase) : Bool :=
  match p with
  | .running | .held | .grace | .finished => true
  | .idle | .staging => false

/-- The checks that PENALIZE and AWARD share, and their reply with the score after the request (R139, R140). -/
def serveSettlement (change : Nat → Nat → State → State) (a amount : Nat) (s : State) : Served :=
  if !settlingPhase s.clock.phase then refuse .badState s
  else if a = 0 || s.settings.allianceCount < a then refuse .badArg s
  else
    let s' := change a (clampTo 1 1000 amount) s
    { state := s', outcome := okIf (clampTo 1 1000 amount != amount), fields := twoBytes (s'.alliance a).score }

/-- PENALIZE (R139). -/
def servePenalize (a amount : Nat) (s : State) : Served := serveSettlement takePoints a amount s

/-- AWARD (R140). -/
def serveAward (a amount : Nat) (s : State) : Served := serveSettlement addPoints a amount s

/-- READ SCORES. -/
def execReadScores (s : State) : Result := .next (consoleRequest 0x50 serveReadScores s)

/-- READ TALLIES. -/
def execReadTallies (first : Byte) (s : State) : Result :=
  .next (consoleRequest 0x51 (serveReadTallies first.toNat) s)

/-- PENALIZE. -/
def execPenalize (alliance : Byte) (amount : Half) (s : State) : Result :=
  .next (consoleRequest 0x52 (servePenalize alliance.toNat amount.toNat) s)

/-- AWARD. -/
def execAward (alliance : Byte) (amount : Half) (s : State) : Result :=
  .next (consoleRequest 0x53 (serveAward alliance.toNat amount.toNat) s)

/-- The accumulator of a TOWER with a holder has reached 1000 ms, or grows, so that the command lets it reach them (R137; log
entry 13). -/
def State.secondComes (s : State) (e : Nat) : Bool := seconds 1 ≤ (s.elemScore e).accumulator || s.driveTime

/-- A tower accumulator reaches 1000 ms (R137): a TOWER with a holder takes the second, also when a period expiry taken
first has stopped drive time; where the accumulator stands still below 1000 ms no second comes. -/
def takeTowerSecond (e : Nat) (s : State) : State :=
  match (s.elemDef e).kind, s.holderAlliance e with
  | .tower, some a => if s.secondComes e then settle (creditSecond e a s) else s
  | .tower, none => s
  | .none, _ => s
  | .goal, _ => s
  | .gate, _ => s
  | .dispenser, _ => s

/-- TOWER_SECOND. -/
def execTowerSecond (element : Nat) (s : State) : Result := .next (whenAwake (takeTowerSecond element) s)

end Sys2Proof.Machine
end

