-- ==== Sys2Proof/Machine/StopCommands.lean ====
section
/-! DEFINITION. The commands of the Stop Unit, the break detector, the pins and the start-ups (chapters 8, 10 and 11). -/

namespace Sys2Proof.Machine

/-- FIELD STOP (R148). -/
def serveFieldStop (s : State) : Served := settled (carryOut (causeArrives .console s))

/-- A live condition that refuses a release (R149). -/
def State.stopCondition (s : State) : Bool := s.stop.stopIn || s.console.breakInProgress

/-- The release of the stop (R149). -/
def release (s : State) : State :=
  (({ s with stop := { unlatch s.stop with stopped := false } }).setFlag .stopClear).makeBeaconDue

/-- RELEASE STOP (R149). -/
def serveReleaseStop (s : State) : Served :=
  if !s.stop.stopped then refuse .notStopped s
  else if s.stopCondition then refuse .stopHeld s
  else settled (carryOut (release s))

/-- READ STOP (R151, R196). -/
def serveReadStop (s : State) : Served :=
  reading [markByte s.stop.stopped, byte (packMarks s.stop.pin s.stop.brk s.stop.console s.stop.reset false),
    markByte s.stop.stopIn, markByte s.console.breakInProgress] s

/-- FIELD STOP. -/
def execFieldStop (s : State) : Result := .next (consoleRequest 0x40 serveFieldStop s)

/-- RELEASE STOP. -/
def execReleaseStop (s : State) : Result := .next (consoleRequest 0x41 serveReleaseStop s)

/-- READ STOP. -/
def execReadStop (s : State) : Result := .next (consoleRequest 0x42 serveReadStop s)

/-- The level of STOP_IN changes. -/
def setStopIn (level : Bool) (s : State) : State := { s with stop := { s.stop with stopIn := level } }

/-- STOP_IN goes from negated to asserted: PIN arrives, but not during a start-up, and an input that stays asserted does
not arrive again (R145, R146, R152). -/
def pressStop (s : State) : State :=
  if s.stop.stopIn then s
  else if s.resetAsserted then setStopIn true s
  else settle (causeArrives .pin (setStopIn true s))

/-- STOP_IN_PRESSED. -/
def execStopInPressed (s : State) : Result := .next (pressStop s)

/-- STOP_IN is negated, which is not an arrival (R145). -/
def execStopInLetGo (s : State) : Result := .next (setStopIn false s)

/-- A break is detected: a partial record is discarded, the break is in progress, and BREAK arrives; a break that lasts
does not arrive again (R178). -/
def detectBreak (s : State) : State :=
  if s.console.breakInProgress then s
  else
    let s := receiverDone s
    settle (causeArrives .brk { s with console := { s.console with breakInProgress := true } })

/-- BREAK_DETECTED. -/
def execBreakDetected (s : State) : Result := .next (whenAwake detectBreak s)

/-- The console line returns to mark, which ends the break in progress (R178). -/
def execBreakEnd (s : State) : Result :=
  .next (whenAwake (fun s => { s with console := { s.console with breakInProgress := false } }) s)

/-- Power-on: the start-up completes at once, with the choices of the arbiters (R98, R160), or at the release of a RESET pin
that is held (R189). -/
def powerOn (s : State) : State :=
  if s.resetAsserted then coldStartUp false s else settle (coldStartUp true s)

/-- POWER_ON. -/
def execPowerOn (s : State) : Result := .next (powerOn s)

/-- RESET is asserted: a start-up as at power-on, which completes at the pin's release (R152, R189). -/
def assertReset (s : State) : State :=
  if s.resetAsserted then s else coldStartUp false { s with resetAsserted := true }

/-- RESET_PIN. -/
def execResetPin (s : State) : Result := .next (assertReset s)

/-- RESET is negated: the start-up completes, PIN is latched if STOP_IN is asserted, and the arbiters choose (R98, R152,
R160, R189). -/
def releaseReset (s : State) : State :=
  if s.resetAsserted then
    settle { s with resetAsserted := false, stop := { s.stop with pin := s.stop.pin || s.stop.stopIn } }
  else s

/-- RESET_PIN_RELEASE. -/
def execResetPinRelease (s : State) : Result := .next (releaseReset s)

end Sys2Proof.Machine
end

