-- ==== Sys2Proof/Machine/MailCommands.lean ====
section
/-! DEFINITION. The console's commands of the message boxes (chapter 9). -/

namespace Sys2Proof.Machine

/-- The box holds a message with pending set (R166). -/
def isPending : Option Message → Bool
  | some m => m.pending
  | none => false

/-- Console MAIL PUT (R166). -/
def serveMailPut (n : Nat) (bytes : List Byte) (s : State) : Served :=
  if !slotInRange n || bytes.length = 0 || 48 < bytes.length then refuse .badArg s
  else if (s.slot n).state = .empty then refuse .badState s
  else if isPending (s.box n) then refuse .boxFull s
  else carryOut (s.setBox n (some { origin := .console, bytes := bytes, pending := true }))

/-- The origin of a message (R196). -/
def originCode : MailOrigin → Nat
  | .console => 0
  | .robot => 1

/-- A read by the console reaches the last byte of a robot's pending message (R168). -/
def consoleReads (m : Message) (offset count : Nat) : Message :=
  if m.origin = .robot && offset + count = m.bytes.length then { m with pending := false } else m

/-- Console MAIL READ (R168, R196). -/
def serveMailRead (n offset length : Nat) (s : State) : Served :=
  if !slotInRange n then refuse .badArg s
  else
    match s.box n with
    | none => refuse .boxEmpty s
    | some m =>
      if m.bytes.length ≤ offset then refuse .badOffset s
      else
        let count := clampTo 1 (m.bytes.length - offset) length
        let m' := consoleReads m offset count
        { state := s.setBox n (some m'), outcome := okIf (count != length),
          fields := [byte (originCode m.origin), byte m.bytes.length, byte offset, byte count, markByte m'.pending]
            ++ (m.bytes.drop offset).take count }

/-- The marks and length of a box (R169, R196). -/
def boxBytes : Option Message → List Byte
  | none => [0, 0]
  | some m => [byte (packMarks true (m.origin = .robot) m.pending false false), byte m.bytes.length]

/-- MAIL STATUS (R169). -/
def serveMailStatus (s : State) : Served := reading (slotNumbers.flatMap fun n => boxBytes (s.box n)) s

/-- Console MAIL PUT. -/
def execConsoleMailPut (slot : Byte) (bytes : List Byte) (s : State) : Result :=
  .next (consoleRequest 0x58 (serveMailPut slot.toNat bytes) s)

/-- Console MAIL READ. -/
def execConsoleMailRead (slot offset length : Byte) (s : State) : Result :=
  .next (consoleRequest 0x59 (serveMailRead slot.toNat offset.toNat length.toNat) s)

/-- MAIL STATUS. -/
def execMailStatus (s : State) : Result := .next (consoleRequest 0x5A serveMailStatus s)

end Sys2Proof.Machine
end

