-- ==== Sys2Proof/Machine/SettingsCommands.lean ====
section
/-! DEFINITION. The commands of the Attention Unit and the Settings Store (chapter 11), and IDENTIFY (R181). -/

namespace Sys2Proof.Machine

/-- IDENTIFY: vendor code 1C3Bh, part code 24, format revision 1 (R181). -/
def serveIdentify (s : State) : Served := reading (twoBytes 0x1C3B ++ [byte 24, byte 1]) s

/-- An identifier of R186. -/
def settingInRange (id : Nat) : Bool := 1 ≤ id && id ≤ 16

/-- The live value of a setting, as its request carries it (R186, R196). -/
def settingValue (g : Settings) (id : Nat) : Nat :=
  if id = 1 then g.consoleRate
  else if id = 2 then g.allianceCount
  else if id = 3 then g.allowedTiers.toNat
  else if id ≤ 7 then at1 g.tierCaps (id - 3) 0
  else if id = 8 then g.beaconInterval
  else if id = 9 then g.silenceLimit
  else if id = 10 then g.confirmWindow
  else if id = 11 then g.downshiftThreshold
  else if id = 12 then (if g.downshiftEnable then 1 else 0)
  else if id = 13 then g.restoreInterval
  else if id = 14 then (if g.restoreEnable then 1 else 0)
  else if id = 15 then g.answerWindow
  else g.pulseTime

/-- The settings with one value written (R187). -/
def writeSetting (id v : Nat) (g : Settings) : Settings :=
  if id = 1 then { g with consoleRate := v }
  else if id = 2 then { g with allianceCount := v }
  else if id = 3 then { g with allowedTiers := BitVec.ofNat 4 v }
  else if id ≤ 7 then { g with tierCaps := set1 g.tierCaps (id - 3) v }
  else if id = 8 then { g with beaconInterval := v }
  else if id = 9 then { g with silenceLimit := v }
  else if id = 10 then { g with confirmWindow := v }
  else if id = 11 then { g with downshiftThreshold := v }
  else if id = 12 then { g with downshiftEnable := v = 1 }
  else if id = 13 then { g with restoreInterval := v }
  else if id = 14 then { g with restoreEnable := v = 1 }
  else if id = 15 then { g with answerWindow := v }
  else { g with pulseTime := v }

/-- The value is one that the setting may be asked to take (R187, check 2). -/
def settingCodeOk (id v : Nat) : Bool :=
  if id = 1 then [57600, 115200, 230400, 460800].contains v
  else if id = 3 then 1 ≤ v && v ≤ 15
  else if id = 12 || id = 14 then v ≤ 1
  else true

/-- The phase allows the setting to be changed (R187, check 3). -/
def settingPhaseOk (id : Nat) (p : Phase) : Bool :=
  if id = 2 then p = .idle else if id = 3 then p = .idle || p = .staging else true

/-- A numeric value brought to the nearer end of its range (R186; R187, step 4). -/
def clampSetting (id v : Nat) : Nat :=
  if id = 2 then clampTo 2 4 v
  else if 4 ≤ id && id ≤ 7 then clampTo 10 100 v
  else if id = 8 then clampTo 20 500 v
  else if id = 9 then clampTo 200 5000 v
  else if id = 10 then clampTo 100 2000 v
  else if id = 11 then clampTo 1 15 v
  else if id = 13 then clampTo 2 255 v
  else if id = 15 then clampTo 1 20 v
  else if id = 16 then clampTo 100 1000 v
  else v

/-- A registered slot or a defined element stands above an ALLIANCE COUNT (R22, R47; R187, check 5). -/
def State.allianceInUseAbove (s : State) (v : Nat) : Bool :=
  slotNumbers.any (fun n => (s.slot n).state != .empty && v < (s.slot n).alliance)
    || elementNumbers.any fun e => s.defined e && v < orZero (s.elemDef e).side

/-- The roster after a change of ALLOWED TIERS taken in STAGING (R41). -/
def recheckTiers (s : State) : State := slotNumbers.foldl (fun s n => recheckTier n s) s

/-- One live setting is written; a change to ALLOWED TIERS in STAGING reaches the roster (R41, R187). -/
def changeSetting (id v : Nat) (s : State) : State :=
  let s' := { s with settings := writeSetting id v s.settings }
  if id = 3 && s.clock.phase = .staging && s.settings.allowedTiers != s'.settings.allowedTiers
  then settle (recheckTiers s') else s'

/-- SET SETTING (R187). -/
def serveSetSetting (id v : Nat) (s : State) : Served :=
  if !settingInRange id then refuse .badArg s
  else if !settingCodeOk id v then refuse .badArg s
  else if !settingPhaseOk id s.clock.phase then refuse .badState s
  else if id = 2 && s.allianceInUseAbove (clampSetting id v) then refuse .badState s
  else
    { state := changeSetting id (clampSetting id v) s, outcome := okIf (clampSetting id v != v),
      fields := byte id :: fourBytes (clampSetting id v) }

/-- GET SETTING (R186). -/
def serveGetSetting (id : Nat) (s : State) : Served :=
  if !settingInRange id then refuse .badArg s
  else reading (byte id :: fourBytes (settingValue s.settings id)) s

/-- The duration of a store write, which the AF-24 does not fix within 200 ms (R188; log entry 7). -/
def storeDuration (n : Nat) : Nat := Config.storeWriteTime n % millis 200 + 1

/-- STORE SETTINGS (R188). -/
def serveStoreSettings (s : State) : Served :=
  if s.store.writing.isSome then refuse .busy s
  else
    { state := { s with store := { s.store with
                   writing := some { copy := { settings := s.settings, defs := s.table.defs },
                                     left := storeDuration s.freeCount } },
                        freeCount := s.freeCount + 1 },
      outcome := .accepted, fields := [] }

/-- The write completes: the copy stands, the store is READY and STORE_DONE is set (R188). -/
def completeStore (s : State) : State :=
  match s.store.writing with
  | none => s
  | some w => ({ s with store := { writing := none, standing := w.copy, standingGood := true } }).setFlag .storeDone

/-- RESTART: the start-up follows when the reply has been sent (R177, R189). -/
def serveRestart (s : State) : Served := carryOut { s with console := { s.console with restarting := true } }

/-- A set of the attention requests; none if it marks a number above 21 (R185, R194). -/
def flagSetOf (set : BitVec 24) : Option FlagSet :=
  if set.getLsbD 22 || set.getLsbD 23 then none else some (set.setWidth 22)

/-- READ EVENTS (R185). -/
def serveReadEvents (s : State) : Served := reading (flagBytes s.attention.flags ++ flagBytes s.attention.enables) s

/-- CLEAR EVENTS (R185). -/
def serveClearEvents (set : BitVec 24) (s : State) : Served :=
  match flagSetOf set with
  | none => refuse .badArg s
  | some f =>
    { state := s.clearFlags f, outcome := .ok, fields := flagBytes (s.clearFlags f).attention.flags }

/-- SET EVENT ENABLES (R185). -/
def serveSetEventEnables (set : BitVec 24) (s : State) : Served :=
  match flagSetOf set with
  | none => refuse .badArg s
  | some f => carryOut (s.setEnables f)

/-- IDENTIFY. -/
def execIdentify (s : State) : Result := .next (consoleRequest 0x01 serveIdentify s)

/-- SET SETTING. -/
def execSetSetting (id : Byte) (value : Word) (s : State) : Result :=
  .next (consoleRequest 0x02 (serveSetSetting id.toNat value.toNat) s)

/-- GET SETTING. -/
def execGetSetting (id : Byte) (s : State) : Result := .next (consoleRequest 0x03 (serveGetSetting id.toNat) s)

/-- STORE SETTINGS. -/
def execStoreSettings (s : State) : Result := .next (consoleRequest 0x04 serveStoreSettings s)

/-- RESTART. -/
def execRestart (s : State) : Result := .next (consoleRequest 0x05 serveRestart s)

/-- READ EVENTS. -/
def execReadEvents (s : State) : Result := .next (consoleRequest 0x60 serveReadEvents s)

/-- CLEAR EVENTS. -/
def execClearEvents (set : BitVec 24) (s : State) : Result := .next (consoleRequest 0x61 (serveClearEvents set) s)

/-- SET EVENT ENABLES. -/
def execSetEventEnables (set : BitVec 24) (s : State) : Result :=
  .next (consoleRequest 0x62 (serveSetEventEnables set) s)

/-- The standing copy's write completes (R188); a store that is READY has none to complete. -/
def execStoreDone (s : State) : Result := .next (whenAwake completeStore s)

end Sys2Proof.Machine
end

