-- ==== Sys2Proof/Machine/ConsoleCommands.lean ====
section
/-! DEFINITION. The console line: received characters, records and the end of a reply (chapter 10). -/

namespace Sys2Proof.Machine

/-- A request whose payload has no variable part: a length that differs is refused BAD_ARG before the request reaches its
owner (R180). -/
def withLength (n : Nat) (p : List Byte) (serve : State → Served) : State → Served :=
  if p.length = n then serve else refuse .badArg

/-- A request whose payload has a variable part of at most so many bytes (R180). -/
def withVariable (n most : Nat) (p : List Byte) (serve : State → Served) : State → Served :=
  if n ≤ p.length && p.length ≤ n + most then serve else refuse .badArg

/-- The period records of a variable part; none if it is no whole number of records (R2, R196). -/
def periodRecords : Nat → List Byte → Option (List PeriodFields)
  | _, [] => some []
  | 0, _ :: _ => none
  | k + 1, p =>
    if p.length < 5 then none
    else
      match periodRecords k (p.drop 5) with
      | none => none
      | some fs =>
        some ({ kind := byteAt p 0, duration := halfAt p 1, factor := byteAt p 3, holdAtEnd := byteAt p 4 } :: fs)

/-- The definition fields of DEFINE ELEMENT's payload (R196). -/
def defineFieldsOf (p : List Byte) : DefineFields :=
  { kind := byteAt p 1, side := byteAt p 2, baseValue := byteAt p 3, controlBonus := byteAt p 4,
    minTier := byteAt p 5, holdLimit := halfAt p 6, cooldown := halfAt p 8, quota := byteAt p 10,
    timeout := halfAt p 11, policy := byteAt p 13, defaultRefusing := byteAt p 14, defaultSilent := byteAt p 15 }

/-- A one-byte number at an offset. -/
def numAt (p : List Byte) (i : Nat) : Nat := (byteAt p i).toNat

/-- Settings requests (R192, R196). -/
def settingsRequest (kind : Nat) (p : List Byte) : Option (State → Served) :=
  if kind = 0x01 then some (withLength 0 p serveIdentify)
  else if kind = 0x02 then some (withLength 5 p (serveSetSetting (numAt p 0) (wordAt p 1).toNat))
  else if kind = 0x03 then some (withLength 1 p (serveGetSetting (numAt p 0)))
  else if kind = 0x04 then some (withLength 0 p serveStoreSettings)
  else if kind = 0x05 then some (withLength 0 p serveRestart)
  else none

/-- Element requests (R192, R196). -/
def elementRequest (kind : Nat) (p : List Byte) : Option (State → Served) :=
  if kind = 0x10 then some (withLength 16 p (serveDefineElement (numAt p 0) (defineFieldsOf p)))
  else if kind = 0x11 then some (withLength 1 p (serveReadElement (numAt p 0)))
  else if kind = 0x12 then some (withLength 3 p (serveSetElementMode (numAt p 0) (byteAt p 1) (byteAt p 2)))
  else if kind = 0x13 then some (withLength 1 p (serveWithdraw (numAt p 0)))
  else if kind = 0x14 then some (withLength 1 p (serveRestoreElement (numAt p 0)))
  else if kind = 0x15 then some (withLength 0 p serveReadFaults)
  else if kind = 0x16 then some (withLength 1 p (serveClearFaults (numAt p 0)))
  else none

/-- Roster requests (R192, R196). -/
def rosterRequest (kind : Nat) (p : List Byte) : Option (State → Served) :=
  if kind = 0x20 then some (withLength 8 p (serveRegister (numAt p 0) (wordAt p 1) (numAt p 5) (halfAt p 6).toNat))
  else if kind = 0x21 then some (withLength 1 p (serveUnregister (numAt p 0)))
  else if kind = 0x22 then some (withLength 1 p (serveReadSlot (numAt p 0)))
  else if kind = 0x23 then some (withLength 0 p serveReadStrangers)
  else if kind = 0x24 then some (withLength 3 p (serveDisableRobot (numAt p 0) (halfAt p 1).toNat))
  else if kind = 0x25 then some (withLength 1 p (serveEnableRobot (numAt p 0)))
  else if kind = 0x26 then some (withLength 1 p (serveRestoreTiers (numAt p 0)))
  else none

/-- Match requests (R192, R196). -/
def matchRequest (kind : Nat) (p : List Byte) : Option (State → Served) :=
  if kind = 0x30 then
    some (withVariable 2 40 p (serveLoadPlan (numAt p 0) (numAt p 1) (periodRecords 8 (p.drop 2))))
  else if kind = 0x31 then some (withLength 0 p serveStage)
  else if kind = 0x32 then some (withLength 0 p serveStart)
  else if kind = 0x33 then some (withLength 0 p servePause)
  else if kind = 0x34 then some (withLength 0 p serveResume)
  else if kind = 0x35 then some (withLength 0 p serveAbortMatch)
  else if kind = 0x36 then some (withLength 0 p serveCloseMatch)
  else if kind = 0x37 then some (withLength 0 p serveReadClock)
  else none

/-- Stop, claim and field requests (R192, R196). -/
def fieldRequest (kind : Nat) (p : List Byte) : Option (State → Served) :=
  if kind = 0x40 then some (withLength 0 p serveFieldStop)
  else if kind = 0x41 then some (withLength 0 p serveReleaseStop)
  else if kind = 0x42 then some (withLength 0 p serveReadStop)
  else if kind = 0x48 then some (withLength 1 p (serveReadClaims (numAt p 0)))
  else if kind = 0x49 then some (withLength 3 p (serveRevokeClaim (numAt p 0) (byteAt p 1) (numAt p 2)))
  else if kind = 0x4A then some (withLength 2 p (serveConsoleActuate (numAt p 0) (numAt p 1)))
  else if kind = 0x4B then some (withVariable 1 8 p (servePassThrough (numAt p 0) (p.drop 1)))
  else if kind = 0x4C then some (withLength 0 p servePassResult)
  else none

/-- Score, mail and attention requests (R192, R196). -/
def scoreRequest (kind : Nat) (p : List Byte) : Option (State → Served) :=
  if kind = 0x50 then some (withLength 0 p serveReadScores)
  else if kind = 0x51 then some (withLength 1 p (serveReadTallies (numAt p 0)))
  else if kind = 0x52 then some (withLength 3 p (servePenalize (numAt p 0) (halfAt p 1).toNat))
  else if kind = 0x53 then some (withLength 3 p (serveAward (numAt p 0) (halfAt p 1).toNat))
  else if kind = 0x58 then some (withVariable 1 48 p (serveMailPut (numAt p 0) (p.drop 1)))
  else if kind = 0x59 then some (withLength 3 p (serveMailRead (numAt p 0) (numAt p 1) (numAt p 2)))
  else if kind = 0x5A then some (withLength 0 p serveMailStatus)
  else if kind = 0x60 then some (withLength 0 p serveReadEvents)
  else if kind = 0x61 then some (withLength 3 p (serveClearEvents (tripleAt p 0)))
  else if kind = 0x62 then some (withLength 3 p (serveSetEventEnables (tripleAt p 0)))
  else none

/-- The request of the catalogue that a good record's kind names, with its payload; none names no request (R176, R192). -/
def requestOf (kind : Nat) (p : List Byte) : Option (State → Served) :=
  (settingsRequest kind p).orElse fun _ => (elementRequest kind p).orElse fun _ => (rosterRequest kind p).orElse
    fun _ => (matchRequest kind p).orElse fun _ => (fieldRequest kind p).orElse fun _ => scoreRequest kind p

/-- A bad record is answered with kind 80h and FRAME_ERROR (R176). -/
def offerBadRecord (s : State) : State := offerRecord 0x80 (refuse .frameError) s

/-- A good record whose kind names no request is answered UNKNOWN_REQUEST (R176). -/
def offerUnknown (kind : Nat) (s : State) : State := offerRecord kind (refuse .unknownRequest) s

/-- A good record is offered to the holding place (R174, R176). -/
def offerGoodRecord (kind : Nat) (p : List Byte) (s : State) : State :=
  match requestOf kind p with
  | some serve => offerRecord kind serve s
  | none => offerUnknown kind s

/-- The record of a length byte and the kind, payload and CRC bytes taken after it is complete (R172, R174). -/
def completeRecord (length : Nat) (got : List Byte) (s : State) : State :=
  let covered := got.take (length + 1)
  if got.drop (length + 1) = twoBytes (crc16 (byte length :: covered)).toNat then
    offerGoodRecord (byteAt covered 0).toNat (covered.drop 1) s
  else offerBadRecord s

/-- The receiver moves, and the gap timer starts at the end of the byte (R172, R173). -/
def receive (r : Receiver) (s : State) : State :=
  { s with console := { s.console with receiver := r, gapTimer := some (millis 10) } }

/-- A received byte acts by the receiver's state (R172); during a break there are no bytes (R178). -/
def takeByte (b : Byte) (s : State) : State :=
  if s.console.breakInProgress then s
  else
    match s.console.receiver with
    | .seeking => if b = 0xA5 then receive .framing s else s
    | .framing =>
      if b = 0xA5 then receive .framing s
      else if b.toNat ≤ 120 then receive (.receiving b.toNat []) s
      else receiverDone s
    | .receiving length got =>
      if (got ++ [b]).length = length + 3 then completeRecord length (got ++ [b]) s
      else receive (.receiving length (got ++ [b])) s

/-- CONSOLE_BYTE. -/
def execConsoleByte (b : Byte) (s : State) : Result := .next (whenAwake (takeByte b) s)

/-- A framing error drops a lead or discards a partial record (R172). -/
def execFramingError (s : State) : Result := .next (whenAwake receiverDone s)

/-- More than 10 ms pass between bytes in FRAMING or RECEIVING: the partial record is discarded (R173). -/
def execGapTimerExpiry (s : State) : Result :=
  .next (whenAwake (fun s => if s.console.receiver = .seeking then s else receiverDone s) s)

/-- FRAME_ERROR: a completed record that fails its CRC (R174, R176). -/
def execFrameError (s : State) : Result := .next (whenAwake offerBadRecord s)

/-- UNKNOWN_REQUEST: a good record whose kind names no request (R176); a kind of the catalogue is no such record. -/
def execUnknownRequest (kind : Byte) (s : State) : Result :=
  .next (whenAwake (fun s => if catalogueKinds.contains kind.toNat then s else offerUnknown kind.toNat s) s)

/-- CONSOLE_OVERRUN: a completed record finds the holding place HELD (R175); an EMPTY place has no overrun. -/
def execConsoleOverrun (s : State) : Result :=
  .next (whenAwake (fun s => if s.console.held.isSome then overrun (receiverDone s) else s) s)

/-- A pending switch of the line's rate takes place, and a partly received record is discarded (R171). -/
def switchRate (s : State) : State :=
  if s.console.lineRate = s.settings.consoleRate then s
  else receiverDone { s with console := { s.console with lineRate := s.settings.consoleRate } }

/-- The last stop bit of a reply goes out: the holding place is EMPTY, the rate switches, and the start-up that a RESTART
has asked for follows, with the choices of the arbiters (R98, R160, R171, R175, R177, R189). -/
def endReply (s : State) : State :=
  if s.console.held.isNone then s
  else
    let s := switchRate { s with console := { s.console with held := none } }
    if s.console.restarting then settle (warmStartUp s) else s

/-- REPLY_END. -/
def execReplyEnd (s : State) : Result := .next (whenAwake endReply s)

end Sys2Proof.Machine
end

