-- ==== Sys2Proof/Machine/RobotCommands.lean ====
section
/-! DEFINITION. The robot link: arrival and taking of uplink frames, the robots' frames, and the downlink (chapters 2, 4,
5 and 9). -/

namespace Sys2Proof.Machine

-- Arrival (R154)

/-- Frames of the queue with a given slot field (R154, check 4). -/
def shareOf (n : Nat) (q : List UplinkFrame) : Nat := (q.filter fun f => f.slot = n).length

/-- A frame that has passed checks 1 to 3 meets the checks of share and room (R154). -/
def joinUplink (f : UplinkFrame) (s : State) : State :=
  if 2 ≤ shareOf f.slot s.link.uplink then s
  else if 8 ≤ s.link.uplink.length then s.setFlag .radioCongestion
  else { s with link := { s.link with uplink := s.link.uplink ++ [f] } }

/-- A whole frame arrives from the modem (R154). -/
def arrive (bytes : List Byte) (s : State) : State :=
  match uplinkFrameOf bytes with
  | none => s
  | some f => joinUplink f s

-- The owners' work on each kind of frame (R157)

/-- The tier that a HELLO resolves (R27). -/
def resolveTier (x : Slot) (g : Settings) : Option Nat := highestTier (effectiveTiers x g.allowedTiers)

/-- A slot whose HELLO finds no common tier restarts its restore timer (R28). -/
def noCommonTier (g : Settings) (x : Slot) : Slot := { x with restoreTimer := restoreStart g x.restoreTimer }

/-- A HELLO for a slot in EXPECTED or LOST (R28). -/
def helloNew (n : Nat) (kit : Word) (tiers : TierMask) (s : State) : State :=
  let x : Slot := { s.slot n with lastAd := some tiers }
  match resolveTier x s.settings with
  | none => answerHello n kit .noCommonTier (s.setSlot n (noCommonTier s.settings x))
  | some t => sendOffer n (s.setSlot n (toOffered s.settings t (s.tierCap t) (x.state = .lost) x))

/-- A HELLO for a slot in OFFERED: the offer is repeated (R29). -/
def helloAgain (n : Nat) (s : State) : State :=
  sendOffer n (s.modSlot n fun x => { x with confirmTimer := some (millis s.settings.confirmWindow) })

/-- A HELLO for a slot in ADMITTED or DISABLED: the robot has rebooted (R30). -/
def helloReboot (n : Nat) (kit : Word) (tiers : TierMask) (s : State) : State :=
  let s := dropClaims n s
  let x : Slot := { s.slot n with lastAd := some tiers }
  match resolveTier x s.settings with
  | none => answerHello n kit .noCommonTier (s.setSlot n (toExpected s.settings x))
  | some t => sendOffer n (s.setSlot n (toOffered s.settings t (s.tierCap t) false x))

/-- The phases in which a HELLO is answered NOT_NOW (R26). -/
def helloClosed (p : Phase) : Bool :=
  match p with
  | .idle | .grace | .finished => true
  | .staging | .running | .held => false

/-- HELLO at the Robot Roster (R25, R26). -/
def serveHello (kit : Word) (tiers : Byte) (s : State) : State :=
  match s.slotOfKit kit with
  | none =>
    if helloClosed s.clock.phase then answerHello 0 kit .notNow s
    else answerHello 0 kit .unknownKit
      ((s.setStrangers (noteStranger kit s.roster.strangers)).setFlag .stranger)
  | some n =>
    if helloClosed s.clock.phase then answerHello n kit .notNow s
    else
      match (s.slot n).state with
      | .expected | .lost => helloNew n kit (tierMaskOf tiers) s
      | .offered => helloAgain n s
      | .admitted | .disabled => helloReboot n kit (tierMaskOf tiers) s
      | .empty => s

/-- CONFIRM at the Robot Roster (R31). -/
def serveConfirm (f : UplinkFrame) (tier : Nat) (s : State) : State :=
  let x := s.slot f.slot
  if x.state = .offered then
    if x.tier = some tier then
      answerFrame f .confirmed 0 ((s.setSlot f.slot (toAdmitted s.settings x)).setFlag .admitted)
    else answerFrame f .tierMismatch 0 s
  else answerFrame f .notOffered 0 s

/-- PRESENCE at the Robot Roster: the restart of the silence timer is its whole effect (R35, R37). -/
def servePresence (s : State) : State := s

/-- BYE at the Robot Roster (R36). -/
def serveBye (f : UplinkFrame) (s : State) : State :=
  match (s.slot f.slot).state with
  | .admitted | .disabled | .offered => answerFrame f .left 0 (returnToExpected f.slot s)
  | .expected | .lost => answerFrame f .notAdmitted 0 s
  | .empty => s

/-- An element number that a robot frame may name: 1..32, and not of kind NONE (R70, R77, R101). -/
def State.elementKnown (s : State) (e : Nat) : Bool := elementInRange e && s.defined e

/-- A mode in which frames are neither processed nor answered (R52). -/
def muteMode (m : Mode) : Bool :=
  match m with
  | .silent | .withdrawn => true
  | .opened | .refusing => false

/-- The checks that CLAIM and ACTUATE share (R70; R101, checks 1 to 5): the answer that turns the frame away, if any; the
inner none is a frame neither processed nor answered. -/
def gate (n e : Nat) (s : State) : Option (Option AnswerCode) :=
  if !s.elementKnown e then some (some .noSuchElement)
  else if muteMode (s.mode e) then some none
  else if s.mode e = .refusing || (s.run e).withdrawPending then some (some .closed)
  else if (s.slot n).state = .disabled then some (some .disabled)
  else if (s.slot n).state != .admitted then some (some .notAdmitted)
  else if !s.drivePermit n then some (some .notNow)
  else none

/-- A frame is turned away with an answer, or without one (R52). -/
def turnAway (f : UplinkFrame) (answer : Option AnswerCode) (s : State) : State :=
  match answer with
  | some c => answerFrame f c 0 s
  | none => s

/-- CLAIM at the Claim Arbiter (R70 to R75). -/
def serveClaim (f : UplinkFrame) (e : Nat) (s : State) : State :=
  match gate f.slot e s with
  | some a => turnAway f a s
  | none =>
    let r := claimElement f.slot e s
    answerFrame f r.2.1 r.2.2 r.1

/-- The phases in which RELEASE is processed (R77, check 3). -/
def releasePhase (p : Phase) : Bool :=
  match p with
  | .running | .held => true
  | .idle | .staging | .grace | .finished => false

/-- RELEASE at the Claim Arbiter (R77). -/
def serveRelease (f : UplinkFrame) (e : Nat) (s : State) : State :=
  if !s.elementKnown e then answerFrame f .noSuchElement 0 s
  else if muteMode (s.mode e) then s
  else if !releasePhase s.clock.phase then answerFrame f .notNow 0 s
  else
    let r := releaseElement f.slot e s
    answerFrame f r.2.1 r.2.2 r.1

/-- The checks of a robot's ACTUATE after those it shares with CLAIM (R101, checks 6 to 12). -/
def actuateRefusal (n e : Nat) (s : State) : Option AnswerCode :=
  let d := s.elemDef e
  if !actuable d then some .notActuable
  else if (s.claim e).holder != some n then some .notHeld
  else if (s.run e).jammed then some .jammed
  else if (s.run e).presence = .absent then some .absentElement
  else if (s.act e).state != .none then some .busy
  else if d.kind = .dispenser && s.quotaLeft e (s.slot n).alliance = 0 then some .quotaSpent
  else if queuePlaces ≤ s.bus.queue.length then some .fieldBusy
  else none

/-- A robot's ACTUATE is accepted: clamped, charged for a DISPENSER, and queued (R102); the answer carries the argument. -/
def acceptActuate (n e argument : Nat) (s : State) : State × Nat :=
  let a := (s.slot n).alliance
  let c := clampArgument (s.elemDef e) argument
  if (s.elemDef e).kind = .dispenser then
    let served := min c (s.quotaLeft e a)
    (queueActuation e served (.slot n) (some { alliance := a, count := served }) (chargeQuota e a served s), served)
  else (queueActuation e c (.slot n) none s, c)

/-- A robot's ACTUATE at the Field Bus Controller (R101, R102). -/
def serveActuate (f : UplinkFrame) (e argument : Nat) (s : State) : State :=
  match gate f.slot e s with
  | some a => turnAway f a s
  | none =>
    match actuateRefusal f.slot e s with
    | some c => answerFrame f c 0 s
    | none =>
      let r := acceptActuate f.slot e argument s
      answerFrame f .accepted r.2 r.1

/-- The sender of a mail frame is ADMITTED or DISABLED (R166, R167). -/
def State.mayMail (s : State) (n : Nat) : Bool := (s.slot n).state = .admitted || (s.slot n).state = .disabled

/-- A robot's MAIL PUT (R166). -/
def serveRobotPut (f : UplinkFrame) (bytes : List Byte) (s : State) : State :=
  if !s.mayMail f.slot then answerFrame f .notAdmitted 0 s
  else if isPending (s.box f.slot) then answerFrame f .boxFull 0 s
  else
    answerFrame f .ok 0
      ((s.setBox f.slot (some { origin := .robot, bytes := bytes, pending := true })).setFlag .mailIn)

/-- A robot's MAIL READ (R167). -/
def serveRobotRead (f : UplinkFrame) (offset : Nat) (s : State) : State :=
  if !s.mayMail f.slot then answerFrame f .notAdmitted 0 s
  else
    match s.box f.slot with
    | none => answerFrame f .boxEmpty 0 s
    | some m =>
      if m.bytes.length ≤ offset then answerFrame f .badOffset 0 s
      else
        let taken := m.origin = .console && m.pending
        let m' : Message := if taken then { m with pending := false } else m
        queueReply { slot := f.slot, tag := f.tag, body := .mailData offset (m.bytes.drop offset) }
          ((s.setBox f.slot (some m')).setFlagIf taken .mailTaken)

/-- The dispatch of a frame to its owner (R157). -/
def dispatchFrame (f : UplinkFrame) (s : State) : State :=
  match f.body with
  | .hello kit tiers => serveHello kit tiers s
  | .confirm tier => serveConfirm f tier s
  | .presence => servePresence s
  | .bye => serveBye f s
  | .claim e => serveClaim f e s
  | .release e => serveRelease f e s
  | .actuate e argument => serveActuate f e argument s
  | .mailPut bytes => serveRobotPut f bytes s
  | .mailRead offset => serveRobotRead f offset s

/-- The frame's kit tag is that of the slot it names, which is registered (R155, steps 2 to 4). -/
def State.senderOk (s : State) (f : UplinkFrame) : Bool :=
  f.slot != 0 && (s.slot f.slot).state != .empty && kitTag (s.slot f.slot).kit == f.tag

/-- A taken frame is checked against its sender and served whole, or discarded without an answer (R155, R156). -/
def serveFrame (f : UplinkFrame) (s : State) : State :=
  match f.body with
  | .hello kit _ => if f.tag = kitTag kit then settle (dispatchFrame f s) else s
  | .confirm _ | .presence | .bye | .claim _ | .release _ | .actuate _ _ | .mailPut _ | .mailRead _ =>
    if s.senderOk f then settle (dispatchFrame f (restartSilence f.slot s)) else s

/-- The taking of a frame: the head frame leaves the uplink queue and is served (R155, R156). With an empty queue the frame
arrives and is taken in one; a frame that is not the head of a queue is not the one taken (log entry 9). -/
def takeFrame (f : UplinkFrame) (s : State) : State :=
  match s.link.uplink with
  | [] => if frameOk f then serveFrame f s else s
  | g :: rest => if g = f then serveFrame f { s with link := { s.link with uplink := rest } } else s

/-- UPLINK_ARRIVAL. -/
def execUplinkArrival (bytes : List Byte) (s : State) : Result := .next (whenAwake (arrive bytes) s)

/-- HELLO. -/
def execHello (slot : Byte) (tag : Half) (kit : Word) (tiers : Byte) (s : State) : Result :=
  .next (whenAwake (takeFrame { slot := slot.toNat, tag := tag, body := .hello kit tiers }) s)

/-- CONFIRM. -/
def execConfirm (slot : Byte) (tag : Half) (tier : Byte) (s : State) : Result :=
  .next (whenAwake (takeFrame { slot := slot.toNat, tag := tag, body := .confirm tier.toNat }) s)

/-- PRESENCE. -/
def execPresence (slot : Byte) (tag : Half) (s : State) : Result :=
  .next (whenAwake (takeFrame { slot := slot.toNat, tag := tag, body := .presence }) s)

/-- BYE. -/
def execBye (slot : Byte) (tag : Half) (s : State) : Result :=
  .next (whenAwake (takeFrame { slot := slot.toNat, tag := tag, body := .bye }) s)

/-- CLAIM. -/
def execClaim (slot : Byte) (tag : Half) (element : Byte) (s : State) : Result :=
  .next (whenAwake (takeFrame { slot := slot.toNat, tag := tag, body := .claim element.toNat }) s)

/-- RELEASE. -/
def execRelease (slot : Byte) (tag : Half) (element : Byte) (s : State) : Result :=
  .next (whenAwake (takeFrame { slot := slot.toNat, tag := tag, body := .release element.toNat }) s)

/-- Robot ACTUATE. -/
def execRobotActuate (slot : Byte) (tag : Half) (element argument : Byte) (s : State) : Result :=
  .next (whenAwake (takeFrame { slot := slot.toNat, tag := tag, body := .actuate element.toNat argument.toNat }) s)

/-- Robot MAIL PUT. -/
def execRobotMailPut (slot : Byte) (tag : Half) (bytes : List Byte) (s : State) : Result :=
  .next (whenAwake (takeFrame { slot := slot.toNat, tag := tag, body := .mailPut bytes }) s)

/-- Robot MAIL READ. -/
def execRobotMailRead (slot : Byte) (tag : Half) (offset : Byte) (s : State) : Result :=
  .next (whenAwake (takeFrame { slot := slot.toNat, tag := tag, body := .mailRead offset.toNat }) s)

-- The downlink (R153, R160, R161)

/-- The modem has taken the whole frame: the port is free, and the port arbiter chooses (R153, R160). -/
def freePort (s : State) : State :=
  if s.link.port.isSome then portArbiter { s with link := { s.link with port := none } } else s

/-- DOWNLINK_FRAME_SENT. -/
def execDownlinkFrameSent (s : State) : Result := .next (whenAwake freePort s)

/-- The beacon interval timer expires: it stops, and a beacon becomes due (R161). -/
def beaconInterval (s : State) : State :=
  if s.link.beaconTimer.isSome then
    portArbiter { s with link := { s.link with beaconTimer := none, beaconDue := true } }
  else s

/-- BEACON_INTERVAL_EXPIRY. -/
def execBeaconIntervalExpiry (s : State) : Result := .next (whenAwake beaconInterval s)

end Sys2Proof.Machine
end

