-- ==== Sys2Proof/Machine/Dispatch.lean ====
section
/-! DEFINITION. The dispatch of each command to its meaning. -/

namespace Sys2Proof.Machine

def exec (i : Instr) (s : State) : Host.Outcome State Fault Refusal :=
  match i with
  | .powerOn => Sys2Proof.Machine.execPowerOn s
  | .resetPin => Sys2Proof.Machine.execResetPin s
  | .stopInPressed => Sys2Proof.Machine.execStopInPressed s
  | .stopInLetGo => Sys2Proof.Machine.execStopInLetGo s
  | .breakDetected => Sys2Proof.Machine.execBreakDetected s
  | .breakEnd => Sys2Proof.Machine.execBreakEnd s
  | .consoleByte b => Sys2Proof.Machine.execConsoleByte b s
  | .framingError => Sys2Proof.Machine.execFramingError s
  | .gapTimerExpiry => Sys2Proof.Machine.execGapTimerExpiry s
  | .frameError => Sys2Proof.Machine.execFrameError s
  | .unknownRequest kind => Sys2Proof.Machine.execUnknownRequest kind s
  | .consoleOverrun => Sys2Proof.Machine.execConsoleOverrun s
  | .replyEnd => Sys2Proof.Machine.execReplyEnd s
  | .identify => Sys2Proof.Machine.execIdentify s
  | .setSetting id value => Sys2Proof.Machine.execSetSetting id value s
  | .getSetting id => Sys2Proof.Machine.execGetSetting id s
  | .storeSettings => Sys2Proof.Machine.execStoreSettings s
  | .restart => Sys2Proof.Machine.execRestart s
  | .defineElement element d => Sys2Proof.Machine.execDefineElement element d s
  | .readElement element => Sys2Proof.Machine.execReadElement element s
  | .setElementMode element refusing silent => Sys2Proof.Machine.execSetElementMode element refusing silent s
  | .withdraw element => Sys2Proof.Machine.execWithdraw element s
  | .restoreElement element => Sys2Proof.Machine.execRestoreElement element s
  | .readFaults => Sys2Proof.Machine.execReadFaults s
  | .clearFaults element => Sys2Proof.Machine.execClearFaults element s
  | .register slot kit alliance team => Sys2Proof.Machine.execRegister slot kit alliance team s
  | .unregister slot => Sys2Proof.Machine.execUnregister slot s
  | .readSlot slot => Sys2Proof.Machine.execReadSlot slot s
  | .readStrangers => Sys2Proof.Machine.execReadStrangers s
  | .disableRobot slot duration => Sys2Proof.Machine.execDisableRobot slot duration s
  | .enableRobot slot => Sys2Proof.Machine.execEnableRobot slot s
  | .restoreTiers slot => Sys2Proof.Machine.execRestoreTiers slot s
  | .loadPlan count grace periods => Sys2Proof.Machine.execLoadPlan count grace periods s
  | .stage => Sys2Proof.Machine.execStage s
  | .start => Sys2Proof.Machine.execStart s
  | .pause => Sys2Proof.Machine.execPause s
  | .resume => Sys2Proof.Machine.execResume s
  | .abortMatch => Sys2Proof.Machine.execAbortMatch s
  | .closeMatch => Sys2Proof.Machine.execCloseMatch s
  | .readClock => Sys2Proof.Machine.execReadClock s
  | .periodExpiry => Sys2Proof.Machine.execPeriodExpiry s
  | .graceExpiry => Sys2Proof.Machine.execGraceExpiry s
  | .fieldStop => Sys2Proof.Machine.execFieldStop s
  | .releaseStop => Sys2Proof.Machine.execReleaseStop s
  | .readStop => Sys2Proof.Machine.execReadStop s
  | .readClaims first => Sys2Proof.Machine.execReadClaims first s
  | .revokeClaim element bar expected => Sys2Proof.Machine.execRevokeClaim element bar expected s
  | .consoleActuate element argument => Sys2Proof.Machine.execConsoleActuate element argument s
  | .passThrough element bytes => Sys2Proof.Machine.execPassThrough element bytes s
  | .passResult => Sys2Proof.Machine.execPassResult s
  | .readScores => Sys2Proof.Machine.execReadScores s
  | .readTallies first => Sys2Proof.Machine.execReadTallies first s
  | .penalize alliance amount => Sys2Proof.Machine.execPenalize alliance amount s
  | .award alliance amount => Sys2Proof.Machine.execAward alliance amount s
  | .consoleMailPut slot bytes => Sys2Proof.Machine.execConsoleMailPut slot bytes s
  | .consoleMailRead slot offset length => Sys2Proof.Machine.execConsoleMailRead slot offset length s
  | .mailStatus => Sys2Proof.Machine.execMailStatus s
  | .readEvents => Sys2Proof.Machine.execReadEvents s
  | .clearEvents set => Sys2Proof.Machine.execClearEvents set s
  | .setEventEnables set => Sys2Proof.Machine.execSetEventEnables set s
  | .storeDone => Sys2Proof.Machine.execStoreDone s
  | .uplinkArrival bytes => Sys2Proof.Machine.execUplinkArrival bytes s
  | .hello slot tag kit tiers => Sys2Proof.Machine.execHello slot tag kit tiers s
  | .confirm slot tag tier => Sys2Proof.Machine.execConfirm slot tag tier s
  | .presence slot tag => Sys2Proof.Machine.execPresence slot tag s
  | .bye slot tag => Sys2Proof.Machine.execBye slot tag s
  | .claim slot tag element => Sys2Proof.Machine.execClaim slot tag element s
  | .release slot tag element => Sys2Proof.Machine.execRelease slot tag element s
  | .robotActuate slot tag element argument => Sys2Proof.Machine.execRobotActuate slot tag element argument s
  | .robotMailPut slot tag bytes => Sys2Proof.Machine.execRobotMailPut slot tag bytes s
  | .robotMailRead slot tag offset => Sys2Proof.Machine.execRobotMailRead slot tag offset s
  | .downlinkFrameSent => Sys2Proof.Machine.execDownlinkFrameSent s
  | .beaconIntervalExpiry => Sys2Proof.Machine.execBeaconIntervalExpiry s
  | .confirmTimerExpiry slot => Sys2Proof.Machine.execConfirmTimerExpiry slot s
  | .silenceTimerExpiry slot => Sys2Proof.Machine.execSilenceTimerExpiry slot s
  | .restoreTimerExpiry slot => Sys2Proof.Machine.execRestoreTimerExpiry slot s
  | .disableTimerExpiry slot => Sys2Proof.Machine.execDisableTimerExpiry slot s
  | .holdTimerExpiry element => Sys2Proof.Machine.execHoldTimerExpiry element s
  | .cooldownExpiry element => Sys2Proof.Machine.execCooldownExpiry element s
  | .towerSecond element => Sys2Proof.Machine.execTowerSecond element s
  | .busFrameSent => Sys2Proof.Machine.execBusFrameSent s
  | .busAnswer bytes => Sys2Proof.Machine.execBusAnswer bytes s
  | .answerWindowExpiry => Sys2Proof.Machine.execAnswerWindowExpiry s
  | .actuationTimerExpiry element => Sys2Proof.Machine.execActuationTimerExpiry element s
  | .pulseTimerExpiry element => Sys2Proof.Machine.execPulseTimerExpiry element s
  | .resetPinRelease => Sys2Proof.Machine.execResetPinRelease s

end Sys2Proof.Machine
end

