-- ==== Sys2Proof/Machine/Idle.lean ====
section
/-! DEFINITION. What the part does by itself when no command waits: the arbiters choose, the head of the uplink queue is
taken, a timer that runs out brings its expiry, and otherwise a microsecond passes (log entries 1 and 2). -/

namespace Sys2Proof.Machine

/-- A running timer loses a microsecond. -/
def tickTimer (t : Timer) : Timer := t.map (· - 1)

/-- A timer that is governed by a running time loses a microsecond (R5). -/
def tickIf (c : Bool) (t : Timer) : Timer := if c then tickTimer t else t

/-- A timed disable counts in match time (R39). -/
def tickDisable (c : Bool) : Option Disable → Option Disable
  | some (.timed left) => some (.timed (if c then left - 1 else left))
  | some .permanent => some .permanent
  | none => none

/-- The timers of a slot (R19, R20). -/
def tickSlot (matchTime : Bool) (x : Slot) : Slot :=
  { x with disable := tickDisable matchTime x.disable, confirmTimer := tickTimer x.confirmTimer,
           silenceTimer := tickTimer x.silenceTimer, restoreTimer := tickTimer x.restoreTimer }

/-- The timers of a claim state count in drive time (R68, R91). -/
def tickClaim (driveTime : Bool) (c : Claim) : Claim :=
  { c with holdTimer := tickIf driveTime c.holdTimer,
           barred := c.barred.map fun b => { b with left := if driveTime then b.left - 1 else b.left } }

/-- A tower with a holder accrues the drive time that passes (R137). -/
def State.accrues (s : State) (e : Nat) : Bool :=
  (s.elemDef e).kind = .tower && (s.claim e).holder.isSome && s.driveTime

/-- The accumulators of the towers that accrue (R137). -/
def tickTowers (s : State) : State :=
  elementNumbers.foldl (fun s e =>
    if s.accrues e then s.setElemScore e { s.elemScore e with accumulator := (s.elemScore e).accumulator + 1 }
    else s) s

/-- The Match Clock and its grace timer (R4, R11). -/
def tickClock (c : Clock) : Clock :=
  { c with remaining := if c.phase = .running then c.remaining - 1 else c.remaining,
           graceTimer := tickTimer c.graceTimer }

/-- The timers of the field bus count in real time (R94, R104). -/
def tickBus (b : FieldBus) : FieldBus :=
  { b with acts := mapTable (fun a => { a with timer := tickTimer a.timer }) b.acts,
           current := b.current.map fun t => { t with window := tickTimer t.window } }

/-- The write of the standing copy goes on in real time (R188). -/
def tickStore (x : Store) : Store := { x with writing := x.writing.map fun w => { w with left := w.left - 1 } }

/-- The count of real time since the last start-up, which stays at its last value (R62). -/
def tickUptime (n : Nat) : Nat := min (4294967295 * 100000) (n + 1)

/-- A microsecond passes for every timer whose time runs (00_scope.md, Time). -/
def passTime (s : State) : State :=
  let m := s.matchTime
  let d := s.driveTime
  let s := tickTowers s
  { s with
    clock := tickClock s.clock
    roster := { s.roster with slots := mapTable (tickSlot m) s.roster.slots }
    claims := mapTable (tickClaim d) s.claims
    bus := tickBus s.bus
    lights := mapTable (fun l => { l with pulse := tickTimer l.pulse }) s.lights
    link := { s.link with beaconTimer := tickTimer s.link.beaconTimer }
    console := { s.console with gapTimer := tickTimer s.console.gapTimer }
    store := tickStore s.store
    uptime := tickUptime s.uptime }

/-- The time left of a timer has reached 0 (R68). -/
def runsOut (t : Timer) : Bool := t.any (· = 0)

/-- The time left of a timed disable has reached 0 (R39). -/
def disableRunsOut : Option Disable → Bool
  | some (.timed left) => left = 0
  | some .permanent => false
  | none => false

/-- A command that is due under a condition. -/
def dueIf (c : Bool) (i : Instr) : List Instr := if c then [i] else []

/-- A tower's accumulator has reached 1000 ms, whether drive time still runs or not (R137). -/
def State.secondDue (s : State) (e : Nat) : Bool :=
  (s.elemDef e).kind = .tower && (s.claim e).holder.isSome && seconds 1 ≤ (s.elemScore e).accumulator

/-- The expiries of an element's timers; hold and cooldown expire while drive time runs (R81, R91). -/
def dueAtElement (s : State) (e : Nat) : List Instr :=
  dueIf (s.secondDue e) (.towerSecond e)
    ++ dueIf (runsOut (s.claim e).holdTimer && s.driveTime && (s.claim e).holder.isSome) (.holdTimerExpiry e)
    ++ dueIf ((s.claim e).barred.any (·.left = 0) && s.driveTime) (.cooldownExpiry e)
    ++ dueIf (runsOut (s.act e).timer && (s.act e).state = .inFlight) (.actuationTimerExpiry e)
    ++ dueIf (runsOut (s.light e).pulse) (.pulseTimerExpiry e)

/-- The expiries of a slot's timers. -/
def dueAtSlot (s : State) (n : Nat) : List Instr :=
  dueIf (runsOut (s.slot n).confirmTimer && (s.slot n).state = .offered) (.confirmTimerExpiry n)
    ++ dueIf (runsOut (s.slot n).silenceTimer && ((s.slot n).state = .admitted || (s.slot n).state = .disabled))
        (.silenceTimerExpiry n)
    ++ dueIf (runsOut (s.slot n).restoreTimer) (.restoreTimerExpiry n)
    ++ dueIf (disableRunsOut (s.slot n).disable && s.matchTime) (.disableTimerExpiry n)

/-- The answer window of the transaction on the bus has run out. -/
def windowRunsOut (b : FieldBus) : Bool := b.current.any fun t => runsOut t.window

/-- The expiries of the timers that have reached 0, in the order in which the model takes them (log entry 2). -/
def dueExpiries (s : State) : List Instr :=
  elementNumbers.flatMap (dueAtElement s) ++ slotNumbers.flatMap (dueAtSlot s)
    ++ dueIf (s.clock.phase = .running && s.clock.remaining = 0) .periodExpiry
    ++ dueIf (s.clock.phase = .grace && runsOut s.clock.graceTimer) .graceExpiry
    ++ dueIf (windowRunsOut s.bus) .answerWindowExpiry
    ++ dueIf (runsOut s.link.beaconTimer) .beaconIntervalExpiry
    ++ dueIf (runsOut s.console.gapTimer && s.console.receiver != .seeking) .gapTimerExpiry
    ++ dueIf (s.store.writing.any (·.left = 0)) .storeDone

/-- The command that takes a frame of the uplink queue (R155). -/
def takingOf (f : UplinkFrame) : Instr :=
  match f.body with
  | .hello kit tiers => .hello (byte f.slot) f.tag kit tiers
  | .confirm tier => .confirm (byte f.slot) f.tag (byte tier)
  | .presence => .presence (byte f.slot) f.tag
  | .bye => .bye (byte f.slot) f.tag
  | .claim e => .claim (byte f.slot) f.tag (byte e)
  | .release e => .release (byte f.slot) f.tag (byte e)
  | .actuate e argument => .robotActuate (byte f.slot) f.tag (byte e) (byte argument)
  | .mailPut bytes => .robotMailPut (byte f.slot) f.tag bytes
  | .mailRead offset => .robotMailRead (byte f.slot) f.tag (byte offset)

/-- A freed place waits (R121), or the bus is free and the transaction arbiter has work (R98). -/
def State.busHasWork (s : State) : Bool :=
  s.bus.freed != 0 || s.bus.current.isNone && (s.bus.haltPending || !s.bus.queue.isEmpty || s.someDefined)

/-- The port is free and the port arbiter has work (R160). -/
def State.portHasWork (s : State) : Bool := s.link.port.isNone && (s.link.beaconDue || !s.link.replies.isEmpty)

/-- One step on an empty queue of commands: the arbiters, then the uplink queue, then a due expiry, then time. -/
def idle (s : State) : State :=
  if s.resetAsserted then s
  else if s.busHasWork || s.portHasWork then settle s
  else
    match s.link.uplink with
    | f :: _ => { s with pending := [takingOf f] }
    | [] =>
      match dueExpiries s with
      | c :: _ => { s with pending := [c] }
      | [] => passTime s

end Sys2Proof.Machine
end

