-- ==== Sys2Proof/Safety.lean ====
section
/-! DEFINITION. What claims about the AF-24 are stated in: when a command is taken, what a request is, and the laws that
every event keeps. -/

namespace Sys2Proof.Machine

-- When a command is taken

/-- RESET is not held, so frames, records and timer events are taken (R189). -/
def State.awake (s : State) : Prop := s.resetAsserted = false

/-- A completed record is served: RESET is not held and the holding place is EMPTY (R175, R176). -/
def State.ready (s : State) : Prop := s.resetAsserted = false ∧ s.console.held = none

/-- A request of a kind has been answered: the holding place is HELD with a reply of that kind plus 80h (R175, R176). -/
def replied (kind : Nat) (outcome : OutcomeCode) (fields : List Byte) (t : State) : State :=
  holdReply { kind := kind + 0x80, outcome := outcome, fields := fields } t

/-- The console sends bytes one after another, each a command of its own. -/
def feed : List Byte → State → Result
  | [], s => .next s
  | b :: rest, s =>
    match exec (.consoleByte b) s with
    | .next t => feed rest t
    | .fault r => .fault r
    | .refused r => .refused r

/-- A record of the console: the lead byte, the covered length, kind and payload, and their CRC (R191). -/
def recordBytes (kind : Byte) (p : List Byte) : List Byte := closeFrame 0xA5 ([byte p.length, kind] ++ p)

/-- The payload of an uplink frame (R192). -/
def uplinkPayload : UplinkBody → List Byte
  | .hello kit tiers => fourBytes kit.toNat ++ [tiers]
  | .confirm tier => [byte tier]
  | .presence => []
  | .bye => []
  | .claim e => [byte e]
  | .release e => [byte e]
  | .actuate e argument => [byte e, byte argument]
  | .mailPut bytes => bytes
  | .mailRead offset => [byte offset]

/-- An uplink frame as a robot sends it (R191, R192). -/
def uplinkBytes (f : UplinkFrame) : List Byte :=
  closeFrame 0x5A ([byte (uplinkPayload f.body).length, byte (uplinkKind f.body), byte f.slot] ++ twoBytes f.tag.toNat
    ++ uplinkPayload f.body)

/-- A frame with which an element answers on the field bus (R191). -/
def answerBytes (e kind : Nat) (p : List Byte) : List Byte := closeFrame 0xC3 ([byte e, byte kind, byte p.length] ++ p)

/-- The fields of an uplink frame that are one byte wide hold one byte. -/
def bodyFits : UplinkBody → Bool
  | .confirm tier => tier < 256
  | .claim e => e < 256
  | .release e => e < 256
  | .actuate e argument => e < 256 && argument < 256
  | .mailRead offset => offset < 256
  | .hello _ _ | .presence | .bye | .mailPut _ => true

/-- The request kind of a console request (R192); none for the other commands. -/
def requestKind : Instr → Option Nat
  | .identify => some 0x01
  | .setSetting _ _ => some 0x02
  | .getSetting _ => some 0x03
  | .storeSettings => some 0x04
  | .restart => some 0x05
  | .defineElement _ _ => some 0x10
  | .readElement _ => some 0x11
  | .setElementMode _ _ _ => some 0x12
  | .withdraw _ => some 0x13
  | .restoreElement _ => some 0x14
  | .readFaults => some 0x15
  | .clearFaults _ => some 0x16
  | .register _ _ _ _ => some 0x20
  | .unregister _ => some 0x21
  | .readSlot _ => some 0x22
  | .readStrangers => some 0x23
  | .disableRobot _ _ => some 0x24
  | .enableRobot _ => some 0x25
  | .restoreTiers _ => some 0x26
  | .loadPlan _ _ _ => some 0x30
  | .stage => some 0x31
  | .start => some 0x32
  | .pause => some 0x33
  | .resume => some 0x34
  | .abortMatch => some 0x35
  | .closeMatch => some 0x36
  | .readClock => some 0x37
  | .fieldStop => some 0x40
  | .releaseStop => some 0x41
  | .readStop => some 0x42
  | .readClaims _ => some 0x48
  | .revokeClaim _ _ _ => some 0x49
  | .consoleActuate _ _ => some 0x4A
  | .passThrough _ _ => some 0x4B
  | .passResult => some 0x4C
  | .readScores => some 0x50
  | .readTallies _ => some 0x51
  | .penalize _ _ => some 0x52
  | .award _ _ => some 0x53
  | .consoleMailPut _ _ => some 0x58
  | .consoleMailRead _ _ _ => some 0x59
  | .mailStatus => some 0x5A
  | .readEvents => some 0x60
  | .clearEvents _ => some 0x61
  | .setEventEnables _ => some 0x62
  | .powerOn | .resetPin | .stopInPressed | .stopInLetGo | .breakDetected | .breakEnd | .consoleByte _
  | .framingError | .gapTimerExpiry | .frameError | .unknownRequest _ | .consoleOverrun | .replyEnd | .periodExpiry
  | .graceExpiry | .storeDone | .uplinkArrival _ | .hello _ _ _ _ | .confirm _ _ _ | .presence _ _ | .bye _ _
  | .claim _ _ _ | .release _ _ _ | .robotActuate _ _ _ _ | .robotMailPut _ _ _ | .robotMailRead _ _ _
  | .downlinkFrameSent | .beaconIntervalExpiry | .confirmTimerExpiry _ | .silenceTimerExpiry _
  | .restoreTimerExpiry _ | .disableTimerExpiry _ | .holdTimerExpiry _ | .cooldownExpiry _ | .towerSecond _
  | .busFrameSent | .busAnswer _ | .answerWindowExpiry | .actuationTimerExpiry _ | .pulseTimerExpiry _
  | .resetPinRelease => none

/-- The outcomes with which a request is carried out; every other outcome is a refusal (R180). -/
def carriedOut : OutcomeCode → Bool
  | .ok => true
  | .okAdjusted => true
  | .accepted => true
  | .badState | .badArg | .notFound | .busy | .full | .stopHeld | .noPlan | .notStopped | .jammed | .boxFull
  | .boxEmpty | .badOffset | .pending | .frameError | .unknownRequest => false

/-- The commands that the part takes even while RESET is held: the pins and power (R152, R189). -/
def pinCommand : Instr → Bool
  | .powerOn | .resetPin | .resetPinRelease | .stopInPressed | .stopInLetGo => true
  | _ => false

/-- A frame can be taken: it is the head of the uplink queue, or the queue is empty (R155; log entry 9). The state is the
one in which the frame has left the queue. -/
def takenFrom (f : UplinkFrame) (s s' : State) : Prop :=
  (s.link.uplink = [] ∧ frameOk f = true ∧ s' = s)
    ∨ (∃ rest, s.link.uplink = f :: rest ∧ s' = { s with link := { s.link with uplink := rest } })

/-- A slot whose frames are accepted: the slot is registered and the frame carries its kit tag (R155, steps 2 to 4). -/
def acceptedFrom (n : Nat) (tag : Half) (s : State) : Prop :=
  n ≠ 0 ∧ (s.slot n).state ≠ .empty ∧ kitTag (s.slot n).kit = tag

/-- The element is open to a slot's CLAIM and ACTUATE: it is defined, OPEN without a withdrawal pending, the slot is
ADMITTED, and drive time runs (R70; R101, checks 1 to 5). -/
def openTo (n e : Nat) (s : State) : Prop :=
  1 ≤ e ∧ e ≤ 32 ∧ s.defined e = true ∧ s.mode e = .opened ∧ (s.run e).withdrawPending = false
    ∧ (s.slot n).state = .admitted ∧ s.driveTime = true

-- The laws

/-- The Stop Unit's law (R144, R152) with the Match Clock's (R15): STOPPED exactly while a cause is latched, STOPPED while
RESET is held, and never RUNNING while STOPPED. -/
def stopLaw (s : State) : Prop :=
  s.stop.stopped = (s.stop.pin || s.stop.brk || s.stop.console || s.stop.reset)
    ∧ (s.resetAsserted = true → s.stop.stopped = true)
    ∧ (s.stop.stopped = true → s.clock.phase ≠ .running)

/-- Every field of an alliance record lies within 0..65,535 (R124). -/
def scoreLaw (s : State) : Prop :=
  ∀ a, (s.alliance a).score ≤ 65535 ∧ (s.alliance a).penalty ≤ 65535 ∧ (s.alliance a).clampLoss ≤ 65535

/-- The queues and lists stay within their places (R25, R97, R98, R154, R158). -/
def queueLaw (s : State) : Prop :=
  s.bus.queue.length ≤ 16 ∧ s.bus.commandCount ≤ 4 ∧ s.link.replies.length ≤ 8 ∧ s.link.uplink.length ≤ 8
    ∧ (∀ n, shareOf n s.link.uplink ≤ 2) ∧ s.roster.strangers.length ≤ 4

/-- A withdrawal is never both in force and pending (R51), and is pending only behind an actuation (R48, R55). -/
def withdrawalLaw (s : State) : Prop :=
  ∀ e, ¬((s.run e).withdrawn = true ∧ (s.run e).withdrawPending = true)
    ∧ ((s.run e).withdrawPending = true → (s.act e).state ≠ .none)

/-- An element has a holder or waiters only while the phase is RUNNING or HELD and it is not withdrawn (R89), and waiters
only behind a holder (R66). -/
def playLaw (s : State) : Prop :=
  ∀ e, (s.clock.phase ≠ .running → s.clock.phase ≠ .held → (s.claim e).holder = none)
    ∧ ((s.run e).withdrawn = true → (s.claim e).holder = none)
    ∧ ((s.claim e).holder = none → (s.claim e).waiters = [])

/-- Every holder and every waiter is an ADMITTED slot; no slot stands twice in a wait list or waits for what it holds; a
wait list has at most 4 slots (R21, R66). -/
def claimLaw (s : State) : Prop :=
  ∀ e, (∀ n, (s.claim e).holder = some n → (s.slot n).state = .admitted ∧ n ∉ (s.claim e).waiters)
    ∧ (∀ n, n ∈ (s.claim e).waiters → (s.slot n).state = .admitted)
    ∧ (s.claim e).waiters.Nodup ∧ (s.claim e).waiters.length ≤ 4

/-- The elements that a slot holds. -/
def State.holds (s : State) (n : Nat) : Nat := (elementNumbers.filter fun e => (s.claim e).holder == some n).length

/-- The wait lists that a slot stands in. -/
def State.waits (s : State) (n : Nat) : Nat := (elementNumbers.filter fun e => (s.claim e).waiters.contains n).length

/-- The counts of a slot record equal the numbers they stand for; no slot holds more than 2 elements, waits for more than
2, or waits while it holds 2 (R67). -/
def countLaw (s : State) : Prop :=
  ∀ n, (s.slot n).holdCount = s.holds n ∧ (s.slot n).waitCount = s.waits n
    ∧ s.holds n ≤ 2 ∧ s.waits n ≤ 2 ∧ (s.holds n = 2 → s.waits n = 0)

/-- Claims and counts together, as the manual's law has them (R67). -/
def lawfulClaims (s : State) : Prop := claimLaw s ∧ countLaw s

/-- An element is light-owed only while it is defined, its computed display differs from its issued display, and the queue
holds no LIGHT entry for it (R116); the queue holds at most one LIGHT entry for an element (R97). -/
def lightLaw (s : State) : Prop :=
  ∀ e, ((s.light e).owed = true →
      s.defined e = true ∧ (s.light e).issued ≠ some (s.light e).computed ∧ s.lightQueued e = false)
    ∧ (s.bus.queue.filter (·.isLightFor e)).length ≤ 1

/-- In IDLE only EMPTY and EXPECTED slots exist (R43); a registered slot's permitted tiers are never empty (R19); a slot is
DISABLED only with a disable and ADMITTED only without one; a confirm timer runs only for OFFERED and a silence timer only
for ADMITTED and DISABLED (R20, R31, R35, R38). -/
def rosterLaw (s : State) : Prop :=
  ∀ n, (s.clock.phase = .idle → (s.slot n).state = .empty ∨ (s.slot n).state = .expected)
    ∧ ((s.slot n).state ≠ .empty → (s.slot n).permitted ≠ 0)
    ∧ ((s.slot n).state = .disabled → (s.slot n).disable.isSome = true)
    ∧ ((s.slot n).state = .admitted → (s.slot n).disable = none)
    ∧ ((s.slot n).confirmTimer.isSome = true ↔ (s.slot n).state = .offered)
    ∧ ((s.slot n).silenceTimer.isSome = true ↔ (s.slot n).state = .admitted ∨ (s.slot n).state = .disabled)

/-- A plan within its ranges (R1, R2): 1 to 8 periods of which one is of a driving kind, durations of 1 to 6000, factors of at
most 16, a grace of at most 100. -/
def planInRange (p : Plan) : Prop :=
  1 ≤ p.periods.length ∧ p.periods.length ≤ 8 ∧ (p.periods.any fun x => isDriving (some x.kind)) = true
    ∧ (∀ x ∈ p.periods, 1 ≤ x.duration ∧ x.duration ≤ 6000 ∧ x.factor ≤ 16) ∧ p.grace ≤ 100

/-- The Match Clock's fields agree with its phase (R3): a held mark exactly in HELD, a grace timer exactly in GRACE, time
remaining only in RUNNING and behind a pause, no current period in IDLE and STAGING, a period of the plan in RUNNING,
HELD and GRACE, and a loaded plan, in range, outside IDLE. -/
def clockLaw (s : State) : Prop :=
  (s.clock.mark ≠ .none ↔ s.clock.phase = .held)
    ∧ (s.clock.graceTimer.isSome = true ↔ s.clock.phase = .grace)
    ∧ (s.clock.phase ≠ .running → s.clock.mark ≠ .paused → s.clock.remaining = 0)
    ∧ (s.clock.phase = .idle ∨ s.clock.phase = .staging → s.clock.index = 0)
    ∧ (s.clock.phase = .running ∨ s.clock.phase = .held ∨ s.clock.phase = .grace → 1 ≤ s.clock.index)
    ∧ s.clock.index ≤ s.periodCount
    ∧ (s.clock.phase ≠ .idle → s.clock.plan.isSome = true)
    ∧ ∀ p, s.clock.plan = some p → planInRange p

/-- An ACTUATE for the element. -/
def Entry.isActuateFor (x : Entry) (e : Nat) : Bool := x.isActuate && x.element == e

/-- The transaction on the bus is an ACTUATE for the element. -/
def actuateOnBus (b : FieldBus) (e : Nat) : Bool :=
  match b.current.map Transaction.request with
  | some (.actuate e' _) => e' == e
  | _ => false

/-- The transaction on the bus is a RAW. -/
def rawOnBus (b : FieldBus) : Bool :=
  match b.current.map Transaction.request with
  | some (.raw _ _) => true
  | _ => false

/-- An actuation is QUEUED exactly while one ACTUATE for its element stands in the command queue or on the bus, and none
stands there otherwise; its timer runs exactly while it is IN_FLIGHT (R97, R100, R104). The pass-through slot is PENDING
exactly while one RAW stands in the queue or on the bus (R97, R112). -/
def busLaw (s : State) : Prop :=
  (∀ e, (s.bus.queue.filter (·.isActuateFor e)).length + (if actuateOnBus s.bus e then 1 else 0)
        = (if (s.act e).state = .queued then 1 else 0)
      ∧ ((s.act e).timer.isSome = true ↔ (s.act e).state = .inFlight))
    ∧ (s.bus.queue.filter Entry.isRaw).length + (if rawOnBus s.bus then 1 else 0)
        = (if s.bus.pass = .pending then 1 else 0)

/-- Every setting lies in its range (R186). -/
def settingsInRange (g : Settings) : Prop :=
  g.consoleRate ∈ [57600, 115200, 230400, 460800] ∧ 2 ≤ g.allianceCount ∧ g.allianceCount ≤ 4 ∧ g.allowedTiers ≠ 0
    ∧ (∀ t, 1 ≤ t → t ≤ 4 → 10 ≤ at1 g.tierCaps t 0 ∧ at1 g.tierCaps t 0 ≤ 100)
    ∧ 20 ≤ g.beaconInterval ∧ g.beaconInterval ≤ 500 ∧ 200 ≤ g.silenceLimit ∧ g.silenceLimit ≤ 5000
    ∧ 100 ≤ g.confirmWindow ∧ g.confirmWindow ≤ 2000 ∧ 1 ≤ g.downshiftThreshold ∧ g.downshiftThreshold ≤ 15
    ∧ 2 ≤ g.restoreInterval ∧ g.restoreInterval ≤ 255 ∧ 1 ≤ g.answerWindow ∧ g.answerWindow ≤ 20
    ∧ 100 ≤ g.pulseTime ∧ g.pulseTime ≤ 1000

/-- The live settings lie in their ranges, and so do those of the standing copy and of a copy being written (R186, R188). -/
def settingsLaw (s : State) : Prop :=
  settingsInRange s.settings ∧ settingsInRange s.store.standing.settings
    ∧ ∀ w, s.store.writing = some w → settingsInRange w.copy.settings

/-- The sides of the defined elements lie within an ALLIANCE COUNT (R47). -/
def sidesWithin (allianceCount : Nat) (defs : Vector ElementDef 32) : Prop :=
  ∀ e a, (at1 defs e undefinedElement).kind ≠ .none → (at1 defs e undefinedElement).side = some a → a ≤ allianceCount

/-- Every alliance of a registered slot and every side of a defined element lies within ALLIANCE COUNT, in the live state and
in the stored copies (R22, R47, R187). -/
def allianceLaw (s : State) : Prop :=
  (∀ n, (s.slot n).state ≠ .empty → (s.slot n).alliance ≤ s.settings.allianceCount)
    ∧ sidesWithin s.settings.allianceCount s.table.defs
    ∧ sidesWithin s.store.standing.settings.allianceCount s.store.standing.defs
    ∧ ∀ w, s.store.writing = some w → sidesWithin w.copy.settings.allianceCount w.copy.defs

-- What an event does to a whole block

/-- Every claim state is emptied, every count is 0 and every tower accumulator is cleared; the slot records are otherwise
as they were, and of the rest only light records and the command queue may change (R89, R92). -/
def claimsCleared (s t : State) : Prop :=
  (∀ e, t.claim e = emptyClaim) ∧ (∀ n, t.slot n = { s.slot n with holdCount := 0, waitCount := 0 })
    ∧ (∀ e, t.elemScore e = { s.elemScore e with accumulator := 0 })
    ∧ { t with claims := s.claims, roster := { t.roster with slots := s.roster.slots },
               score := { t.score with elements := s.score.elements }, lights := s.lights,
               bus := { t.bus with queue := s.bus.queue } } = s

/-- A slot holds nothing and waits for nothing, and its counts say so (R87). -/
def holdsNothing (n : Nat) (t : State) : Prop :=
  (∀ e, (t.claim e).holder ≠ some n ∧ n ∉ (t.claim e).waiters)
    ∧ (t.slot n).holdCount = 0 ∧ (t.slot n).waitCount = 0

/-- The head of an element's wait list has become its holder (R79, steps 2 to 4): one wait less and one hold more, and with 2
holds it stands in no wait list and waits for nothing; no other list of another element has changed. -/
def headHolds (e n : Nat) (s v : State) : Prop :=
  v.slot n = { s.slot n with
      holdCount := (s.slot n).holdCount + 1,
      waitCount := if (s.slot n).holdCount = 1 then 0 else (s.slot n).waitCount - 1 }
    ∧ ((s.slot n).holdCount = 1 → ∀ e', n ∉ (v.claim e').waiters)
    ∧ ∀ e', e' ≠ e → (v.claim e').waiters
        = if (s.slot n).holdCount = 1 then (s.claim e').waiters.erase n else (s.claim e').waiters

/-- An element has been handed over (R79): the head of its wait list holds it with a fresh hold timer, the others have moved
up, its accumulator is cleared, the new holder's counts and other lists are as R79 has them, and no other element's holder,
timer or bar and no further slot but the former holder's has changed. The element had lost its holder, or was losing it, in
the state that is given first. -/
def handedOver (e : Nat) (s v : State) : Prop :=
  (v.claim e).holder = (s.claim e).waiters.head? ∧ (v.claim e).waiters = (s.claim e).waiters.tail
    ∧ (v.claim e).holdTimer = (if (s.claim e).waiters = [] ∨ (s.elemDef e).holdLimit = 0 then none
        else some ((s.elemDef e).holdLimit * 100000))
    ∧ (v.elemScore e).accumulator = 0 ∧ (v.light e).computed = v.display e
    ∧ (∀ e', e' ≠ e → (v.claim e').holder = (s.claim e').holder ∧ (v.claim e').holdTimer = (s.claim e').holdTimer
        ∧ (v.claim e').barred = (s.claim e').barred)
    ∧ (∀ n, (s.claim e).waiters.head? = some n → headHolds e n s v)
    ∧ ((s.claim e).waiters = [] → ∀ e', e' ≠ e → (v.claim e').waiters = (s.claim e').waiters)
    ∧ (∀ k, (s.claim e).holder ≠ some k → (s.claim e).waiters.head? ≠ some k → v.slot k = s.slot k)
    ∧ (∀ n, (v.slot n).state = (s.slot n).state) ∧ v.score.alliances = s.score.alliances ∧ v.clock = s.clock
    ∧ v.table = s.table ∧ v.bus.acts = s.bus.acts

/-- A slot has become the holder of an element or joined a wait list, and beside that element's claim, its light, the slot's
counts and its other waits nothing has changed but lights and the queue that carries them. -/
def othersUntouched (n e : Nat) (s v : State) : Prop :=
  (∀ e', e' ≠ e → (v.claim e').holder = (s.claim e').holder ∧ (v.claim e').holdTimer = (s.claim e').holdTimer
      ∧ (v.claim e').barred = (s.claim e').barred ∧ v.elemScore e' = s.elemScore e')
    ∧ (∀ k, k ≠ n → v.slot k = s.slot k) ∧ (v.slot n).state = (s.slot n).state
    ∧ v.score.alliances = s.score.alliances ∧ v.clock = s.clock ∧ v.table = s.table ∧ v.attention = s.attention
    ∧ v.bus.acts = s.bus.acts ∧ v.stop = s.stop ∧ v.settings = s.settings ∧ v.store = s.store

/-- A fault kind has a strictly higher priority than another: JAM, ABSENT, CHECK, REFUSED from the highest (R61). -/
def graver : FaultKind → FaultKind → Bool
  | .jam, .absent | .jam, .check | .jam, .refused | .absent, .check | .absent, .refused | .check, .refused => true
  | _, _ => false

/-- The fault capture and its repeat mark behind one more fault (R62): an empty capture takes it, a graver fault replaces the
one held, any other leaves it, and behind a first fault the mark is set. -/
def captureBehind (c : Option CapturedFault × Bool) (new : CapturedFault) : Option CapturedFault × Bool :=
  match c.1 with
  | none => (some new, c.2)
  | some held => (some (if graver new.kind held.kind then new else held), true)

/-- These faults of an element, in this order and no others, have reached the fault capture, at the time in whole 100 ms units
since the start-up (R61, R62; the rounding is log entry 14). -/
def faultsCaptured (e : Nat) (kinds : List FaultKind) (s t : State) : Prop :=
  (t.table.capture, t.table.repeated)
    = (kinds.map fun k => { kind := k, element := e, time := min 4294967295 (s.uptime / 100000) }).foldl captureBehind
        (s.table.capture, s.table.repeated)

/-- An actuation of the element has ended (R57): a pending withdrawal has taken effect, with the claim state emptied, the
tower accumulator cleared, the light dark and WITHDRAWN set (R56), and without one all of this is as it was. -/
def pendingWithdrawalTaken (e : Nat) (s t : State) : Prop :=
  if (s.run e).withdrawPending = true then
    (t.run e).withdrawn = true ∧ (t.run e).withdrawPending = false
      ∧ t.claim e = { holder := none, holdTimer := none, waiters := [], barred := none }
      ∧ (t.elemScore e).accumulator = 0 ∧ (s.defined e = true → (t.light e).computed = .off)
      ∧ t.flagSet .withdrawn = true
  else (t.run e).withdrawn = (s.run e).withdrawn ∧ (t.run e).withdrawPending = false ∧ t.claim e = s.claim e
    ∧ (t.elemScore e).accumulator = (s.elemScore e).accumulator

/-- A start-up has taken place with the given settings, definitions and flags (R189 and the reset values of each chapter):
every block holds its reset values, HALT is pending and a beacon is due, and each defined element's light has been
recomputed in ascending number, the first 16 queued and the others owed (R119 to R121, R123). -/
def startedUp (g : Settings) (defs : Vector ElementDef 32) (flags : FlagSet) (pin : Bool) (s t : State) : Prop :=
  t.clock = resetClock ∧ t.roster = resetRoster ∧ t.table = resetTable defs ∧ t.claims = resetClaims
    ∧ t.score = freshScores defs ∧ t.link = resetLink ∧ t.console = resetConsole g.consoleRate
    ∧ t.attention = { flags := flags, enables := 0 } ∧ t.settings = g ∧ t.uptime = 0
    ∧ t.stop = { stopped := true, pin := pin, brk := false, console := false, reset := true, stopIn := s.stop.stopIn }
    ∧ { t.bus with queue := [] } = resetBus
    ∧ t.bus.queue = ((elementNumbers.filter t.defined).take 16).map (fun e => lightEntry e (t.display e))
    ∧ (∀ e ∈ elementNumbers, (t.light e).owed = ((elementNumbers.filter t.defined).drop 16).contains e
        ∧ (t.light e).computed = t.display e)
    ∧ t.store.standing = s.store.standing ∧ t.store.writing = none
    ∧ t.store.standingGood = (s.store.standingGood && s.store.writing.isNone)
    ∧ t.freeCount = s.freeCount ∧ t.meetings = s.meetings ∧ t.pending = s.pending

/-- The field stop is entered from CLEAR by a cause that leaves the Stop Unit as given (R147): a running clock is HELD with
its time kept, HALT is pending, no ACTUATE and no RAW stays in the command queue, each discarded actuation has ended
ABORTED with its charge refunded and a withdrawal that was pending behind it has taken effect (R56, R57), the pass-through slot says ABORTED if a RAW was discarded, a beacon is due, and
FIELD_STOP is set; the scores, the settings, the store and the console are as they were (R15, R108, R127). -/
def stopEntered (u : StopUnit) (s t : State) : Prop :=
  t.stop = u
    ∧ t.clock = (if s.clock.phase = .running then
        { s.clock with phase := .held, mark := .paused, graceTimer := none } else s.clock)
    ∧ t.bus.haltPending = true ∧ t.bus.current = s.bus.current
    ∧ (∀ x ∈ t.bus.queue, x.isActuate = false ∧ x.isRaw = false)
    ∧ (∀ e, (∃ x ∈ s.bus.queue, x.isActuateFor e = true) → t.act e = restAct
        ∧ (1 ≤ e → e ≤ 32 → (t.run e).lastOutcome = some .aborted ∧ pendingWithdrawalTaken e s t)
        ∧ ∀ c, (s.act e).charge = some c → 1 ≤ e → e ≤ 32 → 1 ≤ c.alliance → c.alliance ≤ 4 →
            t.quotaLeft e c.alliance = min (s.elemDef e).quota (s.quotaLeft e c.alliance + c.count))
    ∧ (∀ e, (∀ x ∈ s.bus.queue, x.isActuateFor e = false) → t.act e = s.act e ∧ t.run e = s.run e
        ∧ t.claim e = s.claim e)
    ∧ t.bus.pass = (if s.bus.queue.any Entry.isRaw then .aborted else s.bus.pass)
    ∧ t.link = { s.link with beaconDue := true } ∧ t.flagSet .fieldStop = true
    ∧ t.score.alliances = s.score.alliances ∧ t.settings = s.settings ∧ t.store = s.store ∧ t.console = s.console

end Sys2Proof.Machine
end

