-- ==== Sys2Proof/Certificates/Slice0/Obligations.lean ====
section
/-! DEFINITION. The statements about the AF-24, from the numbered rules of its manual. -/

open Sys2Proof Sys2Proof.Machine

-- The machine's step

/-- For every command c at the front of the queue, a step is exec of c on the state with the queue's rest. -/
def Obligations.StepRunsFrontCommand : Prop :=
  ∀ (s : State) (c : Instr) (rest : List Instr), s.pending = c :: rest → step s = exec c { s with pending := rest }

/-- The model's choice (log entries 1 and 2): with no command waiting and nothing else to do, a step lets time pass.
Each time then governs what the manual gives it: the period and the timed disables count only in match time (R4, R5,
R39), hold timers, cooldowns and tower accumulators only in drive time (R91, R137), and in real time the grace,
confirm, silence, restore, actuation and pulse timers, the answer window, the beacon interval, the gap timer, the
store write and the time since the start-up (R11, R20, R62, R94, R104, R118, R161, R173, R188). Before time passes, an
expiry that is due is brought, and it is due exactly when its time left is 0 in the time that governs it and in a
state in which its timer runs (R10, R39, R81, R82), a tower second when the accumulator has reached 1000 ms (R137). -/
def Obligations.IdleStepAdvancesTheRunningTimes : Prop :=
  ∀ s : State, s.awake → s.pending = [] → s.busHasWork = false → s.portHasWork = false → s.link.uplink = [] →
    (∀ c rest, dueExpiries s = c :: rest → step s = .next { s with pending := [c] })
    ∧ (.periodExpiry ∈ dueExpiries s ↔ s.clock.phase = .running ∧ s.clock.remaining = 0)
    ∧ (.graceExpiry ∈ dueExpiries s ↔ s.clock.phase = .grace ∧ s.clock.graceTimer = some 0)
    ∧ (.answerWindowExpiry ∈ dueExpiries s ↔ s.bus.current.map (·.window) = some (some 0))
    ∧ (.beaconIntervalExpiry ∈ dueExpiries s ↔ s.link.beaconTimer = some 0)
    ∧ (.gapTimerExpiry ∈ dueExpiries s ↔ s.console.gapTimer = some 0 ∧ s.console.receiver ≠ .seeking)
    ∧ (.storeDone ∈ dueExpiries s ↔ s.store.writing.map (·.left) = some 0)
    ∧ (∀ e, 1 ≤ e → e ≤ 32 →
        (.holdTimerExpiry e ∈ dueExpiries s
          ↔ (s.claim e).holdTimer = some 0 ∧ (s.claim e).holder.isSome = true ∧ s.driveTime = true)
        ∧ (.cooldownExpiry e ∈ dueExpiries s
          ↔ (s.claim e).barred.map (·.left) = some 0 ∧ s.driveTime = true)
        ∧ (.towerSecond e ∈ dueExpiries s
          ↔ (s.elemDef e).kind = .tower ∧ (s.claim e).holder.isSome = true ∧ 1000000 ≤ (s.elemScore e).accumulator)
        ∧ (.actuationTimerExpiry e ∈ dueExpiries s ↔ (s.act e).timer = some 0 ∧ (s.act e).state = .inFlight)
        ∧ (.pulseTimerExpiry e ∈ dueExpiries s ↔ (s.light e).pulse = some 0))
    ∧ (∀ n, 1 ≤ n → n ≤ 24 →
        (.disableTimerExpiry n ∈ dueExpiries s
          ↔ (s.slot n).disable = some (.timed 0) ∧ s.clock.phase = .running)
        ∧ (.confirmTimerExpiry n ∈ dueExpiries s ↔ (s.slot n).confirmTimer = some 0 ∧ (s.slot n).state = .offered)
        ∧ (.silenceTimerExpiry n ∈ dueExpiries s
          ↔ (s.slot n).silenceTimer = some 0 ∧ ((s.slot n).state = .admitted ∨ (s.slot n).state = .disabled))
        ∧ (.restoreTimerExpiry n ∈ dueExpiries s ↔ (s.slot n).restoreTimer = some 0))
    ∧ (dueExpiries s = [] → ∃ t, step s = .next t
      ∧ t.clock = { s.clock with
          remaining := if s.clock.phase = .running then s.clock.remaining - 1 else s.clock.remaining,
          graceTimer := s.clock.graceTimer.map (· - 1) }
      ∧ (∀ e, (t.claim e).holder = (s.claim e).holder ∧ (t.claim e).waiters = (s.claim e).waiters)
      ∧ (∀ e, s.driveTime = false → t.claim e = s.claim e ∧ t.elemScore e = s.elemScore e)
      ∧ (∀ e, s.driveTime = true → (t.claim e).holdTimer = (s.claim e).holdTimer.map (· - 1)
          ∧ (t.claim e).barred = (s.claim e).barred.map fun b => { b with left := b.left - 1 })
      ∧ (∀ e, 1 ≤ e → e ≤ 32 → s.driveTime = true →
          t.elemScore e = { s.elemScore e with
            accumulator := (s.elemScore e).accumulator
              + (if (s.elemDef e).kind = .tower ∧ (s.claim e).holder.isSome = true then 1 else 0) })
      ∧ (∀ e, t.act e = { s.act e with timer := (s.act e).timer.map (· - 1) }
          ∧ t.light e = { s.light e with pulse := (s.light e).pulse.map (· - 1) })
      ∧ (∀ n left, (s.slot n).disable = some (.timed left) →
          (t.slot n).disable = some (.timed (if s.clock.phase = .running then left - 1 else left)))
      ∧ (∀ n, (∀ left, (s.slot n).disable ≠ some (.timed left)) → (t.slot n).disable = (s.slot n).disable)
      ∧ (∀ n, t.slot n = { s.slot n with
          disable := (t.slot n).disable, confirmTimer := (s.slot n).confirmTimer.map (· - 1),
          silenceTimer := (s.slot n).silenceTimer.map (· - 1), restoreTimer := (s.slot n).restoreTimer.map (· - 1) })
      ∧ t.bus = { s.bus with
          acts := t.bus.acts, current := s.bus.current.map fun q => { q with window := q.window.map (· - 1) } }
      ∧ t.link = { s.link with beaconTimer := s.link.beaconTimer.map (· - 1) }
      ∧ t.console = { s.console with gapTimer := s.console.gapTimer.map (· - 1) }
      ∧ t.store = { s.store with writing := s.store.writing.map fun w => { w with left := w.left - 1 } }
      ∧ t.uptime = min 429496729500000 (s.uptime + 1)
      ∧ t.roster.strangers = s.roster.strangers ∧ t.resetAsserted = s.resetAsserted
      ∧ t.freeCount = s.freeCount ∧ t.meetings = s.meetings
      ∧ t.score.alliances = s.score.alliances ∧ t.stop = s.stop ∧ t.table = s.table ∧ t.attention = s.attention
      ∧ t.settings = s.settings ∧ t.pending = [])

/-- The model's choice (log entry 10, DEDUCED from R152 and R189): while RESET is held asserted no frame, record or
timer event is taken, and only power and the pins act. -/
def Obligations.ResetHeldTakesOnlyPinsAndPower : Prop :=
  ∀ (s : State) (c : Instr), s.resetAsserted = true → pinCommand c = false → exec c s = .next s

-- The console link

/-- A completed record that finds the holding place HELD is discarded without a reply and CONSOLE_OVERRUN is set; the
record held, and everything but the receiver, is as it was. This is so of every request, of a bad record and of one
that names no request (R175). A record that fails its CRC is answered FRAME_ERROR with kind 80h; a good record that
names no request is answered UNKNOWN_REQUEST, with its kind plus 80h, or 80h for a kind of 80h and above (R176). -/
def Obligations.SurplusBadAndUnknownRecords : Prop :=
  (∀ (s : State) (c : Instr), s.awake → s.console.held.isSome = true →
    ((requestKind c).isSome = true ∨ c = .frameError ∨ c = .consoleOverrun
      ∨ ∃ k : Byte, c = .unknownRequest k ∧ catalogueKinds.contains k.toNat = false) →
    exec c s = .next ({ s with console := { s.console with receiver := .seeking, gapTimer := none } }.setFlag .consoleOverrun))
  ∧ (∀ (s : State) (k : Byte), s.ready →
    exec .frameError s = .next (holdReply { kind := 0x80, outcome := .frameError, fields := [] } (receiverDone s))
    ∧ (catalogueKinds.contains k.toNat = false →
        exec (.unknownRequest k) s
          = .next (holdReply { kind := if k.toNat < 0x80 then k.toNat + 0x80 else 0x80, outcome := .unknownRequest,
                               fields := [] } (receiverDone s))))

/-- A request that finds the holding place EMPTY is held, served and answered with its kind plus 80h, and its receiver
is SEEKING again; when the outcome is a refusal the reply carries the outcome alone and no state has changed (R176,
R180). -/
def Obligations.EveryRequestIsAnsweredAndARefusalChangesNothing : Prop :=
  ∀ (s : State) (c : Instr) (k : Nat), s.ready → requestKind c = some k →
    ∃ (t : State) (r : Reply), exec c s = .next t ∧ t.console.held = some r ∧ r.kind = k + 0x80
      ∧ t.console.receiver = .seeking
      ∧ (carriedOut r.outcome = false → r.fields = [] ∧ t = holdReply r (receiverDone s))

/-- The fourteen readings reply and change no other state: not the flags, the boxes, the pass-through slot or the
clock (R17, R24, R50, R63, R86, R114, R141, R142, R151, R169, R181, R185, R186). READ ELEMENT gives an element's
definition, run-time part, mode, actuation state and claim state (an OPEN element with a withdrawal pending reads
OPEN: the model's choice, log entry 12, DEDUCED), READ CLAIMS and READ TALLIES up to 8 elements from the first, READ
FAULTS the capture and every element's faults, READ STRANGERS the list, newest first, and MAIL STATUS every box (R25,
R50, R63, R86, R142, R169, R196). -/
def Obligations.ReadingsReplyAndChangeNothingElse : Prop :=
  ∀ (s : State) (c : Instr) (x : Byte), s.ready →
    (c ∈ [.identify, .getSetting x, .readElement x, .readFaults, .readSlot x, .readStrangers, .readClock, .readStop,
        .readClaims x, .passResult, .readScores, .readTallies x, .mailStatus, .readEvents] →
      ∃ r : Reply, exec c s = .next (holdReply r (receiverDone s)))
    ∧ exec .readStrangers s = .next (replied 0x23 .ok (byte s.roster.strangers.length
        :: [0, 1, 2, 3].flatMap fun i => fourBytes (s.roster.strangers.getD i 0).toNat) (receiverDone s))
    ∧ exec .mailStatus s = .next (replied 0x5A .ok ((List.range' 1 24).flatMap fun n =>
        match s.box n with
        | none => [0, 0]
        | some m => [byte (1 + (if m.origin = .robot then 2 else 0) + if m.pending then 4 else 0), byte m.bytes.length])
        (receiverDone s))
    ∧ exec .readFaults s = .next (replied 0x15 .ok (captureBytes s.table ++ (List.range' 1 32).flatMap fun e =>
        [byte (s.run e).faultTally, byte (faultCode (s.run e).lastFault), if (s.run e).jammed then 1 else 0])
        (receiverDone s))
    ∧ (1 ≤ x.toNat → x.toNat ≤ 32 →
      exec (.readElement x) s = .next (replied 0x11 .ok (definitionBytes (s.elemDef x.toNat) ++ runBytes (s.run x.toNat)
          ++ [if s.defined x.toNat = false then 3 else byte (modeCode (s.mode x.toNat)),
              byte (actStateCode (s.act x.toNat).state)] ++ claimBytes (s.claim x.toNat)) (receiverDone s))
      ∧ exec (.readClaims x) s = .next (replied 0x48 .ok ([x, byte (min 8 (33 - x.toNat))]
          ++ (List.range' x.toNat (min 8 (33 - x.toNat))).flatMap fun e => claimBytes (s.claim e)) (receiverDone s))
      ∧ exec (.readTallies x) s = .next (replied 0x51 .ok ([x, byte (min 8 (33 - x.toNat))]
          ++ (List.range' x.toNat (min 8 (33 - x.toNat))).flatMap fun e => tallyBytes (s.elemDef e) (s.elemScore e))
          (receiverDone s)))

/-- What the readings give: READ CLOCK the clock's fields, with the time left rounded up and at least 1 until its
expiry is taken, READ SCORES the four alliance records, READ SLOT the slot's record, GET SETTING the setting asked
for, each of the 16; a selector out of range is refused BAD_ARG (R4, R17, R24, R50, R86, R141, R142, R180, R186,
R196). IDENTIFY replies OK with the vendor code 1C3Bh, the part code 24 and the format revision 1, in every phase and
in either stop state, and changes no state (R181). READ STOP gives the stop state, one mark for each latched cause,
and the two live conditions, and changes no state (R151, R196). -/
def Obligations.ReadingsGiveTheirFields : Prop :=
  (∀ s : State, s.ready →
    exec .readClock s = .next (replied 0x37 .ok ([byte (phaseCode s.clock.phase), byte s.clock.index,
        byte (periodKindCode s.currentKind)] ++ twoBytes s.remainingReported
        ++ [byte (markCode s.clock.mark), byte s.periodCount]) (receiverDone s))
    ∧ exec .readScores s = .next (replied 0x50 .ok ([byte s.settings.allianceCount, byte (phaseCode s.clock.phase),
        byte s.clock.index] ++ allianceBytes (s.alliance 1) ++ allianceBytes (s.alliance 2)
        ++ allianceBytes (s.alliance 3) ++ allianceBytes (s.alliance 4)) (receiverDone s))
    ∧ (s.clock.phase = .running ∨ (s.clock.phase = .held ∧ s.clock.mark = .paused) →
        s.remainingReported = max 1 ((s.clock.remaining + 99999) / 100000))
    ∧ (∀ left, s.clock.phase = .grace → s.clock.graceTimer = some left →
        s.remainingReported = max 1 ((left + 99999) / 100000))
    ∧ (s.clock.phase = .idle ∨ s.clock.phase = .staging ∨ (s.clock.phase = .held ∧ s.clock.mark = .atEnd)
        ∨ s.clock.phase = .finished → s.remainingReported = 0)
    ∧ (∀ (id : Byte) (v : Nat),
        (id, v) ∈ [(1, s.settings.consoleRate), (2, s.settings.allianceCount), (3, s.settings.allowedTiers.toNat),
          (4, s.tierCap 1), (5, s.tierCap 2), (6, s.tierCap 3), (7, s.tierCap 4), (8, s.settings.beaconInterval),
          (9, s.settings.silenceLimit), (10, s.settings.confirmWindow), (11, s.settings.downshiftThreshold),
          (12, if s.settings.downshiftEnable then 1 else 0), (13, s.settings.restoreInterval),
          (14, if s.settings.restoreEnable then 1 else 0), (15, s.settings.answerWindow), (16, s.settings.pulseTime)] →
        exec (.getSetting id) s = .next (replied 0x03 .ok (id :: fourBytes v) (receiverDone s)))
    ∧ (∀ x : Byte, (x = 0 ∨ 16 < x.toNat) →
        exec (.getSetting x) s = .next (replied 0x03 .badArg [] (receiverDone s)))
    ∧ (∀ x : Byte, (x = 0 ∨ 32 < x.toNat) →
        exec (.readElement x) s = .next (replied 0x11 .badArg [] (receiverDone s))
          ∧ exec (.readClaims x) s = .next (replied 0x48 .badArg [] (receiverDone s))
          ∧ exec (.readTallies x) s = .next (replied 0x51 .badArg [] (receiverDone s)))
    ∧ (∀ x : Byte, (x = 0 ∨ 24 < x.toNat) →
        exec (.readSlot x) s = .next (replied 0x22 .badArg [] (receiverDone s)))
    ∧ ∀ x : Byte, 1 ≤ x.toNat → x.toNat ≤ 24 →
        exec (.readSlot x) s = .next (replied 0x22 .ok (slotBytes (s.slot x.toNat)) (receiverDone s)))
  ∧ (∀ s : State, s.ready →
    exec .identify s = .next (replied 0x01 .ok (twoBytes 0x1C3B ++ [24, 1]) (receiverDone s)))
  ∧ (∀ s : State, s.ready → ∃ causes : Byte,
    exec .readStop s = .next (replied 0x42 .ok [if s.stop.stopped then 1 else 0, causes, if s.stop.stopIn then 1 else 0,
      if s.console.breakInProgress then 1 else 0] (receiverDone s))
    ∧ causes.getLsbD 0 = s.stop.pin ∧ causes.getLsbD 1 = s.stop.brk ∧ causes.getLsbD 2 = s.stop.console
    ∧ causes.getLsbD 3 = s.stop.reset ∧ causes.toNat < 16)

/-- Whatever record the console sends whole, with any kind and any payload of at most 120 bytes, to a receiver in
SEEKING with the holding place EMPTY: byte by byte it is framed, its CRC checks, and its last byte serves the request
that its kind names, which is answered with the kind plus 80h, or with 80h and UNKNOWN_REQUEST above 7Fh (R172, R174,
R176, R191). A request sent byte by byte does what its row of the table does: START, and REVOKE CLAIM with its three
operands (R176, R191, R192, R196). -/
def Obligations.SentRecordsAreServedAsTheirRequests : Prop :=
  (∀ (s : State) (kind : Byte) (p : List Byte), s.ready → s.console.breakInProgress = false →
    s.console.receiver = .seeking → p.length ≤ 120 →
    ∃ t r, feed (recordBytes kind p) s = .next t ∧ t.console.held = some r ∧ t.console.receiver = .seeking
      ∧ r.kind = (if kind.toNat < 0x80 then kind.toNat + 0x80 else 0x80)
      ∧ (r.outcome = .unknownRequest ↔ catalogueKinds.contains kind.toNat = false)
      ∧ r.outcome ≠ .frameError)
  ∧ (∀ s : State, s.ready → s.console.breakInProgress = false → s.console.receiver = .seeking →
    feed (recordBytes 0x32 []) s = exec .start s
    ∧ (∀ e b x : Byte, feed (recordBytes 0x49 [e, b, x]) s = exec (.revokeClaim e b x) s)
    ∧ ∀ (id : Byte) (v : Word),
        feed (recordBytes 0x02 (id :: fourBytes v.toNat)) s = exec (.setSetting id v) s)

/-- The receiver by its three states: a byte that is not A5h is dropped in SEEKING, A5h begins a frame, a length of at
most 120 begins the record and a longer one is discarded; a framing error and a gap of 10 ms discard a partial record
(R172, R173). -/
def Obligations.ReceiverFramesBytes : Prop :=
  ∀ (s : State) (b : Byte), s.awake → s.console.breakInProgress = false →
    (s.console.receiver = .seeking → b ≠ 0xA5 → exec (.consoleByte b) s = .next s)
    ∧ (s.console.receiver = .seeking ∨ s.console.receiver = .framing →
        exec (.consoleByte 0xA5) s
          = .next { s with console := { s.console with receiver := .framing, gapTimer := some 10000 } })
    ∧ (s.console.receiver = .framing → b.toNat ≤ 120 →
        exec (.consoleByte b) s
          = .next { s with console := { s.console with receiver := .receiving b.toNat [], gapTimer := some 10000 } })
    ∧ (s.console.receiver = .framing → 120 < b.toNat → b ≠ 0xA5 →
        exec (.consoleByte b) s
          = .next { s with console := { s.console with receiver := .seeking, gapTimer := none } })
    ∧ (∀ l got, s.console.receiver = .receiving l got → got.length + 1 < l + 3 →
        exec (.consoleByte b) s
          = .next { s with console := { s.console with receiver := .receiving l (got ++ [b]), gapTimer := some 10000 } })
    ∧ exec .framingError s = .next { s with console := { s.console with receiver := .seeking, gapTimer := none } }
    ∧ (s.console.receiver ≠ .seeking →
        exec .gapTimerExpiry s = .next { s with console := { s.console with receiver := .seeking, gapTimer := none } })

/-- The end of a reply empties the holding place and lets a changed CONSOLE RATE take effect, which discards a partial
record; after the reply to RESTART the start-up follows, with the live settings and the definitions kept, and the
arbiters choose (R98, R160, R171, R177, R189). RESTART itself replies OK and changes nothing more. -/
def Obligations.ReplyEndEmptiesThePlaceAndRestartStartsUp : Prop :=
  ∀ s : State,
    (s.ready → exec .restart s
      = .next (replied 0x05 .ok [] { receiverDone s with
          console := { (receiverDone s).console with restarting := true } }))
    ∧ (s.awake → s.console.held.isSome = true → s.console.restarting = false →
        exec .replyEnd s = .next { s with console := { s.console with
          held := none, lineRate := s.settings.consoleRate,
          receiver := if s.console.lineRate = s.settings.consoleRate then s.console.receiver else .seeking,
          gapTimer := if s.console.lineRate = s.settings.consoleRate then s.console.gapTimer else none } })
    ∧ (s.awake → s.console.held.isSome = true → s.console.restarting = true →
        ∃ t, exec .replyEnd s = .next (settle t) ∧ startedUp s.settings s.table.defs 0 s.stop.stopIn s t
          ∧ t.resetAsserted = false)

-- Settings, store, attention and start-up

/-- SET SETTING of each of the 16 settings: a numeric value is brought to the nearer end of its range, that setting
alone is written, and the reply carries the value stored. An identifier or a value outside its codes is BAD_ARG;
ALLIANCE COUNT outside IDLE or below the alliance of a registered slot or the side of a defined element, and ALLOWED
TIERS outside IDLE and STAGING, are BAD_STATE (R186, R187). A SET SETTING of ALLOWED TIERS in STAGING returns to
EXPECTED, its claims dropped and its restore timer started while RESTORE ENABLE is on, exactly each slot whose offered
or admitted tier the new set does not hold (R20, R41, R87). -/
def Obligations.SetSettingWritesInRangeAndReachesTheRoster : Prop :=
  (∀ (s : State) (id : Byte) (v : Word), s.ready →
    (id = 8 → exec (.setSetting id v) s
      = .next (replied 0x02 (if 20 ≤ v.toNat ∧ v.toNat ≤ 500 then .ok else .okAdjusted)
          (8 :: fourBytes (max 20 (min 500 v.toNat)))
          { receiverDone s with settings := { s.settings with beaconInterval := max 20 (min 500 v.toNat) } }))
    ∧ (id = 9 → exec (.setSetting id v) s
      = .next (replied 0x02 (if 200 ≤ v.toNat ∧ v.toNat ≤ 5000 then .ok else .okAdjusted)
          (9 :: fourBytes (max 200 (min 5000 v.toNat)))
          { receiverDone s with settings := { s.settings with silenceLimit := max 200 (min 5000 v.toNat) } }))
    ∧ (id = 16 → exec (.setSetting id v) s
      = .next (replied 0x02 (if 100 ≤ v.toNat ∧ v.toNat ≤ 1000 then .ok else .okAdjusted)
          (16 :: fourBytes (max 100 (min 1000 v.toNat)))
          { receiverDone s with settings := { s.settings with pulseTime := max 100 (min 1000 v.toNat) } }))
    ∧ (id = 1 → v.toNat ∈ [57600, 115200, 230400, 460800] → exec (.setSetting id v) s
      = .next (replied 0x02 .ok (1 :: fourBytes v.toNat)
          { receiverDone s with settings := { s.settings with consoleRate := v.toNat } }))
    ∧ (∀ k, 1 ≤ k → k ≤ 4 → id.toNat = k + 3 → exec (.setSetting id v) s
      = .next (replied 0x02 (if 10 ≤ v.toNat ∧ v.toNat ≤ 100 then .ok else .okAdjusted)
          (id :: fourBytes (max 10 (min 100 v.toNat)))
          { receiverDone s with settings := { s.settings with
              tierCaps := set1 s.settings.tierCaps k (max 10 (min 100 v.toNat)) } }))
    ∧ (id = 10 → exec (.setSetting id v) s
      = .next (replied 0x02 (if 100 ≤ v.toNat ∧ v.toNat ≤ 2000 then .ok else .okAdjusted)
          (10 :: fourBytes (max 100 (min 2000 v.toNat)))
          { receiverDone s with settings := { s.settings with confirmWindow := max 100 (min 2000 v.toNat) } }))
    ∧ (id = 11 → exec (.setSetting id v) s
      = .next (replied 0x02 (if 1 ≤ v.toNat ∧ v.toNat ≤ 15 then .ok else .okAdjusted)
          (11 :: fourBytes (max 1 (min 15 v.toNat)))
          { receiverDone s with settings := { s.settings with downshiftThreshold := max 1 (min 15 v.toNat) } }))
    ∧ (id = 13 → exec (.setSetting id v) s
      = .next (replied 0x02 (if 2 ≤ v.toNat ∧ v.toNat ≤ 255 then .ok else .okAdjusted)
          (13 :: fourBytes (max 2 (min 255 v.toNat)))
          { receiverDone s with settings := { s.settings with restoreInterval := max 2 (min 255 v.toNat) } }))
    ∧ (id = 15 → exec (.setSetting id v) s
      = .next (replied 0x02 (if 1 ≤ v.toNat ∧ v.toNat ≤ 20 then .ok else .okAdjusted)
          (15 :: fourBytes (max 1 (min 20 v.toNat)))
          { receiverDone s with settings := { s.settings with answerWindow := max 1 (min 20 v.toNat) } }))
    ∧ (id = 12 → v.toNat ≤ 1 → exec (.setSetting id v) s
      = .next (replied 0x02 .ok (12 :: fourBytes v.toNat)
          { receiverDone s with settings := { s.settings with downshiftEnable := decide (v.toNat = 1) } }))
    ∧ (id = 14 → v.toNat ≤ 1 → exec (.setSetting id v) s
      = .next (replied 0x02 .ok (14 :: fourBytes v.toNat)
          { receiverDone s with settings := { s.settings with restoreEnable := decide (v.toNat = 1) } }))
    ∧ (∀ c, id = 2 → s.clock.phase = .idle → c = max 2 (min 4 v.toNat) →
        ((∃ n, 1 ≤ n ∧ n ≤ 24 ∧ (s.slot n).state ≠ .empty ∧ c < (s.slot n).alliance)
            ∨ (∃ e a, 1 ≤ e ∧ e ≤ 32 ∧ s.defined e = true ∧ (s.elemDef e).side = some a ∧ c < a) →
          exec (.setSetting id v) s = .next (replied 0x02 .badState [] (receiverDone s)))
        ∧ ((∀ n, 1 ≤ n → n ≤ 24 → (s.slot n).state ≠ .empty → (s.slot n).alliance ≤ c) →
            (∀ e a, 1 ≤ e → e ≤ 32 → s.defined e = true → (s.elemDef e).side = some a → a ≤ c) →
          exec (.setSetting id v) s
            = .next (replied 0x02 (if 2 ≤ v.toNat ∧ v.toNat ≤ 4 then .ok else .okAdjusted) (2 :: fourBytes c)
                { receiverDone s with settings := { s.settings with allianceCount := c } })))
    ∧ (id = 3 → 1 ≤ v.toNat → v.toNat ≤ 15 →
        s.clock.phase = .idle ∨ (s.clock.phase = .staging ∧ BitVec.ofNat 4 v.toNat = s.settings.allowedTiers) →
        exec (.setSetting id v) s = .next (replied 0x02 .ok (3 :: fourBytes v.toNat)
          { receiverDone s with settings := { s.settings with allowedTiers := BitVec.ofNat 4 v.toNat } }))
    ∧ (id = 1 → v.toNat ∉ [57600, 115200, 230400, 460800] →
        exec (.setSetting id v) s = .next (replied 0x02 .badArg [] (receiverDone s)))
    ∧ (id = 12 ∨ id = 14 → 1 < v.toNat →
        exec (.setSetting id v) s = .next (replied 0x02 .badArg [] (receiverDone s)))
    ∧ (id = 0 ∨ 16 < id.toNat → exec (.setSetting id v) s = .next (replied 0x02 .badArg [] (receiverDone s)))
    ∧ (id = 2 → s.clock.phase ≠ .idle → exec (.setSetting id v) s = .next (replied 0x02 .badState [] (receiverDone s)))
    ∧ (id = 3 → v.toNat = 0 ∨ 15 < v.toNat →
        exec (.setSetting id v) s = .next (replied 0x02 .badArg [] (receiverDone s)))
    ∧ (id = 3 → 1 ≤ v.toNat → v.toNat ≤ 15 → s.clock.phase ≠ .idle → s.clock.phase ≠ .staging →
        exec (.setSetting id v) s = .next (replied 0x02 .badState [] (receiverDone s))))
  ∧ (∀ (s : State) (v : Word), s.ready → s.clock.phase = .staging → 1 ≤ v.toNat → v.toNat ≤ 15 →
    BitVec.ofNat 4 v.toNat ≠ s.settings.allowedTiers →
    ∃ t, exec (.setSetting 3 v) s = .next (replied 0x02 .ok (3 :: fourBytes v.toNat) (settle t))
      ∧ t.settings = { s.settings with allowedTiers := BitVec.ofNat 4 v.toNat }
      ∧ ∀ n, 1 ≤ n → n ≤ 24 →
          if ((s.slot n).state = .offered ∨ (s.slot n).state = .admitted ∨ (s.slot n).state = .disabled)
              ∧ hasTier (BitVec.ofNat 4 v.toNat) ((s.slot n).tier.getD 0) = false
          then (t.slot n).state = .expected ∧ (t.slot n).tier = none ∧ (t.slot n).cap = none
            ∧ (t.slot n).wasLost = false ∧ (t.slot n).confirmTimer = none ∧ (t.slot n).silenceTimer = none
            ∧ (t.slot n).restoreTimer = (if s.settings.restoreEnable then some (s.settings.restoreInterval * 1000000)
                else (s.slot n).restoreTimer)
            ∧ (lawfulClaims s → holdsNothing n t)
          else (t.slot n).state = (s.slot n).state ∧ (t.slot n).tier = (s.slot n).tier
            ∧ (t.slot n).silenceTimer = (s.slot n).silenceTimer)

/-- STORE SETTINGS on a READY store replies ACCEPTED and begins to write a copy of the live settings and definitions,
to be complete within 200 ms; during a write it is refused BUSY. The completion makes the copy the standing one, good,
and sets STORE_DONE (R188; the duration is a free value within the bound, log entry 7). -/
def Obligations.StoreWritesACopyAndCompletes : Prop :=
  ∀ s : State,
    (s.ready → s.store.writing = none →
      ∃ left, 1 ≤ left ∧ left ≤ 200000
        ∧ exec .storeSettings s = .next (replied 0x04 .accepted [] { receiverDone s with
            store := { s.store with writing := some { copy := { settings := s.settings, defs := s.table.defs },
                                                      left := left } },
            freeCount := s.freeCount + 1 }))
    ∧ (s.ready → s.store.writing.isSome = true →
        exec .storeSettings s = .next (replied 0x04 .busy [] (receiverDone s)))
    ∧ ∀ w, s.awake → s.store.writing = some w →
        exec .storeDone s = .next ({ s with store := { writing := none, standing := w.copy, standingGood := true } }.setFlag
          .storeDone)

/-- ATTN is asserted in every state in which a flag is both set and enabled and negated in every other, also while a
reply is being sent and while RESET is held. The three attention requests, each for every set and state: a set that
marks a number above 21 is refused, READ EVENTS gives both sets and changes nothing, CLEAR EVENTS clears the flags of
its set and no other and gives what is left, SET EVENT ENABLES replaces the whole enable set (R184, R185). -/
def Obligations.AttentionRequestsReadClearAndEnable : Prop :=
  (∀ s : State, s.attn = true ↔ ∃ i, s.attention.flags.getLsbD i = true ∧ s.attention.enables.getLsbD i = true)
  ∧ ∀ (s : State) (x : BitVec 24), s.ready →
    exec .readEvents s
      = .next (replied 0x60 .ok (threeBytes s.attention.flags.toNat ++ threeBytes s.attention.enables.toNat)
          (receiverDone s))
    ∧ (x.getLsbD 22 = true ∨ x.getLsbD 23 = true →
        exec (.clearEvents x) s = .next (replied 0x61 .badArg [] (receiverDone s))
          ∧ exec (.setEventEnables x) s = .next (replied 0x62 .badArg [] (receiverDone s)))
    ∧ (x.getLsbD 22 = false → x.getLsbD 23 = false →
        (∃ f : FlagSet, (∀ i, f.getLsbD i = (s.attention.flags.getLsbD i && !x.getLsbD i))
          ∧ exec (.clearEvents x) s = .next (replied 0x61 .ok (threeBytes f.toNat)
              { receiverDone s with attention := { s.attention with flags := f } }))
        ∧ ∃ g : FlagSet, (∀ i, g.getLsbD i = x.getLsbD i)
          ∧ exec (.setEventEnables x) s = .next (replied 0x62 .ok []
              { receiverDone s with attention := { s.attention with enables := g } }))

/-- Power-on and the RESET pin start the part up from the standing copy if it is good and no write was in progress,
else from the factory defaults with SETTINGS_DEFAULTED set (R152, R188, R189). The start-up of the RESET pin is
carried out at the assertion and completes at the pin's release, which latches PIN if STOP_IN is asserted then, and a
power-on under a held RESET completes there too: the model's choice (log entry 10, DEDUCED). A start-up that completes
lets the arbiters choose: the HALT goes out, and the first downlink frame is a beacon that shows IDLE, the stop and no
permit (R98, R115, R160, R170). -/
def Obligations.StartUpTakesTheStandingCopyOrTheDefaults : Prop :=
  ∀ s : State,
    (s.store.standingGood = true → s.store.writing = none →
      (∃ t, exec .powerOn s = .next (if s.resetAsserted = true then t else settle t) ∧ t.resetAsserted = s.resetAsserted
        ∧ startedUp s.store.standing.settings s.store.standing.defs 0 (s.stop.stopIn && !s.resetAsserted) s t)
      ∧ (s.resetAsserted = false → ∃ t, exec .resetPin s = .next t ∧ t.resetAsserted = true ∧ t.stopOut = true
        ∧ startedUp s.store.standing.settings s.store.standing.defs 0 false s t))
    ∧ (s.store.standingGood = false ∨ s.store.writing.isSome = true →
      (∃ t, exec .powerOn s = .next (if s.resetAsserted = true then t else settle t) ∧ t.resetAsserted = s.resetAsserted
        ∧ startedUp factorySettings noDefinitions (1#22 <<< 20) (s.stop.stopIn && !s.resetAsserted) s t)
      ∧ (s.resetAsserted = false → ∃ t, exec .resetPin s = .next t ∧ t.resetAsserted = true ∧ t.stopOut = true
        ∧ startedUp factorySettings noDefinitions (1#22 <<< 20) false s t))
    ∧ (s.resetAsserted = true → exec .resetPin s = .next s
      ∧ exec .resetPinRelease s = .next (settle { s with resetAsserted := false,
                                                         stop := { s.stop with pin := s.stop.pin || s.stop.stopIn } }))
    ∧ (s.resetAsserted = false → exec .resetPinRelease s = .next s)
    ∧ (s.resetAsserted = false → ∃ t b, exec .powerOn s = .next t
      ∧ t.bus.current = some { request := .halt, window := none } ∧ t.bus.haltPending = false
      ∧ t.link.port = some { slot := 0, tag := 0, body := .beacon b } ∧ t.link.beaconDue = false
      ∧ t.link.beaconTimer = some (t.settings.beaconInterval * 1000)
      ∧ b.phase = .idle ∧ b.index = 0 ∧ b.kind = none ∧ b.remaining = 0 ∧ b.stopped = true
      ∧ (∀ p ∈ b.permits, p = false) ∧ ∀ x ∈ b.elements, x.holder = 0 ∧ x.waiting = 0 ∧ x.act = .none)

/-- What the manual gives every reset: the clock in IDLE without a plan, 24 EMPTY slots, no holder, HALT pending on a
free bus with no entry, every light OFF and never issued, every score 0, STOPPED with RESET latched, a beacon due on a
free port with its timer stopped and empty boxes, the receiver SEEKING and the place EMPTY, an empty enable set, and,
with no good standing copy (the model's choice, log entry 3), no definition, the factory settings and
SETTINGS_DEFAULTED. The state after reset is these values behind the arbiters' first choices (log entry 6): the HALT
is on the bus and a beacon on the port, which shows IDLE, index 0, no kind, time 0, the stop and every permit off; a
power-on in it leads to it again (R18, R44, R65, R93, R98, R115, R123, R143, R152, R160, R170, R182, R186, R189). The
state after reset has every law that every step keeps. -/
def Obligations.ResetStateIsTheManualsAndLawful : Prop :=
  (State.reset.clock = { plan := none, phase := .idle, index := 0, remaining := 0, mark := .none, graceTimer := none }
    ∧ (∀ n, (State.reset.slot n).state = .empty) ∧ State.reset.roster.strangers = []
    ∧ (∀ e, State.reset.defined e = false) ∧ State.reset.table.capture = none
    ∧ (∀ e, State.reset.claim e = { holder := none, holdTimer := none, waiters := [], barred := none })
    ∧ State.resetValues.bus.haltPending = true ∧ State.resetValues.bus.current = none
    ∧ State.reset.bus.queue = [] ∧ State.reset.bus.pass = .empty ∧ (∀ e, (State.reset.act e).state = .none)
    ∧ State.reset.bus.commandCount = 0 ∧ State.reset.bus.lastPolled = 0
    ∧ (∀ e, (State.reset.light e).computed = .off ∧ (State.reset.light e).issued = none)
    ∧ (∀ a, State.reset.alliance a = { score := 0, penalty := 0, clampLoss := 0 })
    ∧ State.reset.stop = { stopped := true, pin := false, brk := false, console := false, reset := true, stopIn := false }
    ∧ State.reset.stopOut = true ∧ State.resetValues.link.beaconDue = true ∧ State.resetValues.link.port = none
    ∧ State.resetValues.link.beaconTimer = none ∧ State.reset.link.uplink = [] ∧ State.reset.link.replies = []
    ∧ (∀ n, State.reset.box n = none)
    ∧ State.reset.console.receiver = .seeking ∧ State.reset.console.held = none
    ∧ State.reset.attention = { flags := 0x100000, enables := 0 } ∧ State.reset.attn = false
    ∧ State.reset.settings = factorySettings ∧ State.reset.settings.consoleRate = 115200
    ∧ State.reset = settle State.resetValues ∧ exec .powerOn State.reset = .next State.reset
    ∧ State.reset.bus.current = some { request := .halt, window := none } ∧ State.reset.bus.haltPending = false
    ∧ State.reset.link.beaconDue = false ∧ State.reset.link.beaconTimer = some 100000
    ∧ State.reset.link.port = some { slot := 0, tag := 0, body := .beacon {
        phase := .idle, index := 0, kind := none, remaining := 0, stopped := true, permits := List.replicate 24 false,
        elements := List.replicate 32 { holder := 0, waiting := 0, mode := .withdrawn, act := .none } } })
  ∧ (stopLaw State.reset ∧ clockLaw State.reset ∧ lawfulClaims State.reset ∧ playLaw State.reset ∧ rosterLaw State.reset
    ∧ withdrawalLaw State.reset ∧ lightLaw State.reset ∧ busLaw State.reset ∧ queueLaw State.reset
    ∧ scoreLaw State.reset ∧ settingsLaw State.reset ∧ allianceLaw State.reset)

-- The Match Clock

/-- LOAD PLAN in IDLE with as many period records as its count, kinds and hold-at-end values within their codes and a
period of a driving kind replaces the whole plan by its records brought into range; else it is refused, and the plan
stays (R1, R2). A record list above 8 is refused BAD_ARG in every phase, as R180 has it refused before it reaches the
clock. -/
def Obligations.LoadPlanStoresThePlanInRange : Prop :=
  ∀ (s : State) (count grace : Byte) (fs : List PeriodFields), s.ready →
    (8 < fs.length → exec (.loadPlan count grace fs) s = .next (replied 0x30 .badArg [] (receiverDone s)))
    ∧ (fs.length ≤ 8 → s.clock.phase ≠ .idle →
        exec (.loadPlan count grace fs) s = .next (replied 0x30 .badState [] (receiverDone s)))
    ∧ (s.clock.phase = .idle → (count = 0 ∨ 8 < count.toNat ∨ fs.length ≠ count.toNat
          ∨ (∃ f ∈ fs, f.kind = 0 ∨ 4 < f.kind.toNat ∨ 1 < f.holdAtEnd.toNat) ∨ ∀ f ∈ fs, f.kind = 4) →
        exec (.loadPlan count grace fs) s = .next (replied 0x30 .badArg [] (receiverDone s)))
    ∧ (s.clock.phase = .idle → count ≠ 0 → count.toNat ≤ 8 → fs.length = count.toNat →
        (∀ f ∈ fs, 1 ≤ f.kind.toNat ∧ f.kind.toNat ≤ 4 ∧ f.holdAtEnd.toNat ≤ 1) → (∃ f ∈ fs, f.kind.toNat ≤ 3) →
        exec (.loadPlan count grace fs) s
          = .next (replied 0x30
              (if (∀ f ∈ fs, 1 ≤ f.duration.toNat ∧ f.duration.toNat ≤ 6000 ∧ f.factor.toNat ≤ 16) ∧ grace.toNat ≤ 100
               then .ok else .okAdjusted) []
              { receiverDone s with clock := { s.clock with plan := (some
                  { periods := fs.map (fun f =>
                      ({ kind := (periodKindOf f.kind).getD .auto, duration := max 1 (min 6000 f.duration.toNat),
                         factor := min 16 f.factor.toNat, holdAtEnd := decide (f.holdAtEnd = (1 : Byte)) } : Period)),
                    grace := min 100 grace.toNat }) } }))

/-- STAGE in IDLE with a plan enters STAGING and sets up the match: scores, tallies, baselines and accumulators
cleared, the quotas full, the default flags of the defined elements live, a beacon due, and nothing else changed;
without a plan it is refused NO_PLAN and in another phase BAD_STATE (R6, R16, R54, R128). -/
def Obligations.StageSetsUpTheMatch : Prop :=
  ∀ s : State, s.ready →
    (s.clock.phase ≠ .idle → exec .stage s = .next (replied 0x31 .badState [] (receiverDone s)))
    ∧ (s.clock.phase = .idle → s.clock.plan = none → exec .stage s = .next (replied 0x31 .noPlan [] (receiverDone s)))
    ∧ (s.clock.phase = .idle → s.clock.plan.isSome = true →
        ∃ t, exec .stage s = .next (replied 0x31 .ok [] (settle t))
          ∧ t.clock = { s.clock with phase := .staging, index := 0, remaining := 0, mark := .none, graceTimer := none }
          ∧ (∀ a, t.alliance a = { score := 0, penalty := 0, clampLoss := 0 })
          ∧ (∀ e, t.elemScore e =
              { baseline := none, credited := 0, unattributed := 0, uncounted := 0, accumulator := 0,
                quotas := Vector.replicate 4 (if (s.elemDef e).kind = .dispenser then (s.elemDef e).quota else 0) })
          ∧ (∀ e, t.run e = if s.defined e = true then
                { s.run e with refusing := (s.elemDef e).defaultRefusing, silent := (s.elemDef e).defaultSilent }
              else s.run e)
          ∧ { t with clock := s.clock, score := s.score, table := { t.table with runs := s.table.runs } }
            = { receiverDone s with link := { s.link with beaconDue := true } })

/-- START and PAUSE by phase and stop state: START loads period 1 and runs, PAUSE holds with the exact time left; each
makes a beacon due and changes nothing else; otherwise BAD_STATE, or STOP_HELD for a START while the field is stopped
(R7, R8, R16). RESUME by the held mark: PAUSED runs on with the time left, AT_END loads the next period at its full
duration, and AT_END behind the last period enters FINISHED at a grace of 0 and else GRACE, every claim cleared; in
another phase BAD_STATE and on a stopped field STOP_HELD (R9, R11, R12, R89). -/
def Obligations.StartPauseAndResume : Prop :=
  (∀ s : State, s.ready →
    (s.clock.phase ≠ .staging → exec .start s = .next (replied 0x32 .badState [] (receiverDone s)))
    ∧ (s.clock.phase = .staging → s.stop.stopped = true →
        exec .start s = .next (replied 0x32 .stopHeld [] (receiverDone s)))
    ∧ (∀ p d rest, s.clock.phase = .staging → s.stop.stopped = false → s.clock.plan = some p → p.periods = d :: rest →
        exec .start s = .next (replied 0x32 .ok [] (settle { receiverDone s with
          clock := { s.clock with phase := .running, index := 1, remaining := d.duration * 100000, mark := .none,
                                  graceTimer := none },
          link := { s.link with beaconDue := true } })))
    ∧ (s.clock.phase ≠ .running → exec .pause s = .next (replied 0x33 .badState [] (receiverDone s)))
    ∧ (s.clock.phase = .running →
        exec .pause s = .next (replied 0x33 .ok [] (settle { receiverDone s with
          clock := { s.clock with phase := .held, mark := .paused, graceTimer := none },
          link := { s.link with beaconDue := true } }))))
  ∧ (∀ s : State, s.ready →
    (s.clock.phase ≠ .held → exec .resume s = .next (replied 0x34 .badState [] (receiverDone s)))
    ∧ (s.clock.phase = .held → s.stop.stopped = true →
        exec .resume s = .next (replied 0x34 .stopHeld [] (receiverDone s)))
    ∧ (s.clock.phase = .held → s.stop.stopped = false → s.clock.mark = .paused →
        exec .resume s = .next (replied 0x34 .ok [] (settle { receiverDone s with
          clock := { s.clock with phase := .running, mark := .none, graceTimer := none },
          link := { s.link with beaconDue := true } })))
    ∧ (∀ p d, s.clock.phase = .held → s.stop.stopped = false → s.clock.mark = .atEnd → s.clock.plan = some p →
        p.periods[s.clock.index]? = some d →
        exec .resume s = .next (replied 0x34 .ok [] (settle { receiverDone s with
          clock := { s.clock with phase := .running, index := s.clock.index + 1, remaining := d.duration * 100000,
                                  mark := .none, graceTimer := none },
          link := { s.link with beaconDue := true } })))
    ∧ (∀ p, s.clock.phase = .held → s.stop.stopped = false → s.clock.mark = .atEnd → s.clock.plan = some p →
        p.periods.length ≤ s.clock.index →
        ∃ t, exec .resume s = .next (replied 0x34 .ok [] (settle t))
          ∧ claimsCleared (if p.grace = 0 then
              { receiverDone s with
                clock := { s.clock with phase := .finished, remaining := 0, mark := .none, graceTimer := none },
                link := { s.link with beaconDue := true } }.setFlag .matchOver
            else
              { receiverDone s with
                clock := { s.clock with phase := .grace, remaining := 0, mark := .none,
                                        graceTimer := some (p.grace * 100000) },
                link := { s.link with beaconDue := true } }) t))

/-- A period's expiry sets PERIOD_END, and LAPSE if PERIOD_END was still set. With hold at end the clock is HELD
AT_END; else the next period is loaded at its full duration; behind the last period a grace of 0 finishes the match
and another enters GRACE, every claim cleared (R10, R11, R12, R89). -/
def Obligations.PeriodExpiryHoldsLoadsOrEnds : Prop :=
  ∀ (s f : State) (p : Plan) (d : Period), s.awake → s.clock.phase = .running → s.clock.plan = some p →
    1 ≤ s.clock.index → p.periods[s.clock.index - 1]? = some d →
    f = (if s.flagSet .periodEnd = true then (s.setFlag .lapse).setFlag .periodEnd else s.setFlag .periodEnd) →
    (d.holdAtEnd = true →
      exec .periodExpiry s = .next (settle { f with
        clock := { s.clock with phase := .held, remaining := 0, mark := .atEnd, graceTimer := none },
        link := { s.link with beaconDue := true } }))
    ∧ (∀ d', d.holdAtEnd = false → p.periods[s.clock.index]? = some d' →
      exec .periodExpiry s = .next (settle { f with
        clock := { s.clock with phase := .running, index := s.clock.index + 1, remaining := d'.duration * 100000,
                                mark := .none, graceTimer := none },
        link := { s.link with beaconDue := true } }))
    ∧ (d.holdAtEnd = false → p.periods.length = s.clock.index →
      ∃ t, exec .periodExpiry s = .next (settle t)
        ∧ claimsCleared (if p.grace = 0 then
            { f with clock := { s.clock with phase := .finished, remaining := 0, mark := .none, graceTimer := none },
                     link := { s.link with beaconDue := true } }.setFlag .matchOver
          else
            { f with clock := { s.clock with phase := .grace, remaining := 0, mark := .none,
                                             graceTimer := some (p.grace * 100000) },
                     link := { s.link with beaconDue := true } }) t)

/-- ABORT MATCH in STAGING, RUNNING, HELD and GRACE, and the end of the grace, enter FINISHED: the index kept,
MATCH_OVER set, a beacon due, every claim cleared, on a stopped field as on a clear one. In IDLE and FINISHED the
abort is refused BAD_STATE (R11, R12, R13, R89). CLOSE MATCH in STAGING and FINISHED enters IDLE, keeps the plan and
the scores, and leaves every registered slot EXPECTED without tier, cap, disable or running confirm or silence timer;
its registration, permitted tiers and attempts are kept. In another phase it is refused BAD_STATE (R14, R42). -/
def Obligations.AbortGraceExpiryAndCloseMatch : Prop :=
  (∀ s : State,
    (s.ready → s.clock.phase = .idle ∨ s.clock.phase = .finished →
      exec .abortMatch s = .next (replied 0x35 .badState [] (receiverDone s)))
    ∧ (s.ready → s.clock.phase ≠ .idle → s.clock.phase ≠ .finished →
      ∃ t, exec .abortMatch s = .next (replied 0x35 .ok [] (settle t))
        ∧ claimsCleared ({ receiverDone s with
            clock := { s.clock with phase := .finished, remaining := 0, mark := .none, graceTimer := none },
            link := { s.link with beaconDue := true } }.setFlag .matchOver) t)
    ∧ (s.awake → s.clock.phase = .grace →
      ∃ t, exec .graceExpiry s = .next (settle t)
        ∧ claimsCleared ({ s with
            clock := { s.clock with phase := .finished, remaining := 0, mark := .none, graceTimer := none },
            link := { s.link with beaconDue := true } }.setFlag .matchOver) t))
  ∧ (∀ s : State, s.ready →
    (s.clock.phase ≠ .staging → s.clock.phase ≠ .finished →
      exec .closeMatch s = .next (replied 0x36 .badState [] (receiverDone s)))
    ∧ (s.clock.phase = .staging ∨ s.clock.phase = .finished →
      ∃ t, exec .closeMatch s = .next (replied 0x36 .ok [] (settle t))
        ∧ t.clock = { s.clock with phase := .idle, index := 0, remaining := 0, mark := .none, graceTimer := none }
        ∧ t.score.alliances = s.score.alliances ∧ t.link = { s.link with beaconDue := true } ∧ t.stop = s.stop
        ∧ t.table = s.table ∧ t.settings = s.settings ∧ t.attention = s.attention
        ∧ ∀ n, 1 ≤ n → n ≤ 24 →
            (t.slot n).kit = (s.slot n).kit ∧ (t.slot n).alliance = (s.slot n).alliance
              ∧ (t.slot n).team = (s.slot n).team ∧ (t.slot n).permitted = (s.slot n).permitted
              ∧ (t.slot n).attempts = (s.slot n).attempts
              ∧ if (s.slot n).state = .empty then (t.slot n).state = .empty
                else (t.slot n).state = .expected ∧ (t.slot n).disable = none
                  ∧ ((s.slot n).state ≠ .expected → (t.slot n).tier = none ∧ (t.slot n).cap = none
                      ∧ (t.slot n).wasLost = false ∧ (t.slot n).confirmTimer = none
                      ∧ (t.slot n).silenceTimer = none)))

-- The Stop Unit

/-- On a CLEAR field FIELD STOP, an assertion of STOP_IN and the detection of a break each enter the field stop with
that cause alone latched; every queued actuation ends ABORTED, and a withdrawal pending behind one takes effect (R15,
R56, R57, R108, R145 to R148, R178). -/
def Obligations.EachCauseEntersTheFieldStop : Prop :=
  ∀ s : State, s.stop.stopped = false →
    (s.ready → ∃ t, exec .fieldStop s = .next (replied 0x40 .ok [] (settle t))
      ∧ stopEntered { stopped := true, pin := false, brk := false, console := true, reset := false,
                      stopIn := s.stop.stopIn } (receiverDone s) t)
    ∧ (s.awake → s.stop.stopIn = false → ∃ t, exec .stopInPressed s = .next (settle t)
      ∧ stopEntered { stopped := true, pin := true, brk := false, console := false, reset := false, stopIn := true } s t)
    ∧ (s.awake → s.console.breakInProgress = false → ∃ t, exec .breakDetected s = .next (settle t)
      ∧ stopEntered { stopped := true, pin := false, brk := true, console := false, reset := false,
                      stopIn := s.stop.stopIn }
          { s with console := { s.console with receiver := .seeking, gapTimer := none, breakInProgress := true } } t)

/-- On a STOPPED field a cause joins the latched set and sets FIELD_STOP, and nothing else changes; a STOP_IN that is
asserted already and a break that lasts do not arrive again; letting STOP_IN go and the end of a break latch and set
nothing (R144 to R146, R178). -/
def Obligations.CausesOnAStoppedFieldOnlyLatch : Prop :=
  ∀ s : State,
    (s.ready → s.stop.stopped = true → exec .fieldStop s
      = .next (replied 0x40 .ok [] (settle ({ receiverDone s with stop := { s.stop with console := true } }.setFlag .fieldStop))))
    ∧ (s.awake → s.stop.stopped = true → s.stop.stopIn = false → exec .stopInPressed s
      = .next (settle ({ s with stop := { s.stop with pin := true, stopIn := true } }.setFlag .fieldStop)))
    ∧ (s.awake → s.stop.stopped = true → s.console.breakInProgress = false → exec .breakDetected s
      = .next (settle ({ s with stop := { s.stop with brk := true },
                                console := { s.console with receiver := .seeking, gapTimer := none,
                                                            breakInProgress := true } }.setFlag .fieldStop)))
    ∧ (s.stop.stopIn = true → exec .stopInPressed s = .next s)
    ∧ (s.console.breakInProgress = true → exec .breakDetected s = .next s)
    ∧ exec .stopInLetGo s = .next { s with stop := { s.stop with stopIn := false } }
    ∧ (s.awake → exec .breakEnd s = .next { s with console := { s.console with breakInProgress := false } })

/-- RELEASE STOP in every phase: NOT_STOPPED on a CLEAR field, STOP_HELD while STOP_IN is asserted or a break is in
progress, and else the release of every latched cause, with STOP_OUT negated, STOP_CLEAR set, a beacon due, and
nothing else changed (R149). -/
def Obligations.ReleaseStopClearsAllCauses : Prop :=
  ∀ s : State, s.ready →
    (s.stop.stopped = false → exec .releaseStop s = .next (replied 0x41 .notStopped [] (receiverDone s)))
    ∧ (s.stop.stopped = true → s.stop.stopIn = true ∨ s.console.breakInProgress = true →
        exec .releaseStop s = .next (replied 0x41 .stopHeld [] (receiverDone s)))
    ∧ (s.stop.stopped = true → s.stop.stopIn = false → s.console.breakInProgress = false →
        exec .releaseStop s = .next (replied 0x41 .ok [] (settle ({ receiverDone s with
          stop := { stopped := false, pin := false, brk := false, console := false, reset := false, stopIn := false },
          link := { s.link with beaconDue := true } }.setFlag .stopClear)))
        ∧ ∀ t, exec .releaseStop s = .next t → t.stopOut = false)

-- The Element Table

/-- The checks of DEFINE ELEMENT: BAD_STATE outside IDLE; BAD_ARG for an element number or a kind out of range, a side
that is no alliance of the field or not NEUTRAL for a TOWER, and, by R180 (log entry 11), a default value that is
neither yes nor no; BUSY while an actuation of the element is outstanding (R47, R48). An accepted DEFINE ELEMENT
replaces the whole definition by the fields brought into range, sets the run-time part afresh with the new default
flags, the element's score state with the full quotas, and its light by its new display; kind NONE undefines it and
clears its light. No other element's definition, run-time part or tallies change, nor any claim, slot or alliance
record (R45, R48, R49, R119, R129). -/
def Obligations.DefineElementChecksAndWrites : Prop :=
  (∀ (s : State) (x : Byte) (d : DefineFields), s.ready →
    (s.clock.phase ≠ .idle → exec (.defineElement x d) s = .next (replied 0x10 .badState [] (receiverDone s)))
    ∧ (s.clock.phase = .idle → (x = 0 ∨ 32 < x.toNat ∨ 4 < d.kind.toNat) →
        exec (.defineElement x d) s = .next (replied 0x10 .badArg [] (receiverDone s)))
    ∧ (s.clock.phase = .idle → d.kind ≠ 0 →
        (4 < d.side.toNat ∨ s.settings.allianceCount < d.side.toNat ∨ (d.kind = 4 ∧ d.side ≠ 0)
          ∨ 1 < d.defaultRefusing.toNat ∨ 1 < d.defaultSilent.toNat) →
        exec (.defineElement x d) s = .next (replied 0x10 .badArg [] (receiverDone s)))
    ∧ (s.clock.phase = .idle → 1 ≤ x.toNat → x.toNat ≤ 32 → (s.act x.toNat).state ≠ .none →
        (d.kind = 0 ∨ (d.kind.toNat ≤ 4 ∧ d.side.toNat ≤ 4 ∧ d.side.toNat ≤ s.settings.allianceCount
          ∧ (d.kind = 4 → d.side = 0) ∧ d.defaultRefusing.toNat ≤ 1 ∧ d.defaultSilent.toNat ≤ 1)) →
        exec (.defineElement x d) s = .next (replied 0x10 .busy [] (receiverDone s))))
  ∧ (∀ (s : State) (x : Byte) (d : DefineFields) (k : ElementKind), s.ready → s.clock.phase = .idle →
    1 ≤ x.toNat → x.toNat ≤ 32 → (s.act x.toNat).state = .none → elementKindOf d.kind = some k →
    (k ≠ .none → d.side.toNat ≤ 4 ∧ d.side.toNat ≤ s.settings.allianceCount ∧ (k = .tower → d.side = 0)
      ∧ d.defaultRefusing.toNat ≤ 1 ∧ d.defaultSilent.toNat ≤ 1) →
    ∃ t, exec (.defineElement x d) s
        = .next (replied 0x10
            (if k = .none ∨ (8 ≤ d.controlBonus.toNat ∧ d.controlBonus.toNat ≤ 32 ∧ 1 ≤ d.minTier.toNat
                ∧ d.minTier.toNat ≤ 4 ∧ d.holdLimit.toNat ≤ 1200 ∧ d.cooldown.toNat ≤ 300 ∧ 1 ≤ d.timeout.toNat
                ∧ d.timeout.toNat ≤ 600) then .ok else .okAdjusted) [] (settle t))
      ∧ (t.elemDef x.toNat = if k = .none then undefinedElement else
          { kind := k, side := if d.side = 0 then none else some d.side.toNat, baseValue := d.baseValue.toNat,
            controlBonus := max 8 (min 32 d.controlBonus.toNat), minTier := max 1 (min 4 d.minTier.toNat),
            holdLimit := min 1200 d.holdLimit.toNat, cooldown := min 300 d.cooldown.toNat,
            quota := if k = .dispenser then d.quota.toNat else 0, timeout := max 1 (min 600 d.timeout.toNat),
            policy := { hold := d.policy.getLsbD 0, contest := d.policy.getLsbD 1, pending := d.policy.getLsbD 2,
                        score := d.policy.getLsbD 3, noSteady := d.policy.getLsbD 4 },
            defaultRefusing := decide (d.defaultRefusing = 1), defaultSilent := decide (d.defaultSilent = 1) })
      ∧ t.run x.toNat = { refusing := (t.elemDef x.toNat).defaultRefusing, silent := (t.elemDef x.toNat).defaultSilent,
                          withdrawn := false, withdrawPending := false, presence := .unknown, missCount := 0,
                          jammed := false, faultTally := 0, lastFault := none, lastOutcome := none }
      ∧ t.elemScore x.toNat = { s.elemScore x.toNat with
          baseline := none, accumulator := 0,
          quotas := Vector.replicate 4 (if k = .dispenser then d.quota.toNat else 0) }
      ∧ (if k = .none then t.light x.toNat = resetLight else (t.light x.toNat).computed = t.display x.toNat)
      ∧ (∀ e, e ≠ x.toNat → t.elemDef e = s.elemDef e ∧ t.run e = s.run e ∧ t.elemScore e = s.elemScore e)
      ∧ t.claims = s.claims ∧ t.roster = s.roster ∧ t.score.alliances = s.score.alliances ∧ t.clock = s.clock
      ∧ t.settings = s.settings ∧ t.store = s.store ∧ t.table.capture = s.table.capture)

/-- SET ELEMENT MODE in every phase and stop state: the two live flags take the two values and nothing else changes;
the element's defaults, withdrawal and claims are not touched. A bad element number or value is BAD_ARG, an element of
kind NONE BAD_STATE (R53). -/
def Obligations.SetElementModeWritesTheLiveFlags : Prop :=
  ∀ (s : State) (x refusing silent : Byte), s.ready →
    exec (.setElementMode x refusing silent) s = .next (
      if x = 0 ∨ 32 < x.toNat ∨ 1 < refusing.toNat ∨ 1 < silent.toNat then replied 0x12 .badArg [] (receiverDone s)
      else if s.defined x.toNat = false then replied 0x12 .badState [] (receiverDone s)
      else replied 0x12 .ok [] ((receiverDone s).setRun x.toNat
        { s.run x.toNat with refusing := decide (refusing = 1), silent := decide (silent = 1) }))

/-- WITHDRAW: at once with no actuation outstanding, which empties the element's claim state without handover, clears
its accumulator and darkens its light; behind an outstanding actuation it is only pending; a second WITHDRAW changes
nothing (R55, R56, R90). No other element's claim state changes. -/
def Obligations.WithdrawTakesEffectOrWaits : Prop :=
  ∀ (s : State) (x : Byte), s.ready →
    (x = 0 ∨ 32 < x.toNat → exec (.withdraw x) s = .next (replied 0x13 .badArg [] (receiverDone s)))
    ∧ (1 ≤ x.toNat → x.toNat ≤ 32 →
      (s.defined x.toNat = false → exec (.withdraw x) s = .next (replied 0x13 .badState [] (receiverDone s)))
      ∧ (s.defined x.toNat = true → (s.run x.toNat).withdrawn = true →
          exec (.withdraw x) s = .next (replied 0x13 .ok [] (receiverDone s)))
      ∧ (s.defined x.toNat = true → (s.run x.toNat).withdrawn = false → (s.run x.toNat).withdrawPending = true →
          exec (.withdraw x) s = .next (replied 0x13 .accepted [] (receiverDone s)))
      ∧ (s.defined x.toNat = true → (s.run x.toNat).withdrawn = false → (s.run x.toNat).withdrawPending = false →
          ∃ t, exec (.withdraw x) s = .next (replied 0x13
                (if (s.act x.toNat).state = .none then .ok else .accepted) [] (settle t))
            ∧ (if (s.act x.toNat).state = .none then
                t.run x.toNat = { s.run x.toNat with withdrawn := true }
                  ∧ t.claim x.toNat = { holder := none, holdTimer := none, waiters := [], barred := none }
                  ∧ t.elemScore x.toNat = { s.elemScore x.toNat with accumulator := 0 }
                  ∧ (t.light x.toNat).computed = .off ∧ t.flagSet .withdrawn = true
              else t.run x.toNat = { s.run x.toNat with withdrawPending := true } ∧ t.claims = s.claims
                  ∧ t.score = s.score ∧ t.attention = s.attention ∧ t.roster = s.roster)
            ∧ (∀ e, e ≠ x.toNat → t.claim e = s.claim e ∧ t.run e = s.run e ∧ t.elemScore e = s.elemScore e)
            ∧ (∀ n, (t.slot n).state = (s.slot n).state) ∧ t.score.alliances = s.score.alliances
            ∧ t.bus.acts = s.bus.acts ∧ t.clock = s.clock ∧ t.link = s.link))

/-- RESTORE ELEMENT cancels a pending withdrawal or ends one in force, and recomputes the light; its claim state and
its actuation are as they were, and no flag is set (R58). CLEAR FAULTS of element 0 empties the fault capture, and of
an element clears its jammed flag, tally and last fault and leaves the capture (R64). -/
def Obligations.RestoreElementAndClearFaults : Prop :=
  ∀ (s : State) (x : Byte), s.ready →
    (x = 0 ∨ 32 < x.toNat → exec (.restoreElement x) s = .next (replied 0x14 .badArg [] (receiverDone s)))
    ∧ (1 ≤ x.toNat → x.toNat ≤ 32 →
      (s.defined x.toNat = false → exec (.restoreElement x) s = .next (replied 0x14 .badState [] (receiverDone s)))
      ∧ (s.defined x.toNat = true → (s.run x.toNat).withdrawPending = false → (s.run x.toNat).withdrawn = false →
          exec (.restoreElement x) s = .next (replied 0x14 .ok [] (receiverDone s)))
      ∧ (s.defined x.toNat = true → (s.run x.toNat).withdrawPending ≠ (s.run x.toNat).withdrawn →
          ∃ t, exec (.restoreElement x) s = .next (replied 0x14 .ok [] (settle t))
            ∧ t.run x.toNat = { s.run x.toNat with withdrawn := false, withdrawPending := false }
            ∧ (t.light x.toNat).computed = t.display x.toNat
            ∧ (∀ e, e ≠ x.toNat → t.run e = s.run e) ∧ t.claims = s.claims ∧ t.score = s.score
            ∧ t.bus.acts = s.bus.acts ∧ t.attention = s.attention ∧ t.roster = s.roster))
    ∧ (32 < x.toNat → exec (.clearFaults x) s = .next (replied 0x16 .badArg [] (receiverDone s)))
    ∧ exec (.clearFaults 0) s
      = .next (replied 0x16 .ok [] { receiverDone s with table := { s.table with capture := none, repeated := false } })
    ∧ (1 ≤ x.toNat → x.toNat ≤ 32 → s.defined x.toNat = false →
        exec (.clearFaults x) s = .next (replied 0x16 .ok [] (receiverDone s)))
    ∧ (s.defined x.toNat = true →
        ∃ t, exec (.clearFaults x) s = .next (replied 0x16 .ok [] (settle t))
          ∧ t.run x.toNat = { s.run x.toNat with jammed := false, faultTally := 0, lastFault := none }
          ∧ (∀ e, e ≠ x.toNat → t.run e = s.run e)
          ∧ t.table.capture = s.table.capture ∧ t.table.repeated = s.table.repeated ∧ t.claims = s.claims
          ∧ t.score = s.score ∧ t.attention = s.attention)

-- The Robot Roster

/-- REGISTER in IDLE or STAGING of a free slot with an alliance of the field and a kit id that no slot carries makes
the slot EXPECTED with every tier permitted, starts the restore timer while RESTORE ENABLE is on, and takes the kit id
off the stranger list; a team number of 0 becomes 1. The refusals come in their order and change nothing (R20, R22).
UNREGISTER in IDLE or STAGING empties the slot's record and its message box, its claims dropped first; it enters no
kit id in the stranger list. The refusals change nothing (R21, R23, R87). -/
def Obligations.RegisterAndUnregisterASlot : Prop :=
  (∀ (s : State) (x : Byte) (kit : Word) (a : Byte) (team : Half), s.ready →
    (s.clock.phase ≠ .idle → s.clock.phase ≠ .staging →
      exec (.register x kit a team) s = .next (replied 0x20 .badState [] (receiverDone s)))
    ∧ (s.clock.phase = .idle ∨ s.clock.phase = .staging →
      (x = 0 ∨ 24 < x.toNat ∨ a = 0 ∨ s.settings.allianceCount < a.toNat →
        exec (.register x kit a team) s = .next (replied 0x20 .badArg [] (receiverDone s)))
      ∧ (1 ≤ x.toNat → x.toNat ≤ 24 → 1 ≤ a.toNat → a.toNat ≤ s.settings.allianceCount →
        (s.slot x.toNat).state ≠ .empty →
        exec (.register x kit a team) s = .next (replied 0x20 .badState [] (receiverDone s)))
      ∧ (1 ≤ x.toNat → x.toNat ≤ 24 → 1 ≤ a.toNat → a.toNat ≤ s.settings.allianceCount →
        (s.slot x.toNat).state = .empty →
        ((∃ n, 1 ≤ n ∧ n ≤ 24 ∧ (s.slot n).state ≠ .empty ∧ (s.slot n).kit = kit) →
          exec (.register x kit a team) s = .next (replied 0x20 .badArg [] (receiverDone s)))
        ∧ ((∀ n, 1 ≤ n → n ≤ 24 → (s.slot n).state ≠ .empty → (s.slot n).kit ≠ kit) →
          ∃ t, exec (.register x kit a team) s = .next (replied 0x20 (if team = 0 then .okAdjusted else .ok) [] t)
            ∧ t.slot x.toNat =
              { state := .expected, kit := kit, alliance := a.toNat, team := max 1 team.toNat,
                permitted := 0xF, lastAd := none, tier := none, cap := none, attempts := 0, wasLost := false,
                disable := none, holdCount := 0, waitCount := 0, confirmTimer := none, silenceTimer := none,
                restoreTimer := if s.settings.restoreEnable then some (s.settings.restoreInterval * 1000000) else none }
            ∧ (∀ n, n ≠ x.toNat → t.slot n = s.slot n)
            ∧ t.roster.strangers = s.roster.strangers.erase kit ∧ { t with roster := s.roster } = receiverDone s))))
  ∧ (∀ (s : State) (x : Byte), s.ready →
    (s.clock.phase ≠ .idle → s.clock.phase ≠ .staging →
      exec (.unregister x) s = .next (replied 0x21 .badState [] (receiverDone s)))
    ∧ (s.clock.phase = .idle ∨ s.clock.phase = .staging →
      (x = 0 ∨ 24 < x.toNat → exec (.unregister x) s = .next (replied 0x21 .badArg [] (receiverDone s)))
      ∧ (1 ≤ x.toNat → x.toNat ≤ 24 → (s.slot x.toNat).state = .empty →
          exec (.unregister x) s = .next (replied 0x21 .badState [] (receiverDone s)))
      ∧ (1 ≤ x.toNat → x.toNat ≤ 24 → (s.slot x.toNat).state ≠ .empty →
          ∃ t, exec (.unregister x) s = .next (replied 0x21 .ok [] (settle t))
            ∧ t.slot x.toNat = vacantSlot ∧ t.box x.toNat = none ∧ (∀ n, n ≠ x.toNat → t.box n = s.box n)
            ∧ (∀ n, n ≠ x.toNat → (t.slot n).state = (s.slot n).state ∧ (t.slot n).kit = (s.slot n).kit)
            ∧ (lawfulClaims s → holdsNothing x.toNat t)
            ∧ t.roster.strangers = s.roster.strangers ∧ t.clock = s.clock ∧ t.score.alliances = s.score.alliances
            ∧ t.attention = s.attention ∧ t.table = s.table)))

/-- DISABLE ROBOT gives the slot a disable, PERMANENT for a duration of 0 and else timed, of at most 6000; an ADMITTED
slot drops its claims and becomes DISABLED with its silence timer running on, and in another state only the disable
changes. EMPTY and EXPECTED slots are refused BAD_STATE (R21, R38, R87). ENABLE ROBOT in every phase ends the disable
of a registered slot, and a DISABLED slot becomes ADMITTED; the expiry of a timed disable does the same; nothing else
changes (R39, R40). -/
def Obligations.DisableAndEnableARobot : Prop :=
  (∀ (s : State) (x : Byte) (duration : Half) (d : Disable), s.ready →
    d = (if duration = 0 then .permanent else .timed (min 6000 duration.toNat * 100000)) →
    (x = 0 ∨ 24 < x.toNat → exec (.disableRobot x duration) s = .next (replied 0x24 .badArg [] (receiverDone s)))
    ∧ (1 ≤ x.toNat → x.toNat ≤ 24 → (s.slot x.toNat).state = .empty ∨ (s.slot x.toNat).state = .expected →
        exec (.disableRobot x duration) s = .next (replied 0x24 .badState [] (receiverDone s)))
    ∧ (1 ≤ x.toNat → x.toNat ≤ 24 →
        (s.slot x.toNat).state = .offered ∨ (s.slot x.toNat).state = .disabled ∨ (s.slot x.toNat).state = .lost →
        exec (.disableRobot x duration) s
          = .next (replied 0x24 (if 6000 < duration.toNat then .okAdjusted else .ok) []
              (settle ((receiverDone s).setSlot x.toNat { s.slot x.toNat with disable := some d }))))
    ∧ (1 ≤ x.toNat → x.toNat ≤ 24 → (s.slot x.toNat).state = .admitted →
        ∃ t, exec (.disableRobot x duration) s
            = .next (replied 0x24 (if 6000 < duration.toNat then .okAdjusted else .ok) [] (settle t))
          ∧ (t.slot x.toNat).state = .disabled ∧ (t.slot x.toNat).disable = some d
          ∧ (t.slot x.toNat).silenceTimer = (s.slot x.toNat).silenceTimer
          ∧ (t.slot x.toNat).tier = (s.slot x.toNat).tier ∧ (lawfulClaims s → holdsNothing x.toNat t)
          ∧ (∀ n, n ≠ x.toNat → (t.slot n).state = (s.slot n).state)
          ∧ t.score.alliances = s.score.alliances ∧ t.attention = s.attention ∧ t.bus.acts = s.bus.acts))
  ∧ (∀ (s : State) (x : Byte),
    (s.ready → exec (.enableRobot x) s = .next (
      if x = 0 ∨ 24 < x.toNat then replied 0x25 .badArg [] (receiverDone s)
      else if (s.slot x.toNat).state = .empty then replied 0x25 .badState [] (receiverDone s)
      else replied 0x25 .ok [] ((receiverDone s).setSlot x.toNat { s.slot x.toNat with
        disable := none,
        state := if (s.slot x.toNat).state = .disabled then .admitted else (s.slot x.toNat).state })))
    ∧ ∀ n left, s.awake → s.clock.phase = .running → (s.slot n).disable = some (.timed left) →
        exec (.disableTimerExpiry n) s = .next (s.setSlot n { s.slot n with
          disable := none, state := if (s.slot n).state = .disabled then .admitted else (s.slot n).state }))

/-- RESTORE TIERS in every phase: a slot out of range is refused BAD_ARG and an EMPTY one BAD_STATE; else every tier
is permitted, the attempt count is 0 and the reply is OK, the state, tier, cap and timers unchanged (R34). -/
def Obligations.RestoreTiersPermitsEveryTier : Prop :=
  ∀ (s : State) (x : Byte), s.ready →
    exec (.restoreTiers x) s = .next (
      if x = 0 ∨ 24 < x.toNat then replied 0x26 .badArg [] (receiverDone s)
      else if (s.slot x.toNat).state = .empty then replied 0x26 .badState [] (receiverDone s)
      else replied 0x26 .ok [] ((receiverDone s).setSlot x.toNat
        { s.slot x.toNat with permitted := 0xF, attempts := 0 }))

/-- HELLO from a kit that is not registered, or in IDLE, GRACE and FINISHED: in the latter it is answered NOT_NOW and
no stranger is noted; else the kit id comes to the front of the stranger list, which keeps 4, STRANGER is set and the
answer is UNKNOWN_KIT. The answer carries the kit's tag and the slot the kit id is registered to, or 0. A HELLO whose
tag is not its kit id's is discarded without an answer (R25, R26, R155, R158). -/
def Obligations.HelloFromStrangersAndClosedPhases : Prop :=
  ∀ (s u : State) (x tiers : Byte) (tag : Half) (kit : Word), s.awake →
    takenFrom { slot := x.toNat, tag := tag, body := .hello kit tiers } s u →
    (tag ≠ kitTag kit → exec (.hello x tag kit tiers) s = .next u)
    ∧ (tag = kitTag kit →
      s.clock.phase = .idle ∨ s.clock.phase = .grace ∨ s.clock.phase = .finished →
      exec (.hello x tag kit tiers) s = .next (settle (queueReply
        { slot := (s.slotOfKit kit).getD 0, tag := tag, body := .answer 1 0 .notNow 0 } u)))
    ∧ (tag = kitTag kit →
      s.clock.phase = .staging ∨ s.clock.phase = .running ∨ s.clock.phase = .held →
      (∀ n, 1 ≤ n → n ≤ 24 → (s.slot n).state ≠ .empty → (s.slot n).kit ≠ kit) →
      exec (.hello x tag kit tiers) s = .next (settle (queueReply
        { slot := 0, tag := tag, body := .answer 1 0 .unknownKit 0 }
        ({ u with roster := { s.roster with strangers := (kit :: s.roster.strangers.erase kit).take 4 } }.setFlag
          .stranger))))

/-- HELLO of a registered kit in STAGING, RUNNING and HELD. From EXPECTED or LOST the highest tier that is advertised,
permitted and allowed is offered with its live cap, the confirm timer starts and the restore timer stops, and from
LOST the was-lost mark is set; with no such tier the answer is NO_COMMON_TIER. In OFFERED the same offer is repeated
and the confirm timer starts afresh (R26 to R29, R158). A HELLO from an ADMITTED or DISABLED slot is a rebooted robot:
its claims are dropped and it is offered a tier afresh, or returned to EXPECTED where no tier is common (R21, R30,
R87). -/
def Obligations.HelloIsOfferedTheHighestCommonTierOrReboots : Prop :=
  (∀ (s u : State) (x tiers : Byte) (kit : Word) (n : Nat) (m : TierMask), s.awake →
    takenFrom { slot := x.toNat, tag := kitTag kit, body := .hello kit tiers } s u → s.slotOfKit kit = some n →
    s.clock.phase = .staging ∨ s.clock.phase = .running ∨ s.clock.phase = .held →
    m = tiers.setWidth 4 &&& (s.slot n).permitted &&& s.settings.allowedTiers →
    (∀ t, (s.slot n).state = .expected ∨ (s.slot n).state = .lost → 1 ≤ t → t ≤ 4 → m.getLsbD (t - 1) = true →
      (∀ i, t ≤ i → m.getLsbD i = false) →
      exec (.hello x (kitTag kit) kit tiers) s = .next (settle (queueReply
        { slot := n, tag := kitTag kit, body := .offer kit n (s.slot n).alliance t (s.tierCap t) }
        (u.setSlot n { s.slot n with
          state := .offered, lastAd := some (tiers.setWidth 4), tier := some t, cap := some (s.tierCap t),
          wasLost := decide ((s.slot n).state = .lost), silenceTimer := none, restoreTimer := none,
          confirmTimer := some (s.settings.confirmWindow * 1000) }))))
    ∧ ((s.slot n).state = .expected ∨ (s.slot n).state = .lost → m = 0 →
      exec (.hello x (kitTag kit) kit tiers) s = .next (settle (queueReply
        { slot := n, tag := kitTag kit, body := .answer 1 0 .noCommonTier 0 }
        (u.setSlot n { s.slot n with
          lastAd := some (tiers.setWidth 4),
          restoreTimer := if s.settings.restoreEnable then some (s.settings.restoreInterval * 1000000)
            else (s.slot n).restoreTimer }))))
    ∧ (∀ t c, (s.slot n).state = .offered → (s.slot n).tier = some t → (s.slot n).cap = some c →
      exec (.hello x (kitTag kit) kit tiers) s = .next (settle (queueReply
        { slot := n, tag := kitTag kit, body := .offer kit n (s.slot n).alliance t c }
        (u.setSlot n { s.slot n with confirmTimer := some (s.settings.confirmWindow * 1000) })))))
  ∧ (∀ (s u : State) (x tiers : Byte) (kit : Word) (n : Nat) (m : TierMask), s.awake →
    takenFrom { slot := x.toNat, tag := kitTag kit, body := .hello kit tiers } s u → s.slotOfKit kit = some n →
    s.clock.phase = .staging ∨ s.clock.phase = .running ∨ s.clock.phase = .held →
    (s.slot n).state = .admitted ∨ (s.slot n).state = .disabled →
    m = tiers.setWidth 4 &&& (s.slot n).permitted &&& s.settings.allowedTiers →
    ∃ v f, exec (.hello x (kitTag kit) kit tiers) s = .next (settle (queueReply f v))
      ∧ f.slot = n ∧ f.tag = kitTag kit ∧ (lawfulClaims s → holdsNothing n v)
      ∧ (v.slot n).disable = (s.slot n).disable ∧ (v.slot n).lastAd = some (tiers.setWidth 4)
      ∧ (v.slot n).permitted = (s.slot n).permitted ∧ (v.slot n).silenceTimer = none ∧ (v.slot n).wasLost = false
      ∧ (if m = 0 then (v.slot n).state = .expected ∧ (v.slot n).tier = none
            ∧ f.body = .answer 1 0 .noCommonTier 0
          else (v.slot n).state = .offered ∧ ∃ t, 1 ≤ t ∧ t ≤ 4 ∧ m.getLsbD (t - 1) = true
            ∧ (∀ i, t ≤ i → m.getLsbD i = false) ∧ (v.slot n).tier = some t
            ∧ f.body = .offer kit n (s.slot n).alliance t (s.tierCap t))
      ∧ (∀ k, k ≠ n → (v.slot k).state = (s.slot k).state) ∧ v.score.alliances = s.score.alliances)

/-- CONFIRM of the offered tier admits the slot, or enters it DISABLED behind a disable, with the silence timer
started, the attempts cleared and ADMITTED set; another tier is answered TIER_MISMATCH and a slot that is not OFFERED
NOT_OFFERED (R31, R35). -/
def Obligations.ConfirmAdmitsTheSlot : Prop :=
  ∀ (s u : State) (x tier : Byte) (tag : Half), s.awake →
    takenFrom { slot := x.toNat, tag := tag, body := .confirm tier.toNat } s u → acceptedFrom x.toNat tag s →
    ((s.slot x.toNat).state = .offered → (s.slot x.toNat).tier = some tier.toNat →
      exec (.confirm x tag tier) s = .next (settle (queueReply
        { slot := x.toNat, tag := tag, body := .answer 2 0 .confirmed 0 }
        ((u.setSlot x.toNat { s.slot x.toNat with
          state := if (s.slot x.toNat).disable = none then .admitted else .disabled,
          confirmTimer := none, attempts := 0, wasLost := false,
          silenceTimer := some (s.settings.silenceLimit * 1000) }).setFlag .admitted))))
    ∧ ((s.slot x.toNat).state = .offered → (s.slot x.toNat).tier ≠ some tier.toNat →
      exec (.confirm x tag tier) s = .next (settle (queueReply
        { slot := x.toNat, tag := tag, body := .answer 2 0 .tierMismatch 0 } u)))
    ∧ ((s.slot x.toNat).state ≠ .offered →
      exec (.confirm x tag tier) s = .next (settle (queueReply
        { slot := x.toNat, tag := tag, body := .answer 2 0 .notOffered 0 } (restartSilence x.toNat u))))

/-- BYE from ADMITTED, DISABLED or OFFERED is answered LEFT: the claims are dropped and the slot returns to EXPECTED
with its disable, permitted tiers and attempts kept and its restore timer started while RESTORE ENABLE is on; from
EXPECTED or LOST it is answered NOT_ADMITTED and changes nothing (R20, R21, R36, R87). PRESENCE is never answered: it
restarts the silence timer of an ADMITTED or DISABLED slot and has no other effect, and none in another state (R35,
R37). A frame of any kind but HELLO that carries slot 0, an EMPTY slot or another kit's tag is discarded: it leaves
the uplink queue and changes nothing else, no silence timer either (R155, steps 2 to 4). -/
def Obligations.ByeAndPresence : Prop :=
  (∀ (s u : State) (x : Byte) (tag : Half), s.awake →
    takenFrom { slot := x.toNat, tag := tag, body := .bye } s u → acceptedFrom x.toNat tag s →
    ((s.slot x.toNat).state = .expected ∨ (s.slot x.toNat).state = .lost →
      exec (.bye x tag) s = .next (settle (queueReply
        { slot := x.toNat, tag := tag, body := .answer 4 0 .notAdmitted 0 } u)))
    ∧ ((s.slot x.toNat).state = .admitted ∨ (s.slot x.toNat).state = .disabled ∨ (s.slot x.toNat).state = .offered →
      ∃ v, exec (.bye x tag) s = .next (settle (queueReply
          { slot := x.toNat, tag := tag, body := .answer 4 0 .left 0 } v))
        ∧ (v.slot x.toNat).state = .expected ∧ (v.slot x.toNat).tier = none ∧ (v.slot x.toNat).cap = none
        ∧ (v.slot x.toNat).wasLost = false ∧ (v.slot x.toNat).confirmTimer = none
        ∧ (v.slot x.toNat).silenceTimer = none ∧ (v.slot x.toNat).disable = (s.slot x.toNat).disable
        ∧ (v.slot x.toNat).permitted = (s.slot x.toNat).permitted
        ∧ (v.slot x.toNat).attempts = (s.slot x.toNat).attempts ∧ (lawfulClaims s → holdsNothing x.toNat v)
        ∧ (v.slot x.toNat).restoreTimer = (if s.settings.restoreEnable then some (s.settings.restoreInterval * 1000000)
            else (s.slot x.toNat).restoreTimer)
        ∧ (∀ k, k ≠ x.toNat → (v.slot k).state = (s.slot k).state) ∧ v.attention = s.attention))
  ∧ (∀ (s u : State) (x : Byte) (tag : Half), s.awake → takenFrom { slot := x.toNat, tag := tag, body := .presence } s u →
    (acceptedFrom x.toNat tag s → exec (.presence x tag) s = .next (settle (
      if (s.slot x.toNat).state = .admitted ∨ (s.slot x.toNat).state = .disabled then
        u.setSlot x.toNat { s.slot x.toNat with silenceTimer := some (s.settings.silenceLimit * 1000) }
      else u)))
    ∧ (¬acceptedFrom x.toNat tag s → exec (.presence x tag) s = .next u))
  ∧ (∀ (s u : State) (x y z : Byte) (tag : Half) (bytes : List Byte) (i : Instr) (b : UplinkBody), s.awake →
    (i, b) ∈ [(.confirm x tag y, .confirm y.toNat), (.presence x tag, .presence), (.bye x tag, .bye),
      (.claim x tag y, .claim y.toNat), (.release x tag y, .release y.toNat),
      (.robotActuate x tag y z, .actuate y.toNat z.toNat), (.robotMailPut x tag bytes, .mailPut bytes),
      (.robotMailRead x tag y, .mailRead y.toNat)] →
    takenFrom { slot := x.toNat, tag := tag, body := b } s u → ¬acceptedFrom x.toNat tag s → exec i s = .next u)

/-- The lapse of an unconfirmed offer, the silence of a slot and the end of a restore timer, each for every slot. The
lapse counts an attempt, up to 15, downshifts where it is enabled, the threshold is reached and a lower tier is left
in the effective advertisement, and returns the slot to LOST or EXPECTED by its was-lost mark. Silence drops the
claims and makes the slot LOST with LOST set. Each of the two starts the restore timer while RESTORE ENABLE is on.
That timer's end permits every tier again where RESTORE ENABLE is on at that moment (also where it was off meanwhile:
the model's choice, log entry 14; R20, R21, R32, R33, R35, R87). -/
def Obligations.SlotTimersRunOut : Prop :=
  ∀ (s : State) (n t a : Nat) (m : TierMask), s.awake →
    ((s.slot n).state = .offered → (s.slot n).confirmTimer.isSome = true → (s.slot n).tier = some t →
      a = min 15 ((s.slot n).attempts + 1) →
      m = (s.slot n).lastAd.getD 0 &&& (s.slot n).permitted &&& s.settings.allowedTiers →
      ∃ v, exec (.confirmTimerExpiry n) s = .next v
        ∧ (v.slot n).state = (if (s.slot n).wasLost then .lost else .expected)
        ∧ (v.slot n).tier = none ∧ (v.slot n).cap = none ∧ (v.slot n).wasLost = false
        ∧ (v.slot n).confirmTimer = none ∧ (v.slot n).disable = (s.slot n).disable
        ∧ (v.slot n).lastAd = (s.slot n).lastAd
        ∧ (v.slot n).restoreTimer = (if s.settings.restoreEnable then some (s.settings.restoreInterval * 1000000)
            else (s.slot n).restoreTimer)
        ∧ ((s.settings.downshiftEnable = true ∧ s.settings.downshiftThreshold ≤ a
            ∧ ∃ k, 1 ≤ k ∧ k < t ∧ k ≤ 4 ∧ m.getLsbD (k - 1) = true) →
          (v.slot n).attempts = 0 ∧ v.flagSet .downshift = true
            ∧ ∀ i, (v.slot n).permitted.getLsbD i = ((s.slot n).permitted.getLsbD i && i != t - 1))
        ∧ (¬(s.settings.downshiftEnable = true ∧ s.settings.downshiftThreshold ≤ a
            ∧ ∃ k, 1 ≤ k ∧ k < t ∧ k ≤ 4 ∧ m.getLsbD (k - 1) = true) →
          (v.slot n).attempts = a ∧ v.attention = s.attention ∧ (v.slot n).permitted = (s.slot n).permitted)
        ∧ (∀ k, k ≠ n → v.slot k = s.slot k)
        ∧ { v with roster := { v.roster with slots := s.roster.slots }, attention := s.attention } = s)
    ∧ ((s.slot n).state = .admitted ∨ (s.slot n).state = .disabled → (s.slot n).silenceTimer.isSome = true →
      ∃ v, exec (.silenceTimerExpiry n) s = .next (settle v)
        ∧ (v.slot n).state = .lost ∧ (v.slot n).wasLost = true ∧ (v.slot n).silenceTimer = none
        ∧ (v.slot n).tier = (s.slot n).tier ∧ (v.slot n).cap = (s.slot n).cap
        ∧ (v.slot n).disable = (s.slot n).disable ∧ (lawfulClaims s → holdsNothing n v) ∧ v.flagSet .lost = true
        ∧ (v.slot n).restoreTimer = (if s.settings.restoreEnable then some (s.settings.restoreInterval * 1000000)
            else (s.slot n).restoreTimer)
        ∧ (∀ k, k ≠ n → (v.slot k).state = (s.slot k).state) ∧ v.score.alliances = s.score.alliances)
    ∧ ((s.slot n).restoreTimer.isSome = true →
      exec (.restoreTimerExpiry n) s = .next (s.setSlot n (
        if s.settings.restoreEnable then { s.slot n with permitted := 0xF, attempts := 0, restoreTimer := none }
        else { s.slot n with restoreTimer := none })))

-- The Claim Arbiter

/-- The checks that a robot's CLAIM and ACTUATE share, in their order: NO_SUCH_ELEMENT for a number outside 1..32 or
an undefined element; neither processed nor answered for a WITHDRAWN or SILENT one; CLOSED for a REFUSING one or
behind a pending withdrawal; DISABLED, then NOT_ADMITTED, for the sender's state; NOT_NOW while drive time does not
run. Each restarts the sender's silence timer and changes nothing else (R35, R52, R70, R101). -/
def Obligations.ClaimAndActuateShareTheirFirstChecks : Prop :=
  ∀ (s u : State) (x e a : Byte) (tag : Half) (i : Instr) (kind : Nat), s.awake → acceptedFrom x.toNat tag s →
    ¬openTo x.toNat e.toNat s →
    (i = .claim x tag e ∧ kind = 5 ∧ takenFrom { slot := x.toNat, tag := tag, body := .claim e.toNat } s u)
      ∨ (i = .robotActuate x tag e a ∧ kind = 7
        ∧ takenFrom { slot := x.toNat, tag := tag, body := .actuate e.toNat a.toNat } s u) →
    exec i s = .next (settle (
      if e = 0 ∨ 32 < e.toNat ∨ s.defined e.toNat = false then
        queueReply { slot := x.toNat, tag := tag, body := .answer kind e.toNat .noSuchElement 0 } (restartSilence x.toNat u)
      else if s.mode e.toNat = .withdrawn ∨ s.mode e.toNat = .silent then restartSilence x.toNat u
      else if s.mode e.toNat = .refusing ∨ (s.run e.toNat).withdrawPending = true then
        queueReply { slot := x.toNat, tag := tag, body := .answer kind e.toNat .closed 0 } (restartSilence x.toNat u)
      else if (s.slot x.toNat).state = .disabled then
        queueReply { slot := x.toNat, tag := tag, body := .answer kind e.toNat .disabled 0 } (restartSilence x.toNat u)
      else if (s.slot x.toNat).state ≠ .admitted then
        queueReply { slot := x.toNat, tag := tag, body := .answer kind e.toNat .notAdmitted 0 } (restartSilence x.toNat u)
      else queueReply { slot := x.toNat, tag := tag, body := .answer kind e.toNat .notNow 0 } (restartSilence x.toNat u)))

/-- A CLAIM of an open, claimable element of the sender's side and tier, with no holder and the sender not barred and
holding fewer than 2, is GRANTED: the sender holds it with a fresh hold timer and one more hold, and with 2 holds
stands in no wait list. No other element's hold and no other slot changes, no attention flag is set, and the answer
gives the hold limit (R67, R69 to R73, R75). -/
def Obligations.ClaimOfAFreeElementIsGranted : Prop :=
  ∀ (s u : State) (x e : Byte) (tag : Half) (tier : Nat), s.awake → lawfulClaims s → playLaw s →
    takenFrom { slot := x.toNat, tag := tag, body := .claim e.toNat } s u → acceptedFrom x.toNat tag s →
    openTo x.toNat e.toNat s →
    (s.elemDef e.toNat).kind ≠ .goal ∨ (s.elemDef e.toNat).side = none →
    (∀ a, (s.elemDef e.toNat).side = some a → a = (s.slot x.toNat).alliance) →
    (s.slot x.toNat).tier = some tier → (s.elemDef e.toNat).minTier ≤ tier →
    (∀ b, (s.claim e.toNat).barred = some b → b.slot ≠ x.toNat) → (s.claim e.toNat).holder = none →
    (s.slot x.toNat).holdCount < 2 →
    ∃ v, exec (.claim x tag e) s = .next (settle (queueReply
        { slot := x.toNat, tag := tag, body := .answer 5 e.toNat .granted (s.elemDef e.toNat).holdLimit } v))
      ∧ (v.claim e.toNat).holder = some x.toNat ∧ (v.claim e.toNat).waiters = []
      ∧ (v.claim e.toNat).holdTimer = (if (s.elemDef e.toNat).holdLimit = 0 then none
          else some ((s.elemDef e.toNat).holdLimit * 100000))
      ∧ (v.claim e.toNat).barred = (s.claim e.toNat).barred
      ∧ (v.elemScore e.toNat).accumulator = 0 ∧ (v.light e.toNat).computed = v.display e.toNat
      ∧ (v.slot x.toNat).holdCount = (s.slot x.toNat).holdCount + 1
      ∧ (if (s.slot x.toNat).holdCount = 1
         then (v.slot x.toNat).waitCount = 0 ∧ ∀ k, x.toNat ∉ (v.claim k).waiters
         else (v.slot x.toNat).waitCount = (s.slot x.toNat).waitCount
            ∧ ∀ k, (v.claim k).waiters = (s.claim k).waiters)
      ∧ othersUntouched x.toNat e.toNat s v

/-- A CLAIM of an element that another slot holds, by a sender that may hold it and neither waits for it nor stands at
a limit, appends the sender to a wait list that has room, and QUEUED gives its position; nothing else changes (R67,
R74, R75). The CLAIMs of an open element that change nothing but the sender's silence timer, in the order of their
checks: NOT_CLAIMABLE, WRONG_SIDE, TIER_LOW, COOLDOWN with the time left, HELD with the hold time left, QUEUED with
the present position, LIMIT and FULL; a time is given in 100 ms units, rounded up, and at least 1 (R68, R71 to R75).
-/
def Obligations.ClaimOfAHeldElementIsQueuedOrTurnedAway : Prop :=
  (∀ (s u : State) (x e : Byte) (tag : Half) (tier h : Nat), s.awake →
    takenFrom { slot := x.toNat, tag := tag, body := .claim e.toNat } s u → acceptedFrom x.toNat tag s →
    openTo x.toNat e.toNat s →
    (s.elemDef e.toNat).kind ≠ .goal ∨ (s.elemDef e.toNat).side = none →
    (∀ a, (s.elemDef e.toNat).side = some a → a = (s.slot x.toNat).alliance) →
    (s.slot x.toNat).tier = some tier → (s.elemDef e.toNat).minTier ≤ tier →
    (∀ b, (s.claim e.toNat).barred = some b → b.slot ≠ x.toNat) → (s.claim e.toNat).holder = some h → h ≠ x.toNat →
    x.toNat ∉ (s.claim e.toNat).waiters → (s.slot x.toNat).holdCount < 2 → (s.slot x.toNat).waitCount < 2 →
    (s.claim e.toNat).waiters.length < 4 →
    ∃ v, exec (.claim x tag e) s = .next (settle (queueReply
        { slot := x.toNat, tag := tag,
          body := .answer 5 e.toNat .queued ((s.claim e.toNat).waiters.length + 1) } v))
      ∧ v.claim e.toNat = { s.claim e.toNat with waiters := (s.claim e.toNat).waiters ++ [x.toNat] }
      ∧ v.elemScore e.toNat = s.elemScore e.toNat ∧ (v.light e.toNat).computed = v.display e.toNat
      ∧ v.slot x.toNat = { s.slot x.toNat with waitCount := (s.slot x.toNat).waitCount + 1,
                                               silenceTimer := some (s.settings.silenceLimit * 1000) }
      ∧ (∀ k, k ≠ e.toNat → v.claim k = s.claim k) ∧ othersUntouched x.toNat e.toNat s v)
  ∧ (∀ (s u : State) (x e : Byte) (tag : Half) (tier : Nat) (c : AnswerCode) (detail : Nat), s.awake →
    takenFrom { slot := x.toNat, tag := tag, body := .claim e.toNat } s u → acceptedFrom x.toNat tag s →
    openTo x.toNat e.toNat s → (s.slot x.toNat).tier = some tier →
    ((s.elemDef e.toNat).kind = .goal ∧ (s.elemDef e.toNat).side.isSome = true ∧ c = .notClaimable ∧ detail = 0)
      ∨ ((s.elemDef e.toNat).kind ≠ .goal ∧ (∃ a, (s.elemDef e.toNat).side = some a ∧ a ≠ (s.slot x.toNat).alliance)
          ∧ c = .wrongSide ∧ detail = 0)
      ∨ (((s.elemDef e.toNat).kind ≠ .goal ∨ (s.elemDef e.toNat).side = none)
        ∧ (∀ a, (s.elemDef e.toNat).side = some a → a = (s.slot x.toNat).alliance)
        ∧ ((tier < (s.elemDef e.toNat).minTier ∧ c = .tierLow ∧ detail = 0)
          ∨ ((s.elemDef e.toNat).minTier ≤ tier
            ∧ ((∃ left, (s.claim e.toNat).barred = some { slot := x.toNat, left := left } ∧ c = .cooldown
                ∧ detail = max 1 ((left + 99999) / 100000))
              ∨ ((∀ b, (s.claim e.toNat).barred = some b → b.slot ≠ x.toNat)
                ∧ (((s.claim e.toNat).holder = some x.toNat ∧ c = .held
                    ∧ detail = ((s.claim e.toNat).holdTimer.map fun left => max 1 ((left + 99999) / 100000)).getD 0)
                  ∨ ((s.claim e.toNat).holder ≠ some x.toNat ∧ x.toNat ∈ (s.claim e.toNat).waiters ∧ c = .queued
                      ∧ detail = (s.claim e.toNat).waiters.idxOf x.toNat + 1)
                  ∨ ((s.claim e.toNat).holder ≠ some x.toNat ∧ x.toNat ∉ (s.claim e.toNat).waiters
                      ∧ (2 ≤ (s.slot x.toNat).holdCount
                        ∨ ((s.claim e.toNat).holder ≠ none ∧ 2 ≤ (s.slot x.toNat).waitCount))
                      ∧ c = .limit ∧ detail = 0)
                  ∨ ((s.claim e.toNat).holder ≠ some x.toNat ∧ x.toNat ∉ (s.claim e.toNat).waiters
                      ∧ (s.claim e.toNat).holder ≠ none ∧ (s.slot x.toNat).holdCount < 2
                      ∧ (s.slot x.toNat).waitCount < 2 ∧ 4 ≤ (s.claim e.toNat).waiters.length
                      ∧ c = .full ∧ detail = 0))))))) →
    exec (.claim x tag e) s = .next (settle (queueReply
      { slot := x.toNat, tag := tag, body := .answer 5 e.toNat c detail }
      (u.setSlot x.toNat { s.slot x.toNat with silenceTimer := some (s.settings.silenceLimit * 1000) }))))

/-- RELEASE in RUNNING and HELD of an element that is neither silent nor withdrawn: the holder gives it up and it is
handed over to the head of its wait list, whose counts and other waits follow, a waiter leaves the list, and any other
slot is answered NOT_HELD. In another phase it is NOT_NOW, and for no such element NO_SUCH_ELEMENT (R77, R79). -/
def Obligations.ReleaseHandsTheElementOver : Prop :=
  ∀ (s u : State) (x e : Byte) (tag : Half), s.awake → lawfulClaims s →
    takenFrom { slot := x.toNat, tag := tag, body := .release e.toNat } s u → acceptedFrom x.toNat tag s →
    (e = 0 ∨ 32 < e.toNat ∨ s.defined e.toNat = false → exec (.release x tag e) s = .next (settle (queueReply
        { slot := x.toNat, tag := tag, body := .answer 6 e.toNat .noSuchElement 0 } (restartSilence x.toNat u))))
    ∧ (s.defined e.toNat = true →
      (s.mode e.toNat = .silent ∨ s.mode e.toNat = .withdrawn →
        exec (.release x tag e) s = .next (settle (restartSilence x.toNat u)))
      ∧ (s.mode e.toNat = .opened ∨ s.mode e.toNat = .refusing →
        (s.clock.phase ≠ .running → s.clock.phase ≠ .held → exec (.release x tag e) s = .next (settle (queueReply
          { slot := x.toNat, tag := tag, body := .answer 6 e.toNat .notNow 0 } (restartSilence x.toNat u))))
        ∧ (s.clock.phase = .running ∨ s.clock.phase = .held →
          ((s.claim e.toNat).holder = some x.toNat →
            ∃ v, exec (.release x tag e) s = .next (settle (queueReply
                { slot := x.toNat, tag := tag, body := .answer 6 e.toNat .released 0 } v))
              ∧ handedOver e.toNat s v ∧ (v.claim e.toNat).barred = (s.claim e.toNat).barred
              ∧ (v.slot x.toNat).holdCount = (s.slot x.toNat).holdCount - 1 ∧ v.attention = s.attention)
          ∧ ((s.claim e.toNat).holder ≠ some x.toNat → x.toNat ∈ (s.claim e.toNat).waiters →
            ∃ v, exec (.release x tag e) s = .next (settle (queueReply
                { slot := x.toNat, tag := tag, body := .answer 6 e.toNat .leftQueue 0 } v))
              ∧ v.claim e.toNat = { s.claim e.toNat with waiters := (s.claim e.toNat).waiters.erase x.toNat }
              ∧ (v.slot x.toNat).waitCount = (s.slot x.toNat).waitCount - 1
              ∧ (v.slot x.toNat).holdCount = (s.slot x.toNat).holdCount
              ∧ (∀ k, k ≠ e.toNat → v.claim k = s.claim k) ∧ othersUntouched x.toNat e.toNat s v)
          ∧ ((s.claim e.toNat).holder ≠ some x.toNat → x.toNat ∉ (s.claim e.toNat).waiters →
            exec (.release x tag e) s = .next (settle (queueReply
              { slot := x.toNat, tag := tag, body := .answer 6 e.toNat .notHeld 0 } (restartSilence x.toNat u)))))))

/-- A hold limit that runs out in drive time at a defined element revokes the holder: it is barred where the element
has a cooldown, REVOKED is set, and the element is handed over, the new holder's counts and other waits as R79 has
them. A cooldown that runs out removes the bar and nothing else (R79, R81, R82, R91). -/
def Obligations.HoldExpiryRevokesAndBars : Prop :=
  ∀ (s : State) (e h : Nat), s.awake → s.driveTime = true →
    (lawfulClaims s → s.defined e = true → (s.claim e).holder = some h → (s.claim e).holdTimer.isSome = true →
      ∃ v, exec (.holdTimerExpiry e) s = .next (settle v) ∧ handedOver e s v
        ∧ (v.claim e).barred = (if (s.elemDef e).cooldown = 0 then (s.claim e).barred
            else some { slot := h, left := (s.elemDef e).cooldown * 100000 })
        ∧ (v.slot h).holdCount = (s.slot h).holdCount - 1 ∧ v.attention = (s.setFlag .revoked).attention
        ∧ v.link = s.link)
    ∧ exec (.cooldownExpiry e) s = .next (s.setClaim e { s.claim e with barred := none })

/-- REVOKE CLAIM in every phase: its four checks in their order, and else the holder loses the element, is barred
where that is asked for and the element has a cooldown, and the element is handed over; the reply gives the slot
revoked and the slot that holds the element now, and REVOKED is not set (R79, R84). -/
def Obligations.RevokeClaimTakesTheElement : Prop :=
  ∀ (s : State) (e b x : Byte), s.ready →
    (e = 0 ∨ 32 < e.toNat ∨ 24 < x.toNat ∨ 1 < b.toNat →
      exec (.revokeClaim e b x) s = .next (replied 0x49 .badArg [] (receiverDone s)))
    ∧ (1 ≤ e.toNat → e.toNat ≤ 32 → x.toNat ≤ 24 → b.toNat ≤ 1 →
      (s.defined e.toNat = false → exec (.revokeClaim e b x) s = .next (replied 0x49 .badState [] (receiverDone s)))
      ∧ (s.defined e.toNat = true →
          (s.claim e.toNat).holder = none ∨ (x ≠ 0 ∧ (s.claim e.toNat).holder ≠ some x.toNat) →
          exec (.revokeClaim e b x) s = .next (replied 0x49 .notFound [] (receiverDone s)))
      ∧ (∀ h, lawfulClaims s → s.defined e.toNat = true → (s.claim e.toNat).holder = some h →
          x = 0 ∨ x.toNat = h →
          ∃ v, exec (.revokeClaim e b x) s = .next (replied 0x49 .ok
                [byte h, byte ((s.claim e.toNat).waiters.head?.getD 0)] (settle v))
            ∧ handedOver e.toNat s v
            ∧ (v.claim e.toNat).barred = (if b = 0 ∨ (s.elemDef e.toNat).cooldown = 0 then (s.claim e.toNat).barred
                else some { slot := h, left := (s.elemDef e.toNat).cooldown * 100000 })
            ∧ (v.slot h).holdCount = (s.slot h).holdCount - 1 ∧ v.attention = s.attention ∧ v.link = s.link))

-- The field bus and the lights

/-- The console's ACTUATE in every phase: its seven checks in their order, each a refusal that changes nothing, and
else an ACTUATE entry with the argument brought into range joins the queue, the actuation is QUEUED, and the reply
gives the argument as queued (R100, R103). PASS-THROUGH: its four checks in their order, and else any result held is
discarded, the slot is PENDING and a RAW entry joins the queue, whatever the element. PASS RESULT gives the result, or
PENDING, or NOT_FOUND, and never changes the slot (R112, R114). -/
def Obligations.ConsoleActuateAndPassThrough : Prop :=
  (∀ (s : State) (e a : Byte) (c : Nat), s.ready →
    c = (if (s.elemDef e.toNat).kind = .dispenser then max 1 (min 8 a.toNat) else min 3 a.toNat) →
    exec (.consoleActuate e a) s = .next (
      if e = 0 ∨ 32 < e.toNat then replied 0x4A .badArg [] (receiverDone s)
      else if (s.elemDef e.toNat).kind ≠ .gate ∧ (s.elemDef e.toNat).kind ≠ .dispenser then
        replied 0x4A .badState [] (receiverDone s)
      else if (s.run e.toNat).withdrawn = true then replied 0x4A .badState [] (receiverDone s)
      else if (s.act e.toNat).state ≠ .none then replied 0x4A .busy [] (receiverDone s)
      else if s.stop.stopped = true then replied 0x4A .stopHeld [] (receiverDone s)
      else if (s.run e.toNat).jammed = true then replied 0x4A .jammed [] (receiverDone s)
      else if 16 ≤ s.bus.queue.length then replied 0x4A .full [] (receiverDone s)
      else replied 0x4A .accepted [byte c] (settle
        (((receiverDone s).setQueue
            (s.bus.queue ++ [{ element := e.toNat, arg := .actuate c, origin := .console, charge := none }])).setAct
          e.toNat { state := .queued, origin := some .console, charge := none, timer := none }))))
  ∧ (∀ (s : State) (e : Byte) (bytes : List Byte), s.ready →
    exec (.passThrough e bytes) s = .next (
      if e = 0 ∨ 32 < e.toNat ∨ 8 < bytes.length then replied 0x4B .badArg [] (receiverDone s)
      else if s.bus.pass = .pending then replied 0x4B .busy [] (receiverDone s)
      else if s.stop.stopped = true then replied 0x4B .stopHeld [] (receiverDone s)
      else if 16 ≤ s.bus.queue.length then replied 0x4B .full [] (receiverDone s)
      else replied 0x4B .accepted [] (settle { receiverDone s with bus := { s.bus with
        queue := s.bus.queue ++ [{ element := e.toNat, arg := .raw bytes, origin := .console, charge := none }],
        pass := .pending } }))
    ∧ exec .passResult s = .next (match s.bus.pass with
      | .pending => replied 0x4C .pending [] (receiverDone s)
      | .empty => replied 0x4C .notFound [] (receiverDone s)
      | .done p => replied 0x4C .ok ([0, byte p.length] ++ p) (receiverDone s)
      | .noAnswer => replied 0x4C .ok [1, 0] (receiverDone s)
      | .checkFail => replied 0x4C .ok [2, 0] (receiverDone s)
      | .aborted => replied 0x4C .ok [3, 0] (receiverDone s)))

/-- A robot's ACTUATE of an element that is open to it: checks 6 to 12 in their order, and else the argument is
brought into range, a DISPENSER's count is lowered to the alliance's remaining quota and charged to it, an ACTUATE
entry of the slot joins the queue, the actuation is QUEUED, and ACCEPTED gives the argument as queued (R101, R102,
R126). -/
def Obligations.RobotActuateIsChargedAndQueued : Prop :=
  ∀ (s u v : State) (x e a : Byte) (tag : Half) (n k q c : Nat) (d : ElementDef), s.awake →
    takenFrom { slot := x.toNat, tag := tag, body := .actuate e.toNat a.toNat } s u → acceptedFrom x.toNat tag s →
    openTo x.toNat e.toNat s → n = x.toNat → k = e.toNat → d = s.elemDef k → q = s.quotaLeft k (s.slot n).alliance →
    v = u.setSlot n { s.slot n with silenceTimer := some (s.settings.silenceLimit * 1000) } →
    c = (if d.kind = .dispenser then min (max 1 (min 8 a.toNat)) q else min 3 a.toNat) →
    exec (.robotActuate x tag e a) s = .next (settle (
      if d.kind ≠ .gate ∧ d.kind ≠ .dispenser then
        queueReply { slot := n, tag := tag, body := .answer 7 k .notActuable 0 } v
      else if (s.claim k).holder ≠ some n then queueReply { slot := n, tag := tag, body := .answer 7 k .notHeld 0 } v
      else if (s.run k).jammed = true then queueReply { slot := n, tag := tag, body := .answer 7 k .jammed 0 } v
      else if (s.run k).presence = .absent then
        queueReply { slot := n, tag := tag, body := .answer 7 k .absentElement 0 } v
      else if (s.act k).state ≠ .none then queueReply { slot := n, tag := tag, body := .answer 7 k .busy 0 } v
      else if d.kind = .dispenser ∧ q = 0 then
        queueReply { slot := n, tag := tag, body := .answer 7 k .quotaSpent 0 } v
      else if 16 ≤ s.bus.queue.length then queueReply { slot := n, tag := tag, body := .answer 7 k .fieldBusy 0 } v
      else if d.kind = .dispenser then
        queueReply { slot := n, tag := tag, body := .answer 7 k .accepted c }
          (((v.setElemScore k { s.elemScore k with
              quotas := set1 (s.elemScore k).quotas (s.slot n).alliance (q - c) }).setQueue
            (s.bus.queue ++ [{ element := k, arg := .actuate c, origin := .slot n,
                               charge := some { alliance := (s.slot n).alliance, count := c } }])).setAct k
            { state := .queued, origin := some (.slot n),
              charge := some { alliance := (s.slot n).alliance, count := c }, timer := none })
      else
        queueReply { slot := n, tag := tag, body := .answer 7 k .accepted c }
          ((v.setQueue (s.bus.queue ++ [{ element := k, arg := .actuate c, origin := .slot n, charge := none }])).setAct k
            { state := .queued, origin := some (.slot n), charge := none, timer := none })))

/-- The two arbiters on free links: a pending HALT before the queue's head, the head while fewer than 4 entries have
gone out since the last POLL or no element is defined, else a POLL of the next defined element above the last polled
or else the lowest; a due beacon before the head reply. On a link in use, and with nothing to send, each leaves
everything as it is. A freed place that a light-owed element waits for is taken at once, or, where the free value has
other requests of the same instant taken first, at the end of the next event or before time passes: it gives the
lowest owed element the place that is left then, and none behind a full queue (that a place waits no longer is the
model's choice, log entry 20). A downlink frame joins the tail of the reply queue, or is dropped with RADIO_CONGESTION
where the queue holds 8 (R98, R99, R121, R158, R160, R161). -/
def Obligations.ArbitersChooseInTheirOrder : Prop :=
  ∀ s : State,
    (s.bus.current.isSome = true → busArbiter s = s)
    ∧ (s.bus.current = none → s.bus.haltPending = true → busArbiter s
        = { s with bus := { s.bus with haltPending := false, current := some { request := .halt, window := none } } })
    ∧ (∀ x rest, s.bus.current = none → s.bus.haltPending = false → s.bus.queue = x :: rest →
        s.bus.commandCount < 4 ∨ (∀ e, s.defined e = false) →
        ∃ t, busArbiter s = t ∧ (t.bus.current.map (·.window)) = some none
          ∧ (∃ q, t.bus.current.map (·.request) = some q ∧ q = (match x.arg with
              | .actuate a => .actuate x.element a
              | .light d => .light x.element d
              | .raw bytes => .raw x.element bytes))
          ∧ t.bus.commandCount = min 4 (s.bus.commandCount + 1) ∧ t.bus.lastPolled = s.bus.lastPolled
          ∧ t.bus.acts = s.bus.acts
          ∧ ((∀ e, (s.light e).owed = false) → t.bus.queue = rest ∧ t.bus.freed = s.bus.freed ∧ t.lights = s.lights)
          ∧ (∀ e, (s.light e).owed = true → (∀ k, k < e → (s.light k).owed = false) → rest.length < 16 →
              t.meetings = s.meetings + 1
                ∧ if Config.otherRequestFirst s.meetings = true then
                    t.bus.queue = rest ∧ t.bus.freed = s.bus.freed + 1 ∧ t.lights = s.lights
                  else t.bus.queue = rest ++ [lightEntry e (s.light e).computed] ∧ t.bus.freed = s.bus.freed
                    ∧ (t.light e).issued = some (s.light e).computed ∧ (t.light e).owed = false))
    ∧ settle s = portArbiter (busArbiter (servePlaces s.bus.freed { s with bus := { s.bus with freed := 0 } }))
    ∧ (∀ k, servePlaces (k + 1) s = servePlaces k (servePlace s)) ∧ servePlaces 0 s = s
    ∧ ((∀ e, (s.light e).owed = false) ∨ 16 ≤ s.bus.queue.length → servePlace s = s)
    ∧ (∀ e, (s.light e).owed = true → (∀ k, k < e → (s.light k).owed = false) → s.bus.queue.length < 16 →
        servePlace s = (s.setQueue (s.bus.queue
            ++ [{ element := e, arg := .light (s.light e).computed, origin := .console, charge := none }])).setLight e
          { s.light e with issued := some (s.light e).computed, owed := false })
    ∧ (s.resetAsserted = false → s.pending = [] → s.bus.freed ≠ 0 → step s = .next (settle s))
    ∧ (∀ e, s.bus.current = none → s.bus.haltPending = false → s.bus.queue = [] ∨ 4 ≤ s.bus.commandCount →
        s.defined e = true →
        (s.bus.lastPolled < e ∧ ∀ k, s.bus.lastPolled < k → k < e → s.defined k = false)
          ∨ ((∀ k, s.bus.lastPolled < k → s.defined k = false) ∧ ∀ k, k < e → s.defined k = false) →
        busArbiter s = { s with bus := { s.bus with
          commandCount := 0, lastPolled := e, current := some { request := .poll e, window := none } } })
    ∧ (s.link.port.isSome = true → portArbiter s = s)
    ∧ (s.link.port = none → s.link.beaconDue = true → portArbiter s = { s with link := { s.link with
          port := some { slot := 0, tag := 0, body := .beacon s.beacon }, beaconDue := false,
          beaconTimer := some (s.settings.beaconInterval * 1000) } })
    ∧ (∀ f rest, s.link.port = none → s.link.beaconDue = false → s.link.replies = f :: rest →
        portArbiter s = { s with link := { s.link with port := some f, replies := rest } })
    ∧ (s.bus.haltPending = false → s.bus.queue = [] → (∀ e, s.defined e = false) → busArbiter s = s)
    ∧ (s.link.beaconDue = false → s.link.replies = [] → portArbiter s = s)
    ∧ ∀ f, queueReply f s = if s.link.replies.length < 8 then
        { s with link := { s.link with replies := s.link.replies ++ [f] } }
      else s.setFlag .radioCongestion

/-- The end of a request frame starts the answer window (with ANSWER WINDOW as it stands then: the model's choice, log
entry 19), and after a HALT frees the bus. A good answer makes its element PRESENT without misses, with the PRESENCE
flag where it was not. A POLL's status DONE, JAMMED or HALTED ends an actuation in flight with that outcome, JAMMED
with a JAM fault, and is ignored in any other actuation state. An ACTUATE that is accepted is in flight behind its
timer, and one that is refused ends REFUSED with that fault. A withdrawal that is pending takes effect at each of
these ends: the element is WITHDRAWN, its claim state is emptied without a handover, its accumulator cleared and its
light dark. Each fault reaches the fault capture by its priority, with element and time, and an occupied capture has
its repeat mark set (the rounding of the time: log entry 14). A LIGHT's ACCEPT changes no light record, and a RAW's
answer is DONE in the pass-through slot with PASS_DONE (R56, R57, R59, R61, R62, R94 to R96, R104 to R106, R109, R113,
R122). -/
def Obligations.GoodAnswersActByTheirTransaction : Prop :=
  ∀ (s : State) (e a total status position : Nat) (left : Nat), s.awake → 1 ≤ e → e ≤ 32 →
    (s.bus.current = some { request := .halt, window := none } →
      exec .busFrameSent s = .next (settle { s with bus := { s.bus with current := none } }))
    ∧ (∀ q, q ≠ .halt → s.bus.current = some { request := q, window := none } →
      exec .busFrameSent s = .next { s with bus := { s.bus with
        current := some { request := q, window := some (s.settings.answerWindow * 1000) } } })
    ∧ (s.bus.current = some { request := .poll e, window := some left } → s.defined e = true → status ≤ 4 →
      position ≤ 3 →
      ∃ t, exec (.busAnswer (answerBytes e 0x81 [byte total, byte status, byte position])) s = .next (settle t)
        ∧ t.bus.current = none ∧ (t.run e).presence = .present ∧ (t.run e).missCount = 0
        ∧ ((s.elemDef e).kind = .goal → total < 256 → (t.elemScore e).baseline = some total)
        ∧ ((s.act e).state = .inFlight → status = 2 → (t.run e).lastOutcome = some .done
            ∧ t.act e = { state := .none, origin := none, charge := none, timer := none }
            ∧ (t.run e).faultTally = (s.run e).faultTally)
        ∧ ((s.act e).state = .inFlight → status ≤ 1 → t.act e = s.act e
            ∧ t.run e = { s.run e with missCount := 0, presence := .present })
        ∧ ((s.act e).state = .inFlight → 2 ≤ status → pendingWithdrawalTaken e s t)
        ∧ ((s.act e).state ≠ .inFlight ∨ status ≤ 1 → t.claims = s.claims)
        ∧ faultsCaptured e (if (s.act e).state = .inFlight ∧ status = 3 then [.jam] else []) s t
        ∧ ((s.act e).state = .inFlight → status = 3 → (t.run e).lastOutcome = some .jammed ∧ (t.run e).jammed = true
            ∧ t.act e = { state := .none, origin := none, charge := none, timer := none }
            ∧ (t.run e).lastFault = some .jam ∧ (t.run e).faultTally = min 255 ((s.run e).faultTally + 1)
            ∧ t.flagSet .elementFault = true)
        ∧ ((s.act e).state = .inFlight → status = 4 → (t.run e).lastOutcome = some .halted
            ∧ t.act e = { state := .none, origin := none, charge := none, timer := none }
            ∧ (t.run e).faultTally = (s.run e).faultTally)
        ∧ ((s.act e).state = .inFlight → 2 ≤ status → (s.act e).origin = some .console →
            t.flagSet .consoleActDone = true)
        ∧ ((s.act e).state ≠ .inFlight → t.act e = s.act e
            ∧ t.run e = { s.run e with missCount := 0, presence := .present })
        ∧ t.flagSet .presence = (s.flagSet .presence || (s.run e).presence != .present)
        ∧ (∀ k, k ≠ e → t.run k = s.run k ∧ t.act k = s.act k ∧ t.claim k = s.claim k))
    ∧ (s.bus.current = some { request := .actuate e a, window := some left } → s.defined e = true →
      (∃ t, exec (.busAnswer (answerBytes e 0x82 [0])) s = .next (settle t)
        ∧ t.bus.current = none
        ∧ t.act e = { s.act e with state := .inFlight, timer := some ((s.elemDef e).timeout * 100000) }
        ∧ t.run e = { s.run e with missCount := 0, presence := .present } ∧ t.claims = s.claims ∧ t.score = s.score
        ∧ faultsCaptured e [] s t)
      ∧ ∃ t, exec (.busAnswer (answerBytes e 0x82 [1])) s = .next (settle t)
        ∧ t.act e = { state := .none, origin := none, charge := none, timer := none }
        ∧ (t.run e).lastOutcome = some .refused ∧ (t.run e).lastFault = some .refused
        ∧ (t.run e).faultTally = min 255 ((s.run e).faultTally + 1) ∧ t.flagSet .elementFault = true
        ∧ faultsCaptured e [.refused] s t ∧ pendingWithdrawalTaken e s t ∧ (∀ k, k ≠ e → t.claim k = s.claim k)
        ∧ ((s.act e).origin = some .console → t.flagSet .consoleActDone = true) ∧ t.score.alliances = s.score.alliances)
    ∧ (∀ d, s.bus.current = some { request := .light e d, window := some left } → s.defined e = true →
      ∃ t, exec (.busAnswer (answerBytes e 0x83 [0])) s = .next (settle t)
        ∧ t.lights = s.lights ∧ t.bus = { s.bus with current := none }
        ∧ t.run e = { s.run e with missCount := 0, presence := .present } ∧ (∀ k, k ≠ e → t.run k = s.run k)
        ∧ t.flagSet .presence = (s.flagSet .presence || (s.run e).presence != .present)
        ∧ t.claims = s.claims ∧ t.score = s.score ∧ faultsCaptured e [] s t)
    ∧ ∀ kind request answer, s.bus.current = some { request := .raw e request, window := some left } →
      answer.length ≤ 8 →
      ∃ t, exec (.busAnswer (answerBytes e kind answer)) s = .next (settle t)
        ∧ t.bus = { s.bus with current := none, pass := .done answer } ∧ t.flagSet .passDone = true
        ∧ t.lights = s.lights ∧ t.claims = s.claims ∧ t.score = s.score
        ∧ faultsCaptured e [] s t
        ∧ (if s.defined e = true then t.run e = { s.run e with missCount := 0, presence := .present }
           else t.table = s.table)

/-- A window that runs out, or bytes that are no good answer, are a miss of a defined element, whatever was asked of
it: bytes that failed the check record a CHECK fault first, the third miss in a row makes the element ABSENT with that
fault and PRESENCE, and an element that is ABSENT already counts no further. The faults reach the fault capture in
their order, by their priorities (the rounding of the time: log entry 14). An ACTUATE so lost ends NO_ANSWER, and a
withdrawal pending behind it takes effect; a LIGHT so lost is no longer issued unless an entry for it is queued, and a
RAW puts NO_ANSWER or CHECK_FAIL in the pass-through slot, that of an undefined element as well, of which nothing else
is reported; bytes for no transaction are discarded (R56, R57, R60 to R62, R95, R104, R113, R122). An actuation's
timer that runs out in flight ends it JAMMED: the jammed flag is set and a JAM fault recorded, which reaches the fault
capture, and a pending withdrawal takes effect. A pulse timer that runs out stops, and the element's display is
computed afresh without it (R56, R57, R61, R62, R105, R106, R117, R118). The display of an element is that of the
first condition that applies, and OFF where none does, or where it is withdrawn or undefined (R117). A recomputation
writes it and, where it is not the one issued, replaces the element's queued LIGHT entry in its place, else appends
one, else, behind a full queue, marks the light owed (R116, R120). -/
def Obligations.MissedAnswersAndTimersRunOut : Prop :=
  ((∀ (s : State) (e left : Nat) (q : BusRequest) (bytes : List Byte) (c : Instr) (failed third : Bool)
      (kinds : List FaultKind), s.awake → 1 ≤ e → e ≤ 32 →
    s.bus.current = some { request := q, window := some left } → busAddress q = e → q ≠ .halt →
    (c = .answerWindowExpiry ∧ failed = false) ∨ (c = .busAnswer bytes ∧ failed = true ∧ goodAnswerOf q bytes = none) →
    (third = true ↔ (s.run e).presence ≠ .absent ∧ 2 ≤ (s.run e).missCount) →
    kinds = (if failed = true then [.check] else []) ++ (if third = true then [.absent] else []) →
    (s.defined e = true → ∃ t, exec c s = .next (settle t) ∧ t.bus.current = none
      ∧ (t.run e).missCount = (if (s.run e).presence = .absent then (s.run e).missCount
          else if third = true then 3 else (s.run e).missCount + 1)
      ∧ (t.run e).presence = (if third = true then .absent else (s.run e).presence)
      ∧ (t.run e).faultTally = (if kinds = [] then (s.run e).faultTally
          else min 255 ((s.run e).faultTally + kinds.length))
      ∧ (t.run e).lastFault = (if third = true then some .absent else if failed = true then some .check
          else (s.run e).lastFault)
      ∧ faultsCaptured e kinds s t
      ∧ t.flagSet .elementFault = (s.flagSet .elementFault || failed || third)
      ∧ t.flagSet .presence = (s.flagSet .presence || third) ∧ (t.run e).jammed = (s.run e).jammed
      ∧ (∀ a, q = .actuate e a → (t.run e).lastOutcome = some .noAnswer
          ∧ t.act e = { state := .none, origin := none, charge := none, timer := none }
          ∧ pendingWithdrawalTaken e s t
          ∧ ((s.act e).origin = some .console → t.flagSet .consoleActDone = true)
          ∧ ((s.run e).withdrawPending = false → t.score = s.score))
      ∧ ((∀ a, q ≠ .actuate e a) → t.bus.acts = s.bus.acts ∧ t.claims = s.claims ∧ t.score = s.score
          ∧ (t.run e).lastOutcome = (s.run e).lastOutcome ∧ (t.run e).withdrawn = (s.run e).withdrawn
          ∧ (t.run e).withdrawPending = (s.run e).withdrawPending)
      ∧ (∀ d, q = .light e d → s.lightQueued e = false → t.light e = { s.light e with issued := none })
      ∧ (∀ d, q = .light e d → s.lightQueued e = true → t.lights = s.lights)
      ∧ (∀ p, q = .raw e p → t.bus.pass = (if failed = true then .checkFail else .noAnswer)
          ∧ t.flagSet .passDone = true)
      ∧ t.score.alliances = s.score.alliances
      ∧ (∀ k, k ≠ e → t.run k = s.run k ∧ t.act k = s.act k ∧ t.claim k = s.claim k ∧ t.light k = s.light k))
    ∧ (s.defined e = false →
      (∀ p, q = .raw e p → exec c s = .next (settle ({ s with bus := { s.bus with
          current := none, pass := if failed = true then .checkFail else .noAnswer } }.setFlag .passDone)))
      ∧ (∀ d, q = .light e d → exec c s = .next (settle { s with bus := { s.bus with current := none } }))))
  ∧ ∀ (s : State) (bytes : List Byte), s.awake → s.bus.current = none → exec (.busAnswer bytes) s = .next s)
  ∧ (∀ (s : State) (e : Nat), s.awake → s.defined e = true →
    ((s.act e).state = .inFlight → (s.act e).timer.isSome = true →
      ∃ t, exec (.actuationTimerExpiry e) s = .next (settle t)
        ∧ t.act e = { state := .none, origin := none, charge := none, timer := none }
        ∧ (t.run e).lastOutcome = some .jammed ∧ (t.run e).jammed = true ∧ (t.run e).lastFault = some .jam
        ∧ (t.run e).faultTally = min 255 ((s.run e).faultTally + 1) ∧ t.flagSet .elementFault = true
        ∧ faultsCaptured e [.jam] s t ∧ pendingWithdrawalTaken e s t
        ∧ ((s.act e).origin = some .console → t.flagSet .consoleActDone = true)
        ∧ (∀ k, t.quotaLeft e k = s.quotaLeft e k) ∧ t.score.alliances = s.score.alliances
        ∧ (∀ k, k ≠ e → t.act k = s.act k ∧ t.run k = s.run k ∧ t.claim k = s.claim k))
    ∧ ((s.light e).pulse.isSome = true →
      ∃ t, exec (.pulseTimerExpiry e) s = .next (settle t)
        ∧ (t.light e).pulse = none ∧ (t.light e).lastCredited = (s.light e).lastCredited
        ∧ (t.light e).computed = t.display e
        ∧ { t with lights := s.lights, bus := { t.bus with queue := s.bus.queue } } = s))
  ∧ (∀ (s : State) (e : Nat) (d : ElementDef) (c : Claim) (l : Light) (x : Display), d = s.elemDef e → c = s.claim e →
    l = s.light e → x = s.display e →
    x = (if s.defined e = false ∨ (s.run e).withdrawn = true then .off
      else if d.policy.score = true ∧ l.pulse.isSome = true then .lit .pulse (.alliance (l.lastCredited.getD 0))
      else if d.policy.contest = true ∧ c.holder.isSome = true ∧ c.waiters ≠ [] then
        .lit .slow (.alliance ((c.holder.map fun h => (s.slot h).alliance).getD 0))
      else if d.policy.pending = true ∧ ((s.run e).withdrawPending = true ∨ (s.run e).jammed = true) then
        .lit .fast .white
      else if d.policy.hold = true ∧ d.policy.noSteady = false then
        match c.holder, d.side with
        | some h, _ => .lit .steady (.alliance (s.slot h).alliance)
        | none, some a => .lit .steady (.alliance a)
        | none, none => .off
      else .off)
    ∧ (s.defined e = false → recompute e s = s)
    ∧ (s.defined e = true →
      (l.issued = some x → recompute e s = s.setLight e { l with computed := x, owed := false })
      ∧ (l.issued ≠ some x → (∃ y ∈ s.bus.queue, y.isLightFor e = true) →
          recompute e s = (s.setQueue (s.bus.queue.map fun y => if y.isLightFor e = true then { y with arg := .light x }
            else y)).setLight e { l with computed := x, issued := some x })
      ∧ (l.issued ≠ some x → (∀ y ∈ s.bus.queue, y.isLightFor e = false) → s.bus.queue.length < 16 →
          recompute e s = (s.setQueue (s.bus.queue
              ++ [{ element := e, arg := .light x, origin := .console, charge := none }])).setLight e
            { l with computed := x, issued := some x, owed := false })
      ∧ (l.issued ≠ some x → (∀ y ∈ s.bus.queue, y.isLightFor e = false) → 16 ≤ s.bus.queue.length →
          recompute e s = s.setLight e { l with computed := x, owed := true })))

-- The Score Unit

/-- PENALIZE and AWARD, for every alliance, amount and state: BAD_STATE outside RUNNING, HELD, GRACE and FINISHED,
BAD_ARG for no alliance of the field; else the amount is brought into 1..1000, PENALIZE takes it from the score down
to 0 and adds it whole to the penalties, AWARD adds it to the score up to 65,535, what the score could not take goes
to the clamp loss with SCORE_CLAMP set, and the reply gives the score after it (R124, R139, R140). -/
def Obligations.PenalizeAndAwardSettleTheScore : Prop :=
  ∀ (s : State) (a : Byte) (amount : Half) (n p q : Nat) (r : AllianceRecord) (o : OutcomeCode), s.ready →
    n = max 1 (min 1000 amount.toNat) → r = s.alliance a.toNat →
    o = (if 1 ≤ amount.toNat ∧ amount.toNat ≤ 1000 then .ok else .okAdjusted) →
    p = min 65535 (r.clampLoss + (n - r.score)) → q = min 65535 (r.clampLoss + (r.score + n - 65535)) →
    s.settings.allianceCount ≤ 4 →
    (s.clock.phase = .idle ∨ s.clock.phase = .staging →
      exec (.penalize a amount) s = .next (replied 0x52 .badState [] (receiverDone s))
        ∧ exec (.award a amount) s = .next (replied 0x53 .badState [] (receiverDone s)))
    ∧ (s.clock.phase ≠ .idle → s.clock.phase ≠ .staging → a = 0 ∨ s.settings.allianceCount < a.toNat →
      exec (.penalize a amount) s = .next (replied 0x52 .badArg [] (receiverDone s))
        ∧ exec (.award a amount) s = .next (replied 0x53 .badArg [] (receiverDone s)))
    ∧ (s.clock.phase ≠ .idle → s.clock.phase ≠ .staging → 1 ≤ a.toNat → a.toNat ≤ s.settings.allianceCount →
      exec (.penalize a amount) s = .next (
        if n ≤ r.score then replied 0x52 o (twoBytes (r.score - n)) ((receiverDone s).setAlliance a.toNat
          { r with score := r.score - n, penalty := min 65535 (r.penalty + n) })
        else replied 0x52 o (twoBytes 0) (((receiverDone s).setAlliance a.toNat
          { score := 0, penalty := min 65535 (r.penalty + n), clampLoss := p }).setFlag .scoreClamp))
      ∧ exec (.award a amount) s = .next (
        if r.score + n ≤ 65535 then replied 0x53 o (twoBytes (r.score + n)) ((receiverDone s).setAlliance a.toNat
          { r with score := r.score + n })
        else replied 0x53 o (twoBytes 65535) (((receiverDone s).setAlliance a.toNat
          { r with score := 65535, clampLoss := q }).setFlag .scoreClamp)))

/-- Objects that arrive at a goal in the credit window are credited as one product, rounded half up: to the alliance
of a fixed side at a factor of one, to the alliance of a neutral goal's holder at the control bonus, in each case
times the base value and the current period's factor; the score saturates, the credited tally grows, and the pulse
starts. The tower second credits one of the same products to the holder's alliance, takes 1000 ms from the accumulator
and starts the pulse. What the score cannot take goes to the clamp loss with SCORE_CLAMP set (R118, R124, R130 to
R135, R137). That TOWER_SECOND is taken in drive time at any accumulator, and outside it only behind 1000 ms, is the
model's choice (log entry 13, DEDUCED). Objects that arrive outside the credit window, or at a withdrawn goal, only
enter the uncounted tally, and in the window those of a neutral goal without a holder only the unattributed tally; the
first answer behind an UNSET baseline only sets it, and an unchanged total counts nothing (R130 to R132). -/
def Obligations.ArrivalsAndTowerSecondsAreCredited : Prop :=
  (∀ (s : State) (e a m p : Nat) (d : Period), s.awake → 1 ≤ e → e ≤ 32 → 1 ≤ a → a ≤ 4 →
    s.currentPeriod = some d →
    (∀ b total status position left, s.bus.current = some { request := .poll e, window := some left } →
      (s.elemDef e).kind = .goal → (s.elemScore e).baseline = some b → b < 256 → total < 256 → total ≠ b →
      status ≤ 4 → position ≤ 3 → (s.act e).state = .none →
      s.clock.phase = .running ∨ s.clock.phase = .held ∨ s.clock.phase = .grace → (s.run e).withdrawn = false →
      ((s.elemDef e).side = some a ∧ m = 8)
        ∨ ((s.elemDef e).side = none ∧ s.holderAlliance e = some a ∧ m = (s.elemDef e).controlBonus) →
      p = ((total + 256 - b) % 256 * (s.elemDef e).baseValue * m * d.factor + 32) / 64 →
      ∃ t, exec (.busAnswer (answerBytes e 0x81 [byte total, byte status, byte position])) s = .next (settle t)
        ∧ (t.alliance a).score = (if (s.alliance a).score + p ≤ 65535 then (s.alliance a).score + p else 65535)
        ∧ (t.alliance a).penalty = (s.alliance a).penalty
        ∧ (t.alliance a).clampLoss = (if (s.alliance a).score + p ≤ 65535 then (s.alliance a).clampLoss
            else min 65535 ((s.alliance a).clampLoss + ((s.alliance a).score + p - 65535)))
        ∧ (65535 < (s.alliance a).score + p → t.flagSet .scoreClamp = true)
        ∧ ((s.alliance a).score + p ≤ 65535 → t.flagSet .scoreClamp = s.flagSet .scoreClamp)
        ∧ (t.elemScore e).unattributed = (s.elemScore e).unattributed
        ∧ (t.elemScore e).uncounted = (s.elemScore e).uncounted
        ∧ (t.elemScore e).credited = min 65535 ((s.elemScore e).credited + (total + 256 - b) % 256)
        ∧ (t.elemScore e).baseline = some total
        ∧ (t.light e).pulse = some (s.settings.pulseTime * 1000) ∧ (t.light e).lastCredited = some a
        ∧ (∀ k, k ≠ a → t.alliance k = s.alliance k) ∧ (∀ k, k ≠ e → t.elemScore k = s.elemScore k))
    ∧ ((s.elemDef e).kind = .tower → s.holderAlliance e = some a →
      s.driveTime = true ∨ 1000000 ≤ (s.elemScore e).accumulator →
      p = ((s.elemDef e).baseValue * (s.elemDef e).controlBonus * d.factor + 32) / 64 →
      ∃ t, exec (.towerSecond e) s = .next (settle t)
        ∧ (t.alliance a).score = (if (s.alliance a).score + p ≤ 65535 then (s.alliance a).score + p else 65535)
        ∧ (t.alliance a).clampLoss = (if (s.alliance a).score + p ≤ 65535 then (s.alliance a).clampLoss
            else min 65535 ((s.alliance a).clampLoss + ((s.alliance a).score + p - 65535)))
        ∧ (65535 < (s.alliance a).score + p → t.flagSet .scoreClamp = true)
        ∧ ((s.alliance a).score + p ≤ 65535 → t.attention = s.attention)
        ∧ t.elemScore e = { s.elemScore e with accumulator := (s.elemScore e).accumulator - 1000000 }
        ∧ (t.light e).pulse = some (s.settings.pulseTime * 1000) ∧ (t.light e).lastCredited = some a
        ∧ (t.light e).computed = t.display e
        ∧ (∀ k, k ≠ a → t.alliance k = s.alliance k) ∧ (∀ k, k ≠ e → t.elemScore k = s.elemScore k)
        ∧ t.claims = s.claims ∧ t.clock = s.clock))
  ∧ (∀ (s : State) (e total status position left : Nat), s.awake → 1 ≤ e → e ≤ 32 →
    s.bus.current = some { request := .poll e, window := some left } → (s.elemDef e).kind = .goal → total < 256 →
    status ≤ 4 → position ≤ 3 → (s.act e).state ≠ .inFlight →
    ∃ t, exec (.busAnswer (answerBytes e 0x81 [byte total, byte status, byte position])) s = .next (settle t)
      ∧ ((s.elemScore e).baseline = none ∨ (s.elemScore e).baseline = some total →
          t.score.alliances = s.score.alliances ∧ t.lights = s.lights
            ∧ t.elemScore e = { s.elemScore e with baseline := some total })
      ∧ (∀ b n, (s.elemScore e).baseline = some b → b < 256 → total ≠ b → n = (total + 256 - b) % 256 →
          (s.clock.phase = .idle ∨ s.clock.phase = .staging ∨ s.clock.phase = .finished ∨ (s.run e).withdrawn = true →
            t.score.alliances = s.score.alliances ∧ t.lights = s.lights
              ∧ t.elemScore e = { s.elemScore e with
                  baseline := some total, uncounted := min 65535 ((s.elemScore e).uncounted + n) })
          ∧ (s.clock.phase = .running ∨ s.clock.phase = .held ∨ s.clock.phase = .grace → (s.run e).withdrawn = false →
            (s.elemDef e).side = none → (s.claim e).holder = none →
            t.score.alliances = s.score.alliances ∧ t.lights = s.lights
              ∧ t.elemScore e = { s.elemScore e with
                  baseline := some total, unattributed := min 65535 ((s.elemScore e).unattributed + n) }))
      ∧ ∀ k, k ≠ e → t.elemScore k = s.elemScore k)

-- The message boxes

/-- The console's MAIL PUT and MAIL READ: a message of 1 to 48 bytes replaces one that is not pending, for any
registered slot; a read gives the bytes from the offset, its length brought into range, and takes a robot's message
off pending when it reaches the last byte (R166, R168). -/
def Obligations.ConsoleWritesAndReadsTheBox : Prop :=
  ∀ (s : State) (x offset length : Byte) (bytes : List Byte), s.ready →
    exec (.consoleMailPut x bytes) s = .next (
      if x = 0 ∨ 24 < x.toNat ∨ bytes.length = 0 ∨ 48 < bytes.length then replied 0x58 .badArg [] (receiverDone s)
      else if (s.slot x.toNat).state = .empty then replied 0x58 .badState [] (receiverDone s)
      else if (s.box x.toNat).any (·.pending) = true then replied 0x58 .boxFull [] (receiverDone s)
      else replied 0x58 .ok []
        ((receiverDone s).setBox x.toNat (some { origin := .console, bytes := bytes, pending := true })))
    ∧ (x = 0 ∨ 24 < x.toNat → exec (.consoleMailRead x offset length) s
        = .next (replied 0x59 .badArg [] (receiverDone s)))
    ∧ (1 ≤ x.toNat → x.toNat ≤ 24 → s.box x.toNat = none → exec (.consoleMailRead x offset length) s
        = .next (replied 0x59 .boxEmpty [] (receiverDone s)))
    ∧ (∀ m, 1 ≤ x.toNat → x.toNat ≤ 24 → s.box x.toNat = some m → m.bytes.length ≤ offset.toNat →
        exec (.consoleMailRead x offset length) s = .next (replied 0x59 .badOffset [] (receiverDone s)))
    ∧ (∀ m n after, 1 ≤ x.toNat → x.toNat ≤ 24 → s.box x.toNat = some m → offset.toNat < m.bytes.length →
        n = max 1 (min (m.bytes.length - offset.toNat) length.toNat) →
        after = (m.pending && !(m.origin = .robot && offset.toNat + n = m.bytes.length)) →
        exec (.consoleMailRead x offset length) s
          = .next (replied 0x59 (if n = length.toNat then .ok else .okAdjusted)
              ([if m.origin = .console then 0 else 1, byte m.bytes.length, offset, byte n, if after then 1 else 0]
                ++ (m.bytes.drop offset.toNat).take n)
              ((receiverDone s).setBox x.toNat (some { m with pending := after }))))

/-- A robot's MAIL PUT and MAIL READ, from an ADMITTED or DISABLED slot: a message replaces one that is not pending
and sets MAIL_IN; a read is answered with every byte from the offset and takes the console's message off pending with
MAIL_TAKEN. Other senders are NOT_ADMITTED, and the box refuses with BOX_FULL, BOX_EMPTY and BAD_OFFSET. The console's
MAIL PUT is written by the same rule, with its own checks and no flag (R166, R167). -/
def Obligations.RobotWritesAndReadsTheBox : Prop :=
  (∀ (s u v : State) (x offset : Byte) (tag : Half) (bytes : List Byte), s.awake → acceptedFrom x.toNat tag s →
    v = restartSilence x.toNat u →
    (takenFrom { slot := x.toNat, tag := tag, body := .mailPut bytes } s u →
      exec (.robotMailPut x tag bytes) s = .next (settle (
        if (s.slot x.toNat).state ≠ .admitted ∧ (s.slot x.toNat).state ≠ .disabled then
          queueReply { slot := x.toNat, tag := tag, body := .answer 8 0 .notAdmitted 0 } v
        else if (s.box x.toNat).any (·.pending) = true then
          queueReply { slot := x.toNat, tag := tag, body := .answer 8 0 .boxFull 0 } v
        else queueReply { slot := x.toNat, tag := tag, body := .answer 8 0 .ok 0 }
          ((v.setBox x.toNat (some { origin := .robot, bytes := bytes, pending := true })).setFlag .mailIn))))
    ∧ (takenFrom { slot := x.toNat, tag := tag, body := .mailRead offset.toNat } s u →
      ((s.slot x.toNat).state ≠ .admitted → (s.slot x.toNat).state ≠ .disabled →
        exec (.robotMailRead x tag offset) s = .next (settle (
          queueReply { slot := x.toNat, tag := tag, body := .answer 9 0 .notAdmitted 0 } v)))
      ∧ ((s.slot x.toNat).state = .admitted ∨ (s.slot x.toNat).state = .disabled →
        (s.box x.toNat = none → exec (.robotMailRead x tag offset) s = .next (settle (
          queueReply { slot := x.toNat, tag := tag, body := .answer 9 0 .boxEmpty 0 } v)))
        ∧ (∀ m, s.box x.toNat = some m → m.bytes.length ≤ offset.toNat →
          exec (.robotMailRead x tag offset) s = .next (settle (
            queueReply { slot := x.toNat, tag := tag, body := .answer 9 0 .badOffset 0 } v)))
        ∧ (∀ m, s.box x.toNat = some m → offset.toNat < m.bytes.length →
          exec (.robotMailRead x tag offset) s = .next (settle (
            queueReply { slot := x.toNat, tag := tag,
                         body := .mailData offset.toNat (m.bytes.drop offset.toNat) }
              (if m.origin = .console ∧ m.pending = true then
                (v.setBox x.toNat (some { m with pending := false })).setFlag .mailTaken
              else v)))))))
  ∧ ∀ (s : State) (x : Byte) (bytes : List Byte), s.ready → exec (.consoleMailPut x bytes) s = .next (
      if x = 0 ∨ 24 < x.toNat ∨ bytes.length = 0 ∨ 48 < bytes.length then replied 0x58 .badArg [] (receiverDone s)
      else if (s.slot x.toNat).state = .empty then replied 0x58 .badState [] (receiverDone s)
      else if (s.box x.toNat).any (·.pending) = true then replied 0x58 .boxFull [] (receiverDone s)
      else replied 0x58 .ok []
        ((receiverDone s).setBox x.toNat (some { origin := .console, bytes := bytes, pending := true })))

-- The robot link

/-- Whatever frame a robot sends, each of the nine kinds with every value of its fields, the part reads back that
frame and no other: slot 0..24, any tag, and bodies whose one-byte fields hold one byte (R154, R191, R192). So it does
bit by bit: a byte's bits go out least significant first, and eight bits so sent are that byte again (R190). On the
console line they stand between a start bit and a stop bit at mark, and a stop bit at space is a framing error (R171;
that the start bit is at space is DEDUCED, log entry 16). -/
def Obligations.UplinkFramesReadBackAsSent : Prop :=
  (∀ f : UplinkFrame, frameOk f = true → bodyFits f.body = true → uplinkFrameOf (uplinkBytes f) = some f
    ∧ uplinkFrameOf (lineBytes (lineBits (uplinkBytes f))) = some f)
  ∧ (∀ (b : Byte) (rest : List Byte) (i : Nat),
      (i < 8 → (lineBits (b :: rest))[i]? = some (b.getLsbD i) ∧ (character b)[i + 1]? = some (b.getLsbD i))
      ∧ (lineBits (b :: rest)).drop 8 = lineBits rest ∧ lineBytes (lineBits (b :: rest)) = b :: rest
      ∧ (character b).length = 10 ∧ (character b)[0]? = some false ∧ (character b)[9]? = some true
      ∧ characterCommand (character b) = some (.consoleByte b)
      ∧ characterCommand ((character b).take 9 ++ [false]) = some .framingError)
  ∧ (∀ f : DownFrame, lineBytes (downFrameLine f) = downFrameBytes f)
  ∧ ∀ q : BusRequest, lineBytes (busFrameLine q) = busFrameBytes q

/-- A robot's frame that arrives joins the tail of the uplink queue; a third of one slot is dropped without a sign,
and with 8 waiting the frame is dropped with RADIO_CONGESTION; bytes that are no good frame are discarded (R154). The
end of a downlink frame frees the port for a due beacon or else the head reply, and the beacon interval makes a beacon
due, which goes out at once on a free port and starts the interval afresh. The beacon shows the state at that moment:
the phase, the stop, a permit for exactly the ADMITTED slots while drive time runs, and the status of 32 elements
(R153, R160 to R164). -/
def Obligations.UplinkArrivalAndDownlinkPort : Prop :=
  (∀ s : State, s.awake →
    (∀ f, frameOk f = true → bodyFits f.body = true →
      exec (.uplinkArrival (uplinkBytes f)) s = .next (
        if 2 ≤ (s.link.uplink.filter fun g => g.slot = f.slot).length then s
        else if 8 ≤ s.link.uplink.length then s.setFlag .radioCongestion
        else { s with link := { s.link with uplink := s.link.uplink ++ [f] } }))
    ∧ ∀ bytes, uplinkFrameOf bytes = none → exec (.uplinkArrival bytes) s = .next s)
  ∧ (∀ (s : State) (b : Beacon), s.awake → b = s.beacon →
    (s.link.port.isSome = true → s.link.beaconDue = true →
      exec .downlinkFrameSent s = .next { s with link := { s.link with
        port := some { slot := 0, tag := 0, body := .beacon b }, beaconDue := false,
        beaconTimer := some (s.settings.beaconInterval * 1000) } })
    ∧ (∀ f rest, s.link.port.isSome = true → s.link.beaconDue = false → s.link.replies = f :: rest →
      exec .downlinkFrameSent s = .next { s with link := { s.link with port := some f, replies := rest } })
    ∧ (s.link.port.isSome = true → s.link.beaconDue = false → s.link.replies = [] →
      exec .downlinkFrameSent s = .next { s with link := { s.link with port := none } })
    ∧ (s.link.beaconTimer.isSome = true →
      exec .beaconIntervalExpiry s = .next { s with link := (if s.link.port.isSome = true then
          { s.link with beaconTimer := none, beaconDue := true }
        else { s.link with port := some { slot := 0, tag := 0, body := .beacon b }, beaconDue := false,
                           beaconTimer := some (s.settings.beaconInterval * 1000) }) })
    ∧ b.phase = s.clock.phase ∧ b.index = s.clock.index ∧ b.stopped = s.stop.stopped
    ∧ b.permits.length = 24 ∧ b.elements.length = 32
    ∧ (∀ n, 1 ≤ n → n ≤ 24 →
        (b.permits[n - 1]? = some true ↔ (s.slot n).state = .admitted ∧ s.driveTime = true))
    ∧ ∀ e, 1 ≤ e → e ≤ 32 → b.elements[e - 1]? = some (
        if s.defined e = true then
          { holder := (s.claim e).holder.getD 0, waiting := (s.claim e).waiters.length, act := (s.act e).state,
            mode := if s.mode e = .opened ∧ (s.run e).withdrawPending = true then .refusing else s.mode e }
        else { holder := 0, waiting := 0, mode := .withdrawn, act := .none }))

-- What every step keeps, from every state that has it

/-- A field is STOPPED exactly while a cause is latched, STOPPED while RESET is held, and never RUNNING while STOPPED:
every step keeps this (R15, R144, R152). The clock's fields agree with its phase and its plan stays in range: every
step keeps this (R1, R3). -/
def Obligations.StopAndClockLawsKeptByEveryStep : Prop :=
  (∀ s t : State, stopLaw s → step s = .next t → stopLaw t)
  ∧ (∀ s t : State, clockLaw s → step s = .next t → clockLaw t)

/-- Every holder and waiter is an ADMITTED slot, no list holds a slot twice or its own holder or more than 4, the
counts of the slot records equal the holds and waits they stand for, and no slot holds more than 2, waits for more
than 2, or waits while it holds 2: every step keeps this (R21, R66, R67). -/
def Obligations.ClaimLawKeptByEveryStep : Prop :=
  ∀ s t : State, lawfulClaims s → step s = .next t → lawfulClaims t

/-- An element has a holder or waiters only in RUNNING and HELD and while it is not withdrawn, and waiters only behind
a holder: every step keeps this (R66, R89). A withdrawal is never both in force and pending, and is pending only
behind an actuation: every step keeps this (R51, R55, R57). -/
def Obligations.PlayAndWithdrawalLawsKeptByEveryStep : Prop :=
  (∀ s t : State, playLaw s → step s = .next t → playLaw t)
  ∧ (∀ s t : State, withdrawalLaw s → step s = .next t → withdrawalLaw t)

/-- In IDLE only EMPTY and EXPECTED slots exist, permitted tiers are never empty, DISABLED slots carry a disable and
ADMITTED ones none, and the confirm and silence timers run in their states alone: every step keeps this (R19, R20,
R31, R35, R38, R43). -/
def Obligations.RosterLawKeptByEveryStep : Prop :=
  ∀ s t : State, rosterLaw s → step s = .next t → rosterLaw t

/-- A light-owed element is defined, its computed display differs from its issued display, and no LIGHT entry for it
is queued; no element has two LIGHT entries: every step keeps this (R97, R116, R120, R121). -/
def Obligations.LightLawKeptByEveryStep : Prop :=
  ∀ s t : State, lightLaw s → step s = .next t → lightLaw t

/-- An actuation is QUEUED exactly while one ACTUATE for its element is queued or on the bus, its timer runs exactly
in flight, and the pass-through slot is PENDING exactly while one RAW is queued or on the bus: every step keeps this
(R97, R100, R104, R112, R113). -/
def Obligations.BusLawKeptByEveryStep : Prop :=
  ∀ s t : State, busLaw s → step s = .next t → busLaw t

/-- The queues, the stranger list and the command count stay within their places, no slot has a third frame in the
uplink queue, and the alliance records stay within two bytes: every step keeps this (R25, R97, R98, R124, R154, R158).
-/
def Obligations.QueuesAndScoresStayWithinTheirPlaces : Prop :=
  ∀ s t : State, queueLaw s → scoreLaw s → step s = .next t → queueLaw t ∧ scoreLaw t

/-- Every setting, live, standing and being written, lies in its range, and every alliance of a registered slot and
side of a defined element within ALLIANCE COUNT: every step keeps this (R22, R47, R186, R187, R188). -/
def Obligations.SettingsStayInRange : Prop :=
  ∀ s t : State, settingsLaw s → allianceLaw s → step s = .next t → settingsLaw t ∧ allianceLaw t
end

