-- ==== Sys2Proof/Laws/State.lean ====
section
/-! SUPPORT. One lemma per field per named update of the state, and the tables read after a write. -/

namespace Sys2Proof.Machine

-- The state after reset
@[simp] theorem reset_bus : State.reset.bus = startedBus := rfl
@[simp] theorem reset_link : State.reset.link = startedLink := rfl

-- setFlag
@[simp] theorem setFlag_clock (s : State) (f : Flag) : (s.setFlag f).clock = s.clock := rfl
@[simp] theorem setFlag_roster (s : State) (f : Flag) : (s.setFlag f).roster = s.roster := rfl
@[simp] theorem setFlag_table (s : State) (f : Flag) : (s.setFlag f).table = s.table := rfl
@[simp] theorem setFlag_claims (s : State) (f : Flag) : (s.setFlag f).claims = s.claims := rfl
@[simp] theorem setFlag_bus (s : State) (f : Flag) : (s.setFlag f).bus = s.bus := rfl
@[simp] theorem setFlag_lights (s : State) (f : Flag) : (s.setFlag f).lights = s.lights := rfl
@[simp] theorem setFlag_score (s : State) (f : Flag) : (s.setFlag f).score = s.score := rfl
@[simp] theorem setFlag_stop (s : State) (f : Flag) : (s.setFlag f).stop = s.stop := rfl
@[simp] theorem setFlag_link (s : State) (f : Flag) : (s.setFlag f).link = s.link := rfl
@[simp] theorem setFlag_console (s : State) (f : Flag) : (s.setFlag f).console = s.console := rfl
@[simp] theorem setFlag_attention (s : State) (f : Flag) : (s.setFlag f).attention = { s.attention with flags := s.attention.flags ||| flagBit f } := rfl
@[simp] theorem setFlag_settings (s : State) (f : Flag) : (s.setFlag f).settings = s.settings := rfl
@[simp] theorem setFlag_store (s : State) (f : Flag) : (s.setFlag f).store = s.store := rfl
@[simp] theorem setFlag_uptime (s : State) (f : Flag) : (s.setFlag f).uptime = s.uptime := rfl
@[simp] theorem setFlag_resetAsserted (s : State) (f : Flag) : (s.setFlag f).resetAsserted = s.resetAsserted := rfl
@[simp] theorem setFlag_freeCount (s : State) (f : Flag) : (s.setFlag f).freeCount = s.freeCount := rfl
@[simp] theorem setFlag_pending (s : State) (f : Flag) : (s.setFlag f).pending = s.pending := rfl

-- clearFlags
@[simp] theorem clearFlags_clock (s : State) (f : FlagSet) : (s.clearFlags f).clock = s.clock := rfl
@[simp] theorem clearFlags_roster (s : State) (f : FlagSet) : (s.clearFlags f).roster = s.roster := rfl
@[simp] theorem clearFlags_table (s : State) (f : FlagSet) : (s.clearFlags f).table = s.table := rfl
@[simp] theorem clearFlags_claims (s : State) (f : FlagSet) : (s.clearFlags f).claims = s.claims := rfl
@[simp] theorem clearFlags_bus (s : State) (f : FlagSet) : (s.clearFlags f).bus = s.bus := rfl
@[simp] theorem clearFlags_lights (s : State) (f : FlagSet) : (s.clearFlags f).lights = s.lights := rfl
@[simp] theorem clearFlags_score (s : State) (f : FlagSet) : (s.clearFlags f).score = s.score := rfl
@[simp] theorem clearFlags_stop (s : State) (f : FlagSet) : (s.clearFlags f).stop = s.stop := rfl
@[simp] theorem clearFlags_link (s : State) (f : FlagSet) : (s.clearFlags f).link = s.link := rfl
@[simp] theorem clearFlags_console (s : State) (f : FlagSet) : (s.clearFlags f).console = s.console := rfl
@[simp] theorem clearFlags_attention (s : State) (f : FlagSet) : (s.clearFlags f).attention = { s.attention with flags := s.attention.flags &&& ~~~f } := rfl
@[simp] theorem clearFlags_settings (s : State) (f : FlagSet) : (s.clearFlags f).settings = s.settings := rfl
@[simp] theorem clearFlags_store (s : State) (f : FlagSet) : (s.clearFlags f).store = s.store := rfl
@[simp] theorem clearFlags_uptime (s : State) (f : FlagSet) : (s.clearFlags f).uptime = s.uptime := rfl
@[simp] theorem clearFlags_resetAsserted (s : State) (f : FlagSet) : (s.clearFlags f).resetAsserted = s.resetAsserted := rfl
@[simp] theorem clearFlags_freeCount (s : State) (f : FlagSet) : (s.clearFlags f).freeCount = s.freeCount := rfl
@[simp] theorem clearFlags_pending (s : State) (f : FlagSet) : (s.clearFlags f).pending = s.pending := rfl

-- setEnables
@[simp] theorem setEnables_clock (s : State) (f : FlagSet) : (s.setEnables f).clock = s.clock := rfl
@[simp] theorem setEnables_roster (s : State) (f : FlagSet) : (s.setEnables f).roster = s.roster := rfl
@[simp] theorem setEnables_table (s : State) (f : FlagSet) : (s.setEnables f).table = s.table := rfl
@[simp] theorem setEnables_claims (s : State) (f : FlagSet) : (s.setEnables f).claims = s.claims := rfl
@[simp] theorem setEnables_bus (s : State) (f : FlagSet) : (s.setEnables f).bus = s.bus := rfl
@[simp] theorem setEnables_lights (s : State) (f : FlagSet) : (s.setEnables f).lights = s.lights := rfl
@[simp] theorem setEnables_score (s : State) (f : FlagSet) : (s.setEnables f).score = s.score := rfl
@[simp] theorem setEnables_stop (s : State) (f : FlagSet) : (s.setEnables f).stop = s.stop := rfl
@[simp] theorem setEnables_link (s : State) (f : FlagSet) : (s.setEnables f).link = s.link := rfl
@[simp] theorem setEnables_console (s : State) (f : FlagSet) : (s.setEnables f).console = s.console := rfl
@[simp] theorem setEnables_attention (s : State) (f : FlagSet) : (s.setEnables f).attention = { s.attention with enables := f } := rfl
@[simp] theorem setEnables_settings (s : State) (f : FlagSet) : (s.setEnables f).settings = s.settings := rfl
@[simp] theorem setEnables_store (s : State) (f : FlagSet) : (s.setEnables f).store = s.store := rfl
@[simp] theorem setEnables_uptime (s : State) (f : FlagSet) : (s.setEnables f).uptime = s.uptime := rfl
@[simp] theorem setEnables_resetAsserted (s : State) (f : FlagSet) : (s.setEnables f).resetAsserted = s.resetAsserted := rfl
@[simp] theorem setEnables_freeCount (s : State) (f : FlagSet) : (s.setEnables f).freeCount = s.freeCount := rfl
@[simp] theorem setEnables_pending (s : State) (f : FlagSet) : (s.setEnables f).pending = s.pending := rfl

-- setSlot
@[simp] theorem setSlot_clock (s : State) (n : Nat) (x : Slot) : (s.setSlot n x).clock = s.clock := rfl
@[simp] theorem setSlot_roster (s : State) (n : Nat) (x : Slot) : (s.setSlot n x).roster = { s.roster with slots := set1 s.roster.slots n x } := rfl
@[simp] theorem setSlot_table (s : State) (n : Nat) (x : Slot) : (s.setSlot n x).table = s.table := rfl
@[simp] theorem setSlot_claims (s : State) (n : Nat) (x : Slot) : (s.setSlot n x).claims = s.claims := rfl
@[simp] theorem setSlot_bus (s : State) (n : Nat) (x : Slot) : (s.setSlot n x).bus = s.bus := rfl
@[simp] theorem setSlot_lights (s : State) (n : Nat) (x : Slot) : (s.setSlot n x).lights = s.lights := rfl
@[simp] theorem setSlot_score (s : State) (n : Nat) (x : Slot) : (s.setSlot n x).score = s.score := rfl
@[simp] theorem setSlot_stop (s : State) (n : Nat) (x : Slot) : (s.setSlot n x).stop = s.stop := rfl
@[simp] theorem setSlot_link (s : State) (n : Nat) (x : Slot) : (s.setSlot n x).link = s.link := rfl
@[simp] theorem setSlot_console (s : State) (n : Nat) (x : Slot) : (s.setSlot n x).console = s.console := rfl
@[simp] theorem setSlot_attention (s : State) (n : Nat) (x : Slot) : (s.setSlot n x).attention = s.attention := rfl
@[simp] theorem setSlot_settings (s : State) (n : Nat) (x : Slot) : (s.setSlot n x).settings = s.settings := rfl
@[simp] theorem setSlot_store (s : State) (n : Nat) (x : Slot) : (s.setSlot n x).store = s.store := rfl
@[simp] theorem setSlot_uptime (s : State) (n : Nat) (x : Slot) : (s.setSlot n x).uptime = s.uptime := rfl
@[simp] theorem setSlot_resetAsserted (s : State) (n : Nat) (x : Slot) : (s.setSlot n x).resetAsserted = s.resetAsserted := rfl
@[simp] theorem setSlot_freeCount (s : State) (n : Nat) (x : Slot) : (s.setSlot n x).freeCount = s.freeCount := rfl
@[simp] theorem setSlot_pending (s : State) (n : Nat) (x : Slot) : (s.setSlot n x).pending = s.pending := rfl

-- modSlot
@[simp] theorem modSlot_clock (s : State) (n : Nat) (f : Slot → Slot) : (s.modSlot n f).clock = s.clock := rfl
@[simp] theorem modSlot_roster (s : State) (n : Nat) (f : Slot → Slot) : (s.modSlot n f).roster = { s.roster with slots := set1 s.roster.slots n (f (s.slot n)) } := rfl
@[simp] theorem modSlot_table (s : State) (n : Nat) (f : Slot → Slot) : (s.modSlot n f).table = s.table := rfl
@[simp] theorem modSlot_claims (s : State) (n : Nat) (f : Slot → Slot) : (s.modSlot n f).claims = s.claims := rfl
@[simp] theorem modSlot_bus (s : State) (n : Nat) (f : Slot → Slot) : (s.modSlot n f).bus = s.bus := rfl
@[simp] theorem modSlot_lights (s : State) (n : Nat) (f : Slot → Slot) : (s.modSlot n f).lights = s.lights := rfl
@[simp] theorem modSlot_score (s : State) (n : Nat) (f : Slot → Slot) : (s.modSlot n f).score = s.score := rfl
@[simp] theorem modSlot_stop (s : State) (n : Nat) (f : Slot → Slot) : (s.modSlot n f).stop = s.stop := rfl
@[simp] theorem modSlot_link (s : State) (n : Nat) (f : Slot → Slot) : (s.modSlot n f).link = s.link := rfl
@[simp] theorem modSlot_console (s : State) (n : Nat) (f : Slot → Slot) : (s.modSlot n f).console = s.console := rfl
@[simp] theorem modSlot_attention (s : State) (n : Nat) (f : Slot → Slot) : (s.modSlot n f).attention = s.attention := rfl
@[simp] theorem modSlot_settings (s : State) (n : Nat) (f : Slot → Slot) : (s.modSlot n f).settings = s.settings := rfl
@[simp] theorem modSlot_store (s : State) (n : Nat) (f : Slot → Slot) : (s.modSlot n f).store = s.store := rfl
@[simp] theorem modSlot_uptime (s : State) (n : Nat) (f : Slot → Slot) : (s.modSlot n f).uptime = s.uptime := rfl
@[simp] theorem modSlot_resetAsserted (s : State) (n : Nat) (f : Slot → Slot) : (s.modSlot n f).resetAsserted = s.resetAsserted := rfl
@[simp] theorem modSlot_freeCount (s : State) (n : Nat) (f : Slot → Slot) : (s.modSlot n f).freeCount = s.freeCount := rfl
@[simp] theorem modSlot_pending (s : State) (n : Nat) (f : Slot → Slot) : (s.modSlot n f).pending = s.pending := rfl

-- setStrangers
@[simp] theorem setStrangers_clock (s : State) (l : List Word) : (s.setStrangers l).clock = s.clock := rfl
@[simp] theorem setStrangers_roster (s : State) (l : List Word) : (s.setStrangers l).roster = { s.roster with strangers := l } := rfl
@[simp] theorem setStrangers_table (s : State) (l : List Word) : (s.setStrangers l).table = s.table := rfl
@[simp] theorem setStrangers_claims (s : State) (l : List Word) : (s.setStrangers l).claims = s.claims := rfl
@[simp] theorem setStrangers_bus (s : State) (l : List Word) : (s.setStrangers l).bus = s.bus := rfl
@[simp] theorem setStrangers_lights (s : State) (l : List Word) : (s.setStrangers l).lights = s.lights := rfl
@[simp] theorem setStrangers_score (s : State) (l : List Word) : (s.setStrangers l).score = s.score := rfl
@[simp] theorem setStrangers_stop (s : State) (l : List Word) : (s.setStrangers l).stop = s.stop := rfl
@[simp] theorem setStrangers_link (s : State) (l : List Word) : (s.setStrangers l).link = s.link := rfl
@[simp] theorem setStrangers_console (s : State) (l : List Word) : (s.setStrangers l).console = s.console := rfl
@[simp] theorem setStrangers_attention (s : State) (l : List Word) : (s.setStrangers l).attention = s.attention := rfl
@[simp] theorem setStrangers_settings (s : State) (l : List Word) : (s.setStrangers l).settings = s.settings := rfl
@[simp] theorem setStrangers_store (s : State) (l : List Word) : (s.setStrangers l).store = s.store := rfl
@[simp] theorem setStrangers_uptime (s : State) (l : List Word) : (s.setStrangers l).uptime = s.uptime := rfl
@[simp] theorem setStrangers_resetAsserted (s : State) (l : List Word) : (s.setStrangers l).resetAsserted = s.resetAsserted := rfl
@[simp] theorem setStrangers_freeCount (s : State) (l : List Word) : (s.setStrangers l).freeCount = s.freeCount := rfl
@[simp] theorem setStrangers_pending (s : State) (l : List Word) : (s.setStrangers l).pending = s.pending := rfl

-- setDef
@[simp] theorem setDef_clock (s : State) (e : Nat) (x : ElementDef) : (s.setDef e x).clock = s.clock := rfl
@[simp] theorem setDef_roster (s : State) (e : Nat) (x : ElementDef) : (s.setDef e x).roster = s.roster := rfl
@[simp] theorem setDef_table (s : State) (e : Nat) (x : ElementDef) : (s.setDef e x).table = { s.table with defs := set1 s.table.defs e x } := rfl
@[simp] theorem setDef_claims (s : State) (e : Nat) (x : ElementDef) : (s.setDef e x).claims = s.claims := rfl
@[simp] theorem setDef_bus (s : State) (e : Nat) (x : ElementDef) : (s.setDef e x).bus = s.bus := rfl
@[simp] theorem setDef_lights (s : State) (e : Nat) (x : ElementDef) : (s.setDef e x).lights = s.lights := rfl
@[simp] theorem setDef_score (s : State) (e : Nat) (x : ElementDef) : (s.setDef e x).score = s.score := rfl
@[simp] theorem setDef_stop (s : State) (e : Nat) (x : ElementDef) : (s.setDef e x).stop = s.stop := rfl
@[simp] theorem setDef_link (s : State) (e : Nat) (x : ElementDef) : (s.setDef e x).link = s.link := rfl
@[simp] theorem setDef_console (s : State) (e : Nat) (x : ElementDef) : (s.setDef e x).console = s.console := rfl
@[simp] theorem setDef_attention (s : State) (e : Nat) (x : ElementDef) : (s.setDef e x).attention = s.attention := rfl
@[simp] theorem setDef_settings (s : State) (e : Nat) (x : ElementDef) : (s.setDef e x).settings = s.settings := rfl
@[simp] theorem setDef_store (s : State) (e : Nat) (x : ElementDef) : (s.setDef e x).store = s.store := rfl
@[simp] theorem setDef_uptime (s : State) (e : Nat) (x : ElementDef) : (s.setDef e x).uptime = s.uptime := rfl
@[simp] theorem setDef_resetAsserted (s : State) (e : Nat) (x : ElementDef) : (s.setDef e x).resetAsserted = s.resetAsserted := rfl
@[simp] theorem setDef_freeCount (s : State) (e : Nat) (x : ElementDef) : (s.setDef e x).freeCount = s.freeCount := rfl
@[simp] theorem setDef_pending (s : State) (e : Nat) (x : ElementDef) : (s.setDef e x).pending = s.pending := rfl

-- setRun
@[simp] theorem setRun_clock (s : State) (e : Nat) (x : ElementRun) : (s.setRun e x).clock = s.clock := rfl
@[simp] theorem setRun_roster (s : State) (e : Nat) (x : ElementRun) : (s.setRun e x).roster = s.roster := rfl
@[simp] theorem setRun_table (s : State) (e : Nat) (x : ElementRun) : (s.setRun e x).table = { s.table with runs := set1 s.table.runs e x } := rfl
@[simp] theorem setRun_claims (s : State) (e : Nat) (x : ElementRun) : (s.setRun e x).claims = s.claims := rfl
@[simp] theorem setRun_bus (s : State) (e : Nat) (x : ElementRun) : (s.setRun e x).bus = s.bus := rfl
@[simp] theorem setRun_lights (s : State) (e : Nat) (x : ElementRun) : (s.setRun e x).lights = s.lights := rfl
@[simp] theorem setRun_score (s : State) (e : Nat) (x : ElementRun) : (s.setRun e x).score = s.score := rfl
@[simp] theorem setRun_stop (s : State) (e : Nat) (x : ElementRun) : (s.setRun e x).stop = s.stop := rfl
@[simp] theorem setRun_link (s : State) (e : Nat) (x : ElementRun) : (s.setRun e x).link = s.link := rfl
@[simp] theorem setRun_console (s : State) (e : Nat) (x : ElementRun) : (s.setRun e x).console = s.console := rfl
@[simp] theorem setRun_attention (s : State) (e : Nat) (x : ElementRun) : (s.setRun e x).attention = s.attention := rfl
@[simp] theorem setRun_settings (s : State) (e : Nat) (x : ElementRun) : (s.setRun e x).settings = s.settings := rfl
@[simp] theorem setRun_store (s : State) (e : Nat) (x : ElementRun) : (s.setRun e x).store = s.store := rfl
@[simp] theorem setRun_uptime (s : State) (e : Nat) (x : ElementRun) : (s.setRun e x).uptime = s.uptime := rfl
@[simp] theorem setRun_resetAsserted (s : State) (e : Nat) (x : ElementRun) : (s.setRun e x).resetAsserted = s.resetAsserted := rfl
@[simp] theorem setRun_freeCount (s : State) (e : Nat) (x : ElementRun) : (s.setRun e x).freeCount = s.freeCount := rfl
@[simp] theorem setRun_pending (s : State) (e : Nat) (x : ElementRun) : (s.setRun e x).pending = s.pending := rfl

-- modRun
@[simp] theorem modRun_clock (s : State) (e : Nat) (f : ElementRun → ElementRun) : (s.modRun e f).clock = s.clock := rfl
@[simp] theorem modRun_roster (s : State) (e : Nat) (f : ElementRun → ElementRun) : (s.modRun e f).roster = s.roster := rfl
@[simp] theorem modRun_table (s : State) (e : Nat) (f : ElementRun → ElementRun) : (s.modRun e f).table = { s.table with runs := set1 s.table.runs e (f (s.run e)) } := rfl
@[simp] theorem modRun_claims (s : State) (e : Nat) (f : ElementRun → ElementRun) : (s.modRun e f).claims = s.claims := rfl
@[simp] theorem modRun_bus (s : State) (e : Nat) (f : ElementRun → ElementRun) : (s.modRun e f).bus = s.bus := rfl
@[simp] theorem modRun_lights (s : State) (e : Nat) (f : ElementRun → ElementRun) : (s.modRun e f).lights = s.lights := rfl
@[simp] theorem modRun_score (s : State) (e : Nat) (f : ElementRun → ElementRun) : (s.modRun e f).score = s.score := rfl
@[simp] theorem modRun_stop (s : State) (e : Nat) (f : ElementRun → ElementRun) : (s.modRun e f).stop = s.stop := rfl
@[simp] theorem modRun_link (s : State) (e : Nat) (f : ElementRun → ElementRun) : (s.modRun e f).link = s.link := rfl
@[simp] theorem modRun_console (s : State) (e : Nat) (f : ElementRun → ElementRun) : (s.modRun e f).console = s.console := rfl
@[simp] theorem modRun_attention (s : State) (e : Nat) (f : ElementRun → ElementRun) : (s.modRun e f).attention = s.attention := rfl
@[simp] theorem modRun_settings (s : State) (e : Nat) (f : ElementRun → ElementRun) : (s.modRun e f).settings = s.settings := rfl
@[simp] theorem modRun_store (s : State) (e : Nat) (f : ElementRun → ElementRun) : (s.modRun e f).store = s.store := rfl
@[simp] theorem modRun_uptime (s : State) (e : Nat) (f : ElementRun → ElementRun) : (s.modRun e f).uptime = s.uptime := rfl
@[simp] theorem modRun_resetAsserted (s : State) (e : Nat) (f : ElementRun → ElementRun) : (s.modRun e f).resetAsserted = s.resetAsserted := rfl
@[simp] theorem modRun_freeCount (s : State) (e : Nat) (f : ElementRun → ElementRun) : (s.modRun e f).freeCount = s.freeCount := rfl
@[simp] theorem modRun_pending (s : State) (e : Nat) (f : ElementRun → ElementRun) : (s.modRun e f).pending = s.pending := rfl

-- setClaim
@[simp] theorem setClaim_clock (s : State) (e : Nat) (x : Claim) : (s.setClaim e x).clock = s.clock := rfl
@[simp] theorem setClaim_roster (s : State) (e : Nat) (x : Claim) : (s.setClaim e x).roster = s.roster := rfl
@[simp] theorem setClaim_table (s : State) (e : Nat) (x : Claim) : (s.setClaim e x).table = s.table := rfl
@[simp] theorem setClaim_claims (s : State) (e : Nat) (x : Claim) : (s.setClaim e x).claims = set1 s.claims e x := rfl
@[simp] theorem setClaim_bus (s : State) (e : Nat) (x : Claim) : (s.setClaim e x).bus = s.bus := rfl
@[simp] theorem setClaim_lights (s : State) (e : Nat) (x : Claim) : (s.setClaim e x).lights = s.lights := rfl
@[simp] theorem setClaim_score (s : State) (e : Nat) (x : Claim) : (s.setClaim e x).score = s.score := rfl
@[simp] theorem setClaim_stop (s : State) (e : Nat) (x : Claim) : (s.setClaim e x).stop = s.stop := rfl
@[simp] theorem setClaim_link (s : State) (e : Nat) (x : Claim) : (s.setClaim e x).link = s.link := rfl
@[simp] theorem setClaim_console (s : State) (e : Nat) (x : Claim) : (s.setClaim e x).console = s.console := rfl
@[simp] theorem setClaim_attention (s : State) (e : Nat) (x : Claim) : (s.setClaim e x).attention = s.attention := rfl
@[simp] theorem setClaim_settings (s : State) (e : Nat) (x : Claim) : (s.setClaim e x).settings = s.settings := rfl
@[simp] theorem setClaim_store (s : State) (e : Nat) (x : Claim) : (s.setClaim e x).store = s.store := rfl
@[simp] theorem setClaim_uptime (s : State) (e : Nat) (x : Claim) : (s.setClaim e x).uptime = s.uptime := rfl
@[simp] theorem setClaim_resetAsserted (s : State) (e : Nat) (x : Claim) : (s.setClaim e x).resetAsserted = s.resetAsserted := rfl
@[simp] theorem setClaim_freeCount (s : State) (e : Nat) (x : Claim) : (s.setClaim e x).freeCount = s.freeCount := rfl
@[simp] theorem setClaim_pending (s : State) (e : Nat) (x : Claim) : (s.setClaim e x).pending = s.pending := rfl

-- setLight
@[simp] theorem setLight_clock (s : State) (e : Nat) (x : Light) : (s.setLight e x).clock = s.clock := rfl
@[simp] theorem setLight_roster (s : State) (e : Nat) (x : Light) : (s.setLight e x).roster = s.roster := rfl
@[simp] theorem setLight_table (s : State) (e : Nat) (x : Light) : (s.setLight e x).table = s.table := rfl
@[simp] theorem setLight_claims (s : State) (e : Nat) (x : Light) : (s.setLight e x).claims = s.claims := rfl
@[simp] theorem setLight_bus (s : State) (e : Nat) (x : Light) : (s.setLight e x).bus = s.bus := rfl
@[simp] theorem setLight_lights (s : State) (e : Nat) (x : Light) : (s.setLight e x).lights = set1 s.lights e x := rfl
@[simp] theorem setLight_score (s : State) (e : Nat) (x : Light) : (s.setLight e x).score = s.score := rfl
@[simp] theorem setLight_stop (s : State) (e : Nat) (x : Light) : (s.setLight e x).stop = s.stop := rfl
@[simp] theorem setLight_link (s : State) (e : Nat) (x : Light) : (s.setLight e x).link = s.link := rfl
@[simp] theorem setLight_console (s : State) (e : Nat) (x : Light) : (s.setLight e x).console = s.console := rfl
@[simp] theorem setLight_attention (s : State) (e : Nat) (x : Light) : (s.setLight e x).attention = s.attention := rfl
@[simp] theorem setLight_settings (s : State) (e : Nat) (x : Light) : (s.setLight e x).settings = s.settings := rfl
@[simp] theorem setLight_store (s : State) (e : Nat) (x : Light) : (s.setLight e x).store = s.store := rfl
@[simp] theorem setLight_uptime (s : State) (e : Nat) (x : Light) : (s.setLight e x).uptime = s.uptime := rfl
@[simp] theorem setLight_resetAsserted (s : State) (e : Nat) (x : Light) : (s.setLight e x).resetAsserted = s.resetAsserted := rfl
@[simp] theorem setLight_freeCount (s : State) (e : Nat) (x : Light) : (s.setLight e x).freeCount = s.freeCount := rfl
@[simp] theorem setLight_pending (s : State) (e : Nat) (x : Light) : (s.setLight e x).pending = s.pending := rfl

-- setAct
@[simp] theorem setAct_clock (s : State) (e : Nat) (x : ActRecord) : (s.setAct e x).clock = s.clock := rfl
@[simp] theorem setAct_roster (s : State) (e : Nat) (x : ActRecord) : (s.setAct e x).roster = s.roster := rfl
@[simp] theorem setAct_table (s : State) (e : Nat) (x : ActRecord) : (s.setAct e x).table = s.table := rfl
@[simp] theorem setAct_claims (s : State) (e : Nat) (x : ActRecord) : (s.setAct e x).claims = s.claims := rfl
@[simp] theorem setAct_bus (s : State) (e : Nat) (x : ActRecord) : (s.setAct e x).bus = { s.bus with acts := set1 s.bus.acts e x } := rfl
@[simp] theorem setAct_lights (s : State) (e : Nat) (x : ActRecord) : (s.setAct e x).lights = s.lights := rfl
@[simp] theorem setAct_score (s : State) (e : Nat) (x : ActRecord) : (s.setAct e x).score = s.score := rfl
@[simp] theorem setAct_stop (s : State) (e : Nat) (x : ActRecord) : (s.setAct e x).stop = s.stop := rfl
@[simp] theorem setAct_link (s : State) (e : Nat) (x : ActRecord) : (s.setAct e x).link = s.link := rfl
@[simp] theorem setAct_console (s : State) (e : Nat) (x : ActRecord) : (s.setAct e x).console = s.console := rfl
@[simp] theorem setAct_attention (s : State) (e : Nat) (x : ActRecord) : (s.setAct e x).attention = s.attention := rfl
@[simp] theorem setAct_settings (s : State) (e : Nat) (x : ActRecord) : (s.setAct e x).settings = s.settings := rfl
@[simp] theorem setAct_store (s : State) (e : Nat) (x : ActRecord) : (s.setAct e x).store = s.store := rfl
@[simp] theorem setAct_uptime (s : State) (e : Nat) (x : ActRecord) : (s.setAct e x).uptime = s.uptime := rfl
@[simp] theorem setAct_resetAsserted (s : State) (e : Nat) (x : ActRecord) : (s.setAct e x).resetAsserted = s.resetAsserted := rfl
@[simp] theorem setAct_freeCount (s : State) (e : Nat) (x : ActRecord) : (s.setAct e x).freeCount = s.freeCount := rfl
@[simp] theorem setAct_pending (s : State) (e : Nat) (x : ActRecord) : (s.setAct e x).pending = s.pending := rfl

-- setQueue
@[simp] theorem setQueue_clock (s : State) (q : List Entry) : (s.setQueue q).clock = s.clock := rfl
@[simp] theorem setQueue_roster (s : State) (q : List Entry) : (s.setQueue q).roster = s.roster := rfl
@[simp] theorem setQueue_table (s : State) (q : List Entry) : (s.setQueue q).table = s.table := rfl
@[simp] theorem setQueue_claims (s : State) (q : List Entry) : (s.setQueue q).claims = s.claims := rfl
@[simp] theorem setQueue_bus (s : State) (q : List Entry) : (s.setQueue q).bus = { s.bus with queue := q } := rfl
@[simp] theorem setQueue_lights (s : State) (q : List Entry) : (s.setQueue q).lights = s.lights := rfl
@[simp] theorem setQueue_score (s : State) (q : List Entry) : (s.setQueue q).score = s.score := rfl
@[simp] theorem setQueue_stop (s : State) (q : List Entry) : (s.setQueue q).stop = s.stop := rfl
@[simp] theorem setQueue_link (s : State) (q : List Entry) : (s.setQueue q).link = s.link := rfl
@[simp] theorem setQueue_console (s : State) (q : List Entry) : (s.setQueue q).console = s.console := rfl
@[simp] theorem setQueue_attention (s : State) (q : List Entry) : (s.setQueue q).attention = s.attention := rfl
@[simp] theorem setQueue_settings (s : State) (q : List Entry) : (s.setQueue q).settings = s.settings := rfl
@[simp] theorem setQueue_store (s : State) (q : List Entry) : (s.setQueue q).store = s.store := rfl
@[simp] theorem setQueue_uptime (s : State) (q : List Entry) : (s.setQueue q).uptime = s.uptime := rfl
@[simp] theorem setQueue_resetAsserted (s : State) (q : List Entry) : (s.setQueue q).resetAsserted = s.resetAsserted := rfl
@[simp] theorem setQueue_freeCount (s : State) (q : List Entry) : (s.setQueue q).freeCount = s.freeCount := rfl
@[simp] theorem setQueue_pending (s : State) (q : List Entry) : (s.setQueue q).pending = s.pending := rfl

-- setPass
@[simp] theorem setPass_clock (s : State) (p : PassSlot) : (s.setPass p).clock = s.clock := rfl
@[simp] theorem setPass_roster (s : State) (p : PassSlot) : (s.setPass p).roster = s.roster := rfl
@[simp] theorem setPass_table (s : State) (p : PassSlot) : (s.setPass p).table = s.table := rfl
@[simp] theorem setPass_claims (s : State) (p : PassSlot) : (s.setPass p).claims = s.claims := rfl
@[simp] theorem setPass_bus (s : State) (p : PassSlot) : (s.setPass p).bus = { s.bus with pass := p } := rfl
@[simp] theorem setPass_lights (s : State) (p : PassSlot) : (s.setPass p).lights = s.lights := rfl
@[simp] theorem setPass_score (s : State) (p : PassSlot) : (s.setPass p).score = s.score := rfl
@[simp] theorem setPass_stop (s : State) (p : PassSlot) : (s.setPass p).stop = s.stop := rfl
@[simp] theorem setPass_link (s : State) (p : PassSlot) : (s.setPass p).link = s.link := rfl
@[simp] theorem setPass_console (s : State) (p : PassSlot) : (s.setPass p).console = s.console := rfl
@[simp] theorem setPass_attention (s : State) (p : PassSlot) : (s.setPass p).attention = s.attention := rfl
@[simp] theorem setPass_settings (s : State) (p : PassSlot) : (s.setPass p).settings = s.settings := rfl
@[simp] theorem setPass_store (s : State) (p : PassSlot) : (s.setPass p).store = s.store := rfl
@[simp] theorem setPass_uptime (s : State) (p : PassSlot) : (s.setPass p).uptime = s.uptime := rfl
@[simp] theorem setPass_resetAsserted (s : State) (p : PassSlot) : (s.setPass p).resetAsserted = s.resetAsserted := rfl
@[simp] theorem setPass_freeCount (s : State) (p : PassSlot) : (s.setPass p).freeCount = s.freeCount := rfl
@[simp] theorem setPass_pending (s : State) (p : PassSlot) : (s.setPass p).pending = s.pending := rfl

-- setElemScore
@[simp] theorem setElemScore_clock (s : State) (e : Nat) (x : ElementScore) : (s.setElemScore e x).clock = s.clock := rfl
@[simp] theorem setElemScore_roster (s : State) (e : Nat) (x : ElementScore) : (s.setElemScore e x).roster = s.roster := rfl
@[simp] theorem setElemScore_table (s : State) (e : Nat) (x : ElementScore) : (s.setElemScore e x).table = s.table := rfl
@[simp] theorem setElemScore_claims (s : State) (e : Nat) (x : ElementScore) : (s.setElemScore e x).claims = s.claims := rfl
@[simp] theorem setElemScore_bus (s : State) (e : Nat) (x : ElementScore) : (s.setElemScore e x).bus = s.bus := rfl
@[simp] theorem setElemScore_lights (s : State) (e : Nat) (x : ElementScore) : (s.setElemScore e x).lights = s.lights := rfl
@[simp] theorem setElemScore_score (s : State) (e : Nat) (x : ElementScore) : (s.setElemScore e x).score = { s.score with elements := set1 s.score.elements e x } := rfl
@[simp] theorem setElemScore_stop (s : State) (e : Nat) (x : ElementScore) : (s.setElemScore e x).stop = s.stop := rfl
@[simp] theorem setElemScore_link (s : State) (e : Nat) (x : ElementScore) : (s.setElemScore e x).link = s.link := rfl
@[simp] theorem setElemScore_console (s : State) (e : Nat) (x : ElementScore) : (s.setElemScore e x).console = s.console := rfl
@[simp] theorem setElemScore_attention (s : State) (e : Nat) (x : ElementScore) : (s.setElemScore e x).attention = s.attention := rfl
@[simp] theorem setElemScore_settings (s : State) (e : Nat) (x : ElementScore) : (s.setElemScore e x).settings = s.settings := rfl
@[simp] theorem setElemScore_store (s : State) (e : Nat) (x : ElementScore) : (s.setElemScore e x).store = s.store := rfl
@[simp] theorem setElemScore_uptime (s : State) (e : Nat) (x : ElementScore) : (s.setElemScore e x).uptime = s.uptime := rfl
@[simp] theorem setElemScore_resetAsserted (s : State) (e : Nat) (x : ElementScore) : (s.setElemScore e x).resetAsserted = s.resetAsserted := rfl
@[simp] theorem setElemScore_freeCount (s : State) (e : Nat) (x : ElementScore) : (s.setElemScore e x).freeCount = s.freeCount := rfl
@[simp] theorem setElemScore_pending (s : State) (e : Nat) (x : ElementScore) : (s.setElemScore e x).pending = s.pending := rfl

-- setAlliance
@[simp] theorem setAlliance_clock (s : State) (a : Nat) (x : AllianceRecord) : (s.setAlliance a x).clock = s.clock := rfl
@[simp] theorem setAlliance_roster (s : State) (a : Nat) (x : AllianceRecord) : (s.setAlliance a x).roster = s.roster := rfl
@[simp] theorem setAlliance_table (s : State) (a : Nat) (x : AllianceRecord) : (s.setAlliance a x).table = s.table := rfl
@[simp] theorem setAlliance_claims (s : State) (a : Nat) (x : AllianceRecord) : (s.setAlliance a x).claims = s.claims := rfl
@[simp] theorem setAlliance_bus (s : State) (a : Nat) (x : AllianceRecord) : (s.setAlliance a x).bus = s.bus := rfl
@[simp] theorem setAlliance_lights (s : State) (a : Nat) (x : AllianceRecord) : (s.setAlliance a x).lights = s.lights := rfl
@[simp] theorem setAlliance_score (s : State) (a : Nat) (x : AllianceRecord) : (s.setAlliance a x).score = { s.score with alliances := set1 s.score.alliances a x } := rfl
@[simp] theorem setAlliance_stop (s : State) (a : Nat) (x : AllianceRecord) : (s.setAlliance a x).stop = s.stop := rfl
@[simp] theorem setAlliance_link (s : State) (a : Nat) (x : AllianceRecord) : (s.setAlliance a x).link = s.link := rfl
@[simp] theorem setAlliance_console (s : State) (a : Nat) (x : AllianceRecord) : (s.setAlliance a x).console = s.console := rfl
@[simp] theorem setAlliance_attention (s : State) (a : Nat) (x : AllianceRecord) : (s.setAlliance a x).attention = s.attention := rfl
@[simp] theorem setAlliance_settings (s : State) (a : Nat) (x : AllianceRecord) : (s.setAlliance a x).settings = s.settings := rfl
@[simp] theorem setAlliance_store (s : State) (a : Nat) (x : AllianceRecord) : (s.setAlliance a x).store = s.store := rfl
@[simp] theorem setAlliance_uptime (s : State) (a : Nat) (x : AllianceRecord) : (s.setAlliance a x).uptime = s.uptime := rfl
@[simp] theorem setAlliance_resetAsserted (s : State) (a : Nat) (x : AllianceRecord) : (s.setAlliance a x).resetAsserted = s.resetAsserted := rfl
@[simp] theorem setAlliance_freeCount (s : State) (a : Nat) (x : AllianceRecord) : (s.setAlliance a x).freeCount = s.freeCount := rfl
@[simp] theorem setAlliance_pending (s : State) (a : Nat) (x : AllianceRecord) : (s.setAlliance a x).pending = s.pending := rfl

-- setBox
@[simp] theorem setBox_clock (s : State) (n : Nat) (x : Option Message) : (s.setBox n x).clock = s.clock := rfl
@[simp] theorem setBox_roster (s : State) (n : Nat) (x : Option Message) : (s.setBox n x).roster = s.roster := rfl
@[simp] theorem setBox_table (s : State) (n : Nat) (x : Option Message) : (s.setBox n x).table = s.table := rfl
@[simp] theorem setBox_claims (s : State) (n : Nat) (x : Option Message) : (s.setBox n x).claims = s.claims := rfl
@[simp] theorem setBox_bus (s : State) (n : Nat) (x : Option Message) : (s.setBox n x).bus = s.bus := rfl
@[simp] theorem setBox_lights (s : State) (n : Nat) (x : Option Message) : (s.setBox n x).lights = s.lights := rfl
@[simp] theorem setBox_score (s : State) (n : Nat) (x : Option Message) : (s.setBox n x).score = s.score := rfl
@[simp] theorem setBox_stop (s : State) (n : Nat) (x : Option Message) : (s.setBox n x).stop = s.stop := rfl
@[simp] theorem setBox_link (s : State) (n : Nat) (x : Option Message) : (s.setBox n x).link = { s.link with boxes := set1 s.link.boxes n x } := rfl
@[simp] theorem setBox_console (s : State) (n : Nat) (x : Option Message) : (s.setBox n x).console = s.console := rfl
@[simp] theorem setBox_attention (s : State) (n : Nat) (x : Option Message) : (s.setBox n x).attention = s.attention := rfl
@[simp] theorem setBox_settings (s : State) (n : Nat) (x : Option Message) : (s.setBox n x).settings = s.settings := rfl
@[simp] theorem setBox_store (s : State) (n : Nat) (x : Option Message) : (s.setBox n x).store = s.store := rfl
@[simp] theorem setBox_uptime (s : State) (n : Nat) (x : Option Message) : (s.setBox n x).uptime = s.uptime := rfl
@[simp] theorem setBox_resetAsserted (s : State) (n : Nat) (x : Option Message) : (s.setBox n x).resetAsserted = s.resetAsserted := rfl
@[simp] theorem setBox_freeCount (s : State) (n : Nat) (x : Option Message) : (s.setBox n x).freeCount = s.freeCount := rfl
@[simp] theorem setBox_pending (s : State) (n : Nat) (x : Option Message) : (s.setBox n x).pending = s.pending := rfl

-- makeBeaconDue
@[simp] theorem makeBeaconDue_clock (s : State) : (s.makeBeaconDue).clock = s.clock := rfl
@[simp] theorem makeBeaconDue_roster (s : State) : (s.makeBeaconDue).roster = s.roster := rfl
@[simp] theorem makeBeaconDue_table (s : State) : (s.makeBeaconDue).table = s.table := rfl
@[simp] theorem makeBeaconDue_claims (s : State) : (s.makeBeaconDue).claims = s.claims := rfl
@[simp] theorem makeBeaconDue_bus (s : State) : (s.makeBeaconDue).bus = s.bus := rfl
@[simp] theorem makeBeaconDue_lights (s : State) : (s.makeBeaconDue).lights = s.lights := rfl
@[simp] theorem makeBeaconDue_score (s : State) : (s.makeBeaconDue).score = s.score := rfl
@[simp] theorem makeBeaconDue_stop (s : State) : (s.makeBeaconDue).stop = s.stop := rfl
@[simp] theorem makeBeaconDue_link (s : State) : (s.makeBeaconDue).link = { s.link with beaconDue := true } := rfl
@[simp] theorem makeBeaconDue_console (s : State) : (s.makeBeaconDue).console = s.console := rfl
@[simp] theorem makeBeaconDue_attention (s : State) : (s.makeBeaconDue).attention = s.attention := rfl
@[simp] theorem makeBeaconDue_settings (s : State) : (s.makeBeaconDue).settings = s.settings := rfl
@[simp] theorem makeBeaconDue_store (s : State) : (s.makeBeaconDue).store = s.store := rfl
@[simp] theorem makeBeaconDue_uptime (s : State) : (s.makeBeaconDue).uptime = s.uptime := rfl
@[simp] theorem makeBeaconDue_resetAsserted (s : State) : (s.makeBeaconDue).resetAsserted = s.resetAsserted := rfl
@[simp] theorem makeBeaconDue_freeCount (s : State) : (s.makeBeaconDue).freeCount = s.freeCount := rfl
@[simp] theorem makeBeaconDue_pending (s : State) : (s.makeBeaconDue).pending = s.pending := rfl

-- countHold
@[simp] theorem countHold_clock (s : State) (n : Nat) (up : Bool) : (countHold n up s).clock = s.clock := rfl
@[simp] theorem countHold_table (s : State) (n : Nat) (up : Bool) : (countHold n up s).table = s.table := rfl
@[simp] theorem countHold_claims (s : State) (n : Nat) (up : Bool) : (countHold n up s).claims = s.claims := rfl
@[simp] theorem countHold_bus (s : State) (n : Nat) (up : Bool) : (countHold n up s).bus = s.bus := rfl
@[simp] theorem countHold_lights (s : State) (n : Nat) (up : Bool) : (countHold n up s).lights = s.lights := rfl
@[simp] theorem countHold_score (s : State) (n : Nat) (up : Bool) : (countHold n up s).score = s.score := rfl
@[simp] theorem countHold_stop (s : State) (n : Nat) (up : Bool) : (countHold n up s).stop = s.stop := rfl
@[simp] theorem countHold_link (s : State) (n : Nat) (up : Bool) : (countHold n up s).link = s.link := rfl
@[simp] theorem countHold_console (s : State) (n : Nat) (up : Bool) : (countHold n up s).console = s.console := rfl
@[simp] theorem countHold_attention (s : State) (n : Nat) (up : Bool) : (countHold n up s).attention = s.attention := rfl
@[simp] theorem countHold_settings (s : State) (n : Nat) (up : Bool) : (countHold n up s).settings = s.settings := rfl
@[simp] theorem countHold_store (s : State) (n : Nat) (up : Bool) : (countHold n up s).store = s.store := rfl
@[simp] theorem countHold_uptime (s : State) (n : Nat) (up : Bool) : (countHold n up s).uptime = s.uptime := rfl
@[simp] theorem countHold_resetAsserted (s : State) (n : Nat) (up : Bool) : (countHold n up s).resetAsserted = s.resetAsserted := rfl
@[simp] theorem countHold_freeCount (s : State) (n : Nat) (up : Bool) : (countHold n up s).freeCount = s.freeCount := rfl
@[simp] theorem countHold_pending (s : State) (n : Nat) (up : Bool) : (countHold n up s).pending = s.pending := rfl

-- countWait
@[simp] theorem countWait_clock (s : State) (n : Nat) (up : Bool) : (countWait n up s).clock = s.clock := rfl
@[simp] theorem countWait_table (s : State) (n : Nat) (up : Bool) : (countWait n up s).table = s.table := rfl
@[simp] theorem countWait_claims (s : State) (n : Nat) (up : Bool) : (countWait n up s).claims = s.claims := rfl
@[simp] theorem countWait_bus (s : State) (n : Nat) (up : Bool) : (countWait n up s).bus = s.bus := rfl
@[simp] theorem countWait_lights (s : State) (n : Nat) (up : Bool) : (countWait n up s).lights = s.lights := rfl
@[simp] theorem countWait_score (s : State) (n : Nat) (up : Bool) : (countWait n up s).score = s.score := rfl
@[simp] theorem countWait_stop (s : State) (n : Nat) (up : Bool) : (countWait n up s).stop = s.stop := rfl
@[simp] theorem countWait_link (s : State) (n : Nat) (up : Bool) : (countWait n up s).link = s.link := rfl
@[simp] theorem countWait_console (s : State) (n : Nat) (up : Bool) : (countWait n up s).console = s.console := rfl
@[simp] theorem countWait_attention (s : State) (n : Nat) (up : Bool) : (countWait n up s).attention = s.attention := rfl
@[simp] theorem countWait_settings (s : State) (n : Nat) (up : Bool) : (countWait n up s).settings = s.settings := rfl
@[simp] theorem countWait_store (s : State) (n : Nat) (up : Bool) : (countWait n up s).store = s.store := rfl
@[simp] theorem countWait_uptime (s : State) (n : Nat) (up : Bool) : (countWait n up s).uptime = s.uptime := rfl
@[simp] theorem countWait_resetAsserted (s : State) (n : Nat) (up : Bool) : (countWait n up s).resetAsserted = s.resetAsserted := rfl
@[simp] theorem countWait_freeCount (s : State) (n : Nat) (up : Bool) : (countWait n up s).freeCount = s.freeCount := rfl
@[simp] theorem countWait_pending (s : State) (n : Nat) (up : Bool) : (countWait n up s).pending = s.pending := rfl

-- clearLight
@[simp] theorem clearLight_clock (s : State) (e : Nat) : (clearLight e s).clock = s.clock := rfl
@[simp] theorem clearLight_roster (s : State) (e : Nat) : (clearLight e s).roster = s.roster := rfl
@[simp] theorem clearLight_table (s : State) (e : Nat) : (clearLight e s).table = s.table := rfl
@[simp] theorem clearLight_claims (s : State) (e : Nat) : (clearLight e s).claims = s.claims := rfl
@[simp] theorem clearLight_bus (s : State) (e : Nat) : (clearLight e s).bus = s.bus := rfl
@[simp] theorem clearLight_lights (s : State) (e : Nat) : (clearLight e s).lights = set1 s.lights e resetLight := rfl
@[simp] theorem clearLight_score (s : State) (e : Nat) : (clearLight e s).score = s.score := rfl
@[simp] theorem clearLight_stop (s : State) (e : Nat) : (clearLight e s).stop = s.stop := rfl
@[simp] theorem clearLight_link (s : State) (e : Nat) : (clearLight e s).link = s.link := rfl
@[simp] theorem clearLight_console (s : State) (e : Nat) : (clearLight e s).console = s.console := rfl
@[simp] theorem clearLight_attention (s : State) (e : Nat) : (clearLight e s).attention = s.attention := rfl
@[simp] theorem clearLight_settings (s : State) (e : Nat) : (clearLight e s).settings = s.settings := rfl
@[simp] theorem clearLight_store (s : State) (e : Nat) : (clearLight e s).store = s.store := rfl
@[simp] theorem clearLight_uptime (s : State) (e : Nat) : (clearLight e s).uptime = s.uptime := rfl
@[simp] theorem clearLight_resetAsserted (s : State) (e : Nat) : (clearLight e s).resetAsserted = s.resetAsserted := rfl
@[simp] theorem clearLight_freeCount (s : State) (e : Nat) : (clearLight e s).freeCount = s.freeCount := rfl
@[simp] theorem clearLight_pending (s : State) (e : Nat) : (clearLight e s).pending = s.pending := rfl

-- sendRequest
@[simp] theorem sendRequest_clock (s : State) (r : BusRequest) : (sendRequest r s).clock = s.clock := rfl
@[simp] theorem sendRequest_roster (s : State) (r : BusRequest) : (sendRequest r s).roster = s.roster := rfl
@[simp] theorem sendRequest_table (s : State) (r : BusRequest) : (sendRequest r s).table = s.table := rfl
@[simp] theorem sendRequest_claims (s : State) (r : BusRequest) : (sendRequest r s).claims = s.claims := rfl
@[simp] theorem sendRequest_bus (s : State) (r : BusRequest) : (sendRequest r s).bus = { s.bus with current := some { request := r, window := none } } := rfl
@[simp] theorem sendRequest_lights (s : State) (r : BusRequest) : (sendRequest r s).lights = s.lights := rfl
@[simp] theorem sendRequest_score (s : State) (r : BusRequest) : (sendRequest r s).score = s.score := rfl
@[simp] theorem sendRequest_stop (s : State) (r : BusRequest) : (sendRequest r s).stop = s.stop := rfl
@[simp] theorem sendRequest_link (s : State) (r : BusRequest) : (sendRequest r s).link = s.link := rfl
@[simp] theorem sendRequest_console (s : State) (r : BusRequest) : (sendRequest r s).console = s.console := rfl
@[simp] theorem sendRequest_attention (s : State) (r : BusRequest) : (sendRequest r s).attention = s.attention := rfl
@[simp] theorem sendRequest_settings (s : State) (r : BusRequest) : (sendRequest r s).settings = s.settings := rfl
@[simp] theorem sendRequest_store (s : State) (r : BusRequest) : (sendRequest r s).store = s.store := rfl
@[simp] theorem sendRequest_uptime (s : State) (r : BusRequest) : (sendRequest r s).uptime = s.uptime := rfl
@[simp] theorem sendRequest_resetAsserted (s : State) (r : BusRequest) : (sendRequest r s).resetAsserted = s.resetAsserted := rfl
@[simp] theorem sendRequest_freeCount (s : State) (r : BusRequest) : (sendRequest r s).freeCount = s.freeCount := rfl
@[simp] theorem sendRequest_pending (s : State) (r : BusRequest) : (sendRequest r s).pending = s.pending := rfl

-- passArrives
@[simp] theorem passArrives_clock (s : State) (p : PassSlot) : (passArrives p s).clock = s.clock := rfl
@[simp] theorem passArrives_roster (s : State) (p : PassSlot) : (passArrives p s).roster = s.roster := rfl
@[simp] theorem passArrives_table (s : State) (p : PassSlot) : (passArrives p s).table = s.table := rfl
@[simp] theorem passArrives_claims (s : State) (p : PassSlot) : (passArrives p s).claims = s.claims := rfl
@[simp] theorem passArrives_bus (s : State) (p : PassSlot) : (passArrives p s).bus = { s.bus with pass := p } := rfl
@[simp] theorem passArrives_lights (s : State) (p : PassSlot) : (passArrives p s).lights = s.lights := rfl
@[simp] theorem passArrives_score (s : State) (p : PassSlot) : (passArrives p s).score = s.score := rfl
@[simp] theorem passArrives_stop (s : State) (p : PassSlot) : (passArrives p s).stop = s.stop := rfl
@[simp] theorem passArrives_link (s : State) (p : PassSlot) : (passArrives p s).link = s.link := rfl
@[simp] theorem passArrives_console (s : State) (p : PassSlot) : (passArrives p s).console = s.console := rfl
@[simp] theorem passArrives_attention (s : State) (p : PassSlot) : (passArrives p s).attention = { s.attention with flags := s.attention.flags ||| flagBit .passDone } := rfl
@[simp] theorem passArrives_settings (s : State) (p : PassSlot) : (passArrives p s).settings = s.settings := rfl
@[simp] theorem passArrives_store (s : State) (p : PassSlot) : (passArrives p s).store = s.store := rfl
@[simp] theorem passArrives_uptime (s : State) (p : PassSlot) : (passArrives p s).uptime = s.uptime := rfl
@[simp] theorem passArrives_resetAsserted (s : State) (p : PassSlot) : (passArrives p s).resetAsserted = s.resetAsserted := rfl
@[simp] theorem passArrives_freeCount (s : State) (p : PassSlot) : (passArrives p s).freeCount = s.freeCount := rfl
@[simp] theorem passArrives_pending (s : State) (p : PassSlot) : (passArrives p s).pending = s.pending := rfl

-- appendEntry
@[simp] theorem appendEntry_clock (s : State) (x : Entry) : (appendEntry x s).clock = s.clock := rfl
@[simp] theorem appendEntry_roster (s : State) (x : Entry) : (appendEntry x s).roster = s.roster := rfl
@[simp] theorem appendEntry_table (s : State) (x : Entry) : (appendEntry x s).table = s.table := rfl
@[simp] theorem appendEntry_claims (s : State) (x : Entry) : (appendEntry x s).claims = s.claims := rfl
@[simp] theorem appendEntry_bus (s : State) (x : Entry) : (appendEntry x s).bus = { s.bus with queue := s.bus.queue ++ [x] } := rfl
@[simp] theorem appendEntry_lights (s : State) (x : Entry) : (appendEntry x s).lights = s.lights := rfl
@[simp] theorem appendEntry_score (s : State) (x : Entry) : (appendEntry x s).score = s.score := rfl
@[simp] theorem appendEntry_stop (s : State) (x : Entry) : (appendEntry x s).stop = s.stop := rfl
@[simp] theorem appendEntry_link (s : State) (x : Entry) : (appendEntry x s).link = s.link := rfl
@[simp] theorem appendEntry_console (s : State) (x : Entry) : (appendEntry x s).console = s.console := rfl
@[simp] theorem appendEntry_attention (s : State) (x : Entry) : (appendEntry x s).attention = s.attention := rfl
@[simp] theorem appendEntry_settings (s : State) (x : Entry) : (appendEntry x s).settings = s.settings := rfl
@[simp] theorem appendEntry_store (s : State) (x : Entry) : (appendEntry x s).store = s.store := rfl
@[simp] theorem appendEntry_uptime (s : State) (x : Entry) : (appendEntry x s).uptime = s.uptime := rfl
@[simp] theorem appendEntry_resetAsserted (s : State) (x : Entry) : (appendEntry x s).resetAsserted = s.resetAsserted := rfl
@[simp] theorem appendEntry_freeCount (s : State) (x : Entry) : (appendEntry x s).freeCount = s.freeCount := rfl
@[simp] theorem appendEntry_pending (s : State) (x : Entry) : (appendEntry x s).pending = s.pending := rfl

-- receiverDone
@[simp] theorem receiverDone_clock (s : State) : (receiverDone s).clock = s.clock := rfl
@[simp] theorem receiverDone_roster (s : State) : (receiverDone s).roster = s.roster := rfl
@[simp] theorem receiverDone_table (s : State) : (receiverDone s).table = s.table := rfl
@[simp] theorem receiverDone_claims (s : State) : (receiverDone s).claims = s.claims := rfl
@[simp] theorem receiverDone_bus (s : State) : (receiverDone s).bus = s.bus := rfl
@[simp] theorem receiverDone_lights (s : State) : (receiverDone s).lights = s.lights := rfl
@[simp] theorem receiverDone_score (s : State) : (receiverDone s).score = s.score := rfl
@[simp] theorem receiverDone_stop (s : State) : (receiverDone s).stop = s.stop := rfl
@[simp] theorem receiverDone_link (s : State) : (receiverDone s).link = s.link := rfl
@[simp] theorem receiverDone_console (s : State) : (receiverDone s).console = { s.console with receiver := .seeking, gapTimer := none } := rfl
@[simp] theorem receiverDone_attention (s : State) : (receiverDone s).attention = s.attention := rfl
@[simp] theorem receiverDone_settings (s : State) : (receiverDone s).settings = s.settings := rfl
@[simp] theorem receiverDone_store (s : State) : (receiverDone s).store = s.store := rfl
@[simp] theorem receiverDone_uptime (s : State) : (receiverDone s).uptime = s.uptime := rfl
@[simp] theorem receiverDone_resetAsserted (s : State) : (receiverDone s).resetAsserted = s.resetAsserted := rfl
@[simp] theorem receiverDone_freeCount (s : State) : (receiverDone s).freeCount = s.freeCount := rfl
@[simp] theorem receiverDone_pending (s : State) : (receiverDone s).pending = s.pending := rfl

-- holdReply
@[simp] theorem holdReply_clock (s : State) (r : Reply) : (holdReply r s).clock = s.clock := rfl
@[simp] theorem holdReply_roster (s : State) (r : Reply) : (holdReply r s).roster = s.roster := rfl
@[simp] theorem holdReply_table (s : State) (r : Reply) : (holdReply r s).table = s.table := rfl
@[simp] theorem holdReply_claims (s : State) (r : Reply) : (holdReply r s).claims = s.claims := rfl
@[simp] theorem holdReply_bus (s : State) (r : Reply) : (holdReply r s).bus = s.bus := rfl
@[simp] theorem holdReply_lights (s : State) (r : Reply) : (holdReply r s).lights = s.lights := rfl
@[simp] theorem holdReply_score (s : State) (r : Reply) : (holdReply r s).score = s.score := rfl
@[simp] theorem holdReply_stop (s : State) (r : Reply) : (holdReply r s).stop = s.stop := rfl
@[simp] theorem holdReply_link (s : State) (r : Reply) : (holdReply r s).link = s.link := rfl
@[simp] theorem holdReply_console (s : State) (r : Reply) : (holdReply r s).console = { s.console with held := some r } := rfl
@[simp] theorem holdReply_attention (s : State) (r : Reply) : (holdReply r s).attention = s.attention := rfl
@[simp] theorem holdReply_settings (s : State) (r : Reply) : (holdReply r s).settings = s.settings := rfl
@[simp] theorem holdReply_store (s : State) (r : Reply) : (holdReply r s).store = s.store := rfl
@[simp] theorem holdReply_uptime (s : State) (r : Reply) : (holdReply r s).uptime = s.uptime := rfl
@[simp] theorem holdReply_resetAsserted (s : State) (r : Reply) : (holdReply r s).resetAsserted = s.resetAsserted := rfl
@[simp] theorem holdReply_freeCount (s : State) (r : Reply) : (holdReply r s).freeCount = s.freeCount := rfl
@[simp] theorem holdReply_pending (s : State) (r : Reply) : (holdReply r s).pending = s.pending := rfl

-- setStopIn
@[simp] theorem setStopIn_clock (s : State) (b : Bool) : (setStopIn b s).clock = s.clock := rfl
@[simp] theorem setStopIn_roster (s : State) (b : Bool) : (setStopIn b s).roster = s.roster := rfl
@[simp] theorem setStopIn_table (s : State) (b : Bool) : (setStopIn b s).table = s.table := rfl
@[simp] theorem setStopIn_claims (s : State) (b : Bool) : (setStopIn b s).claims = s.claims := rfl
@[simp] theorem setStopIn_bus (s : State) (b : Bool) : (setStopIn b s).bus = s.bus := rfl
@[simp] theorem setStopIn_lights (s : State) (b : Bool) : (setStopIn b s).lights = s.lights := rfl
@[simp] theorem setStopIn_score (s : State) (b : Bool) : (setStopIn b s).score = s.score := rfl
@[simp] theorem setStopIn_stop (s : State) (b : Bool) : (setStopIn b s).stop = { s.stop with stopIn := b } := rfl
@[simp] theorem setStopIn_link (s : State) (b : Bool) : (setStopIn b s).link = s.link := rfl
@[simp] theorem setStopIn_console (s : State) (b : Bool) : (setStopIn b s).console = s.console := rfl
@[simp] theorem setStopIn_attention (s : State) (b : Bool) : (setStopIn b s).attention = s.attention := rfl
@[simp] theorem setStopIn_settings (s : State) (b : Bool) : (setStopIn b s).settings = s.settings := rfl
@[simp] theorem setStopIn_store (s : State) (b : Bool) : (setStopIn b s).store = s.store := rfl
@[simp] theorem setStopIn_uptime (s : State) (b : Bool) : (setStopIn b s).uptime = s.uptime := rfl
@[simp] theorem setStopIn_resetAsserted (s : State) (b : Bool) : (setStopIn b s).resetAsserted = s.resetAsserted := rfl
@[simp] theorem setStopIn_freeCount (s : State) (b : Bool) : (setStopIn b s).freeCount = s.freeCount := rfl
@[simp] theorem setStopIn_pending (s : State) (b : Bool) : (setStopIn b s).pending = s.pending := rfl

-- setFlagIf
@[simp] theorem setFlagIf_clock (s : State) (c : Bool) (f : Flag) : (s.setFlagIf c f).clock = s.clock := by
  unfold State.setFlagIf; split <;> rfl
@[simp] theorem setFlagIf_roster (s : State) (c : Bool) (f : Flag) : (s.setFlagIf c f).roster = s.roster := by
  unfold State.setFlagIf; split <;> rfl
@[simp] theorem setFlagIf_table (s : State) (c : Bool) (f : Flag) : (s.setFlagIf c f).table = s.table := by
  unfold State.setFlagIf; split <;> rfl
@[simp] theorem setFlagIf_claims (s : State) (c : Bool) (f : Flag) : (s.setFlagIf c f).claims = s.claims := by
  unfold State.setFlagIf; split <;> rfl
@[simp] theorem setFlagIf_bus (s : State) (c : Bool) (f : Flag) : (s.setFlagIf c f).bus = s.bus := by
  unfold State.setFlagIf; split <;> rfl
@[simp] theorem setFlagIf_lights (s : State) (c : Bool) (f : Flag) : (s.setFlagIf c f).lights = s.lights := by
  unfold State.setFlagIf; split <;> rfl
@[simp] theorem setFlagIf_score (s : State) (c : Bool) (f : Flag) : (s.setFlagIf c f).score = s.score := by
  unfold State.setFlagIf; split <;> rfl
@[simp] theorem setFlagIf_stop (s : State) (c : Bool) (f : Flag) : (s.setFlagIf c f).stop = s.stop := by
  unfold State.setFlagIf; split <;> rfl
@[simp] theorem setFlagIf_link (s : State) (c : Bool) (f : Flag) : (s.setFlagIf c f).link = s.link := by
  unfold State.setFlagIf; split <;> rfl
@[simp] theorem setFlagIf_console (s : State) (c : Bool) (f : Flag) : (s.setFlagIf c f).console = s.console := by
  unfold State.setFlagIf; split <;> rfl
@[simp] theorem setFlagIf_settings (s : State) (c : Bool) (f : Flag) : (s.setFlagIf c f).settings = s.settings := by
  unfold State.setFlagIf; split <;> rfl
@[simp] theorem setFlagIf_store (s : State) (c : Bool) (f : Flag) : (s.setFlagIf c f).store = s.store := by
  unfold State.setFlagIf; split <;> rfl
@[simp] theorem setFlagIf_uptime (s : State) (c : Bool) (f : Flag) : (s.setFlagIf c f).uptime = s.uptime := by
  unfold State.setFlagIf; split <;> rfl
@[simp] theorem setFlagIf_resetAsserted (s : State) (c : Bool) (f : Flag) : (s.setFlagIf c f).resetAsserted = s.resetAsserted := by
  unfold State.setFlagIf; split <;> rfl
@[simp] theorem setFlagIf_freeCount (s : State) (c : Bool) (f : Flag) : (s.setFlagIf c f).freeCount = s.freeCount := by
  unfold State.setFlagIf; split <;> rfl
@[simp] theorem setFlagIf_pending (s : State) (c : Bool) (f : Flag) : (s.setFlagIf c f).pending = s.pending := by
  unfold State.setFlagIf; split <;> rfl
@[simp] theorem setFlagIf_enables (s : State) (c : Bool) (f : Flag) :
    (s.setFlagIf c f).attention.enables = s.attention.enables := by
  unfold State.setFlagIf; split <;> rfl

-- The records that an update does not reach
@[simp] theorem setFlag_reads (s : State) (f : Flag) :
    (∀ j, (s.setFlag f).slot j = s.slot j) ∧ (∀ j, (s.setFlag f).elemDef j = s.elemDef j) ∧ (∀ j, (s.setFlag
    f).defined j = s.defined j) ∧ (∀ j, (s.setFlag f).run j = s.run j) ∧ (∀ j, (s.setFlag f).claim j = s.claim j) ∧
    (∀ j, (s.setFlag f).light j = s.light j) ∧ (∀ j, (s.setFlag f).act j = s.act j) ∧ (∀ j, (s.setFlag f).elemScore
    j = s.elemScore j) ∧ (∀ j, (s.setFlag f).alliance j = s.alliance j) ∧ (∀ j, (s.setFlag f).box j = s.box j) :=
  ⟨fun _ => rfl, fun _ => rfl, fun _ => rfl, fun _ => rfl, fun _ => rfl, fun _ => rfl, fun _ => rfl, fun _ => rfl, fun _ => rfl, fun _ => rfl⟩
@[simp] theorem clearFlags_reads (s : State) (f : FlagSet) :
    (∀ j, (s.clearFlags f).slot j = s.slot j) ∧ (∀ j, (s.clearFlags f).elemDef j = s.elemDef j) ∧ (∀ j,
    (s.clearFlags f).defined j = s.defined j) ∧ (∀ j, (s.clearFlags f).run j = s.run j) ∧ (∀ j, (s.clearFlags
    f).claim j = s.claim j) ∧ (∀ j, (s.clearFlags f).light j = s.light j) ∧ (∀ j, (s.clearFlags f).act j = s.act j)
    ∧ (∀ j, (s.clearFlags f).elemScore j = s.elemScore j) ∧ (∀ j, (s.clearFlags f).alliance j = s.alliance j) ∧ (∀
    j, (s.clearFlags f).box j = s.box j) :=
  ⟨fun _ => rfl, fun _ => rfl, fun _ => rfl, fun _ => rfl, fun _ => rfl, fun _ => rfl, fun _ => rfl, fun _ => rfl, fun _ => rfl, fun _ => rfl⟩
@[simp] theorem setEnables_reads (s : State) (f : FlagSet) :
    (∀ j, (s.setEnables f).slot j = s.slot j) ∧ (∀ j, (s.setEnables f).elemDef j = s.elemDef j) ∧ (∀ j,
    (s.setEnables f).defined j = s.defined j) ∧ (∀ j, (s.setEnables f).run j = s.run j) ∧ (∀ j, (s.setEnables
    f).claim j = s.claim j) ∧ (∀ j, (s.setEnables f).light j = s.light j) ∧ (∀ j, (s.setEnables f).act j = s.act j)
    ∧ (∀ j, (s.setEnables f).elemScore j = s.elemScore j) ∧ (∀ j, (s.setEnables f).alliance j = s.alliance j) ∧ (∀
    j, (s.setEnables f).box j = s.box j) :=
  ⟨fun _ => rfl, fun _ => rfl, fun _ => rfl, fun _ => rfl, fun _ => rfl, fun _ => rfl, fun _ => rfl, fun _ => rfl, fun _ => rfl, fun _ => rfl⟩
@[simp] theorem setSlot_reads (s : State) (n : Nat) (x : Slot) :
    (∀ j, (s.setSlot n x).elemDef j = s.elemDef j) ∧ (∀ j, (s.setSlot n x).defined j = s.defined j) ∧ (∀ j,
    (s.setSlot n x).run j = s.run j) ∧ (∀ j, (s.setSlot n x).claim j = s.claim j) ∧ (∀ j, (s.setSlot n x).light j =
    s.light j) ∧ (∀ j, (s.setSlot n x).act j = s.act j) ∧ (∀ j, (s.setSlot n x).elemScore j = s.elemScore j) ∧ (∀ j,
    (s.setSlot n x).alliance j = s.alliance j) ∧ (∀ j, (s.setSlot n x).box j = s.box j) :=
  ⟨fun _ => rfl, fun _ => rfl, fun _ => rfl, fun _ => rfl, fun _ => rfl, fun _ => rfl, fun _ => rfl, fun _ => rfl, fun _ => rfl⟩
@[simp] theorem modSlot_reads (s : State) (n : Nat) (f : Slot → Slot) :
    (∀ j, (s.modSlot n f).elemDef j = s.elemDef j) ∧ (∀ j, (s.modSlot n f).defined j = s.defined j) ∧ (∀ j,
    (s.modSlot n f).run j = s.run j) ∧ (∀ j, (s.modSlot n f).claim j = s.claim j) ∧ (∀ j, (s.modSlot n f).light j =
    s.light j) ∧ (∀ j, (s.modSlot n f).act j = s.act j) ∧ (∀ j, (s.modSlot n f).elemScore j = s.elemScore j) ∧ (∀ j,
    (s.modSlot n f).alliance j = s.alliance j) ∧ (∀ j, (s.modSlot n f).box j = s.box j) :=
  ⟨fun _ => rfl, fun _ => rfl, fun _ => rfl, fun _ => rfl, fun _ => rfl, fun _ => rfl, fun _ => rfl, fun _ => rfl, fun _ => rfl⟩
@[simp] theorem setStrangers_reads (s : State) (l : List Word) :
    (∀ j, (s.setStrangers l).slot j = s.slot j) ∧ (∀ j, (s.setStrangers l).elemDef j = s.elemDef j) ∧ (∀ j,
    (s.setStrangers l).defined j = s.defined j) ∧ (∀ j, (s.setStrangers l).run j = s.run j) ∧ (∀ j, (s.setStrangers
    l).claim j = s.claim j) ∧ (∀ j, (s.setStrangers l).light j = s.light j) ∧ (∀ j, (s.setStrangers l).act j = s.act
    j) ∧ (∀ j, (s.setStrangers l).elemScore j = s.elemScore j) ∧ (∀ j, (s.setStrangers l).alliance j = s.alliance j)
    ∧ (∀ j, (s.setStrangers l).box j = s.box j) :=
  ⟨fun _ => rfl, fun _ => rfl, fun _ => rfl, fun _ => rfl, fun _ => rfl, fun _ => rfl, fun _ => rfl, fun _ => rfl, fun _ => rfl, fun _ => rfl⟩
@[simp] theorem setDef_reads (s : State) (e : Nat) (x : ElementDef) :
    (∀ j, (s.setDef e x).slot j = s.slot j) ∧ (∀ j, (s.setDef e x).run j = s.run j) ∧ (∀ j, (s.setDef e x).claim j =
    s.claim j) ∧ (∀ j, (s.setDef e x).light j = s.light j) ∧ (∀ j, (s.setDef e x).act j = s.act j) ∧ (∀ j, (s.setDef
    e x).elemScore j = s.elemScore j) ∧ (∀ j, (s.setDef e x).alliance j = s.alliance j) ∧ (∀ j, (s.setDef e x).box j
    = s.box j) :=
  ⟨fun _ => rfl, fun _ => rfl, fun _ => rfl, fun _ => rfl, fun _ => rfl, fun _ => rfl, fun _ => rfl, fun _ => rfl⟩
@[simp] theorem setRun_reads (s : State) (e : Nat) (x : ElementRun) :
    (∀ j, (s.setRun e x).slot j = s.slot j) ∧ (∀ j, (s.setRun e x).elemDef j = s.elemDef j) ∧ (∀ j, (s.setRun e
    x).defined j = s.defined j) ∧ (∀ j, (s.setRun e x).claim j = s.claim j) ∧ (∀ j, (s.setRun e x).light j = s.light
    j) ∧ (∀ j, (s.setRun e x).act j = s.act j) ∧ (∀ j, (s.setRun e x).elemScore j = s.elemScore j) ∧ (∀ j, (s.setRun
    e x).alliance j = s.alliance j) ∧ (∀ j, (s.setRun e x).box j = s.box j) :=
  ⟨fun _ => rfl, fun _ => rfl, fun _ => rfl, fun _ => rfl, fun _ => rfl, fun _ => rfl, fun _ => rfl, fun _ => rfl, fun _ => rfl⟩
@[simp] theorem modRun_reads (s : State) (e : Nat) (f : ElementRun → ElementRun) :
    (∀ j, (s.modRun e f).slot j = s.slot j) ∧ (∀ j, (s.modRun e f).elemDef j = s.elemDef j) ∧ (∀ j, (s.modRun e
    f).defined j = s.defined j) ∧ (∀ j, (s.modRun e f).claim j = s.claim j) ∧ (∀ j, (s.modRun e f).light j = s.light
    j) ∧ (∀ j, (s.modRun e f).act j = s.act j) ∧ (∀ j, (s.modRun e f).elemScore j = s.elemScore j) ∧ (∀ j, (s.modRun
    e f).alliance j = s.alliance j) ∧ (∀ j, (s.modRun e f).box j = s.box j) :=
  ⟨fun _ => rfl, fun _ => rfl, fun _ => rfl, fun _ => rfl, fun _ => rfl, fun _ => rfl, fun _ => rfl, fun _ => rfl, fun _ => rfl⟩
@[simp] theorem setClaim_reads (s : State) (e : Nat) (x : Claim) :
    (∀ j, (s.setClaim e x).slot j = s.slot j) ∧ (∀ j, (s.setClaim e x).elemDef j = s.elemDef j) ∧ (∀ j, (s.setClaim
    e x).defined j = s.defined j) ∧ (∀ j, (s.setClaim e x).run j = s.run j) ∧ (∀ j, (s.setClaim e x).light j =
    s.light j) ∧ (∀ j, (s.setClaim e x).act j = s.act j) ∧ (∀ j, (s.setClaim e x).elemScore j = s.elemScore j) ∧ (∀
    j, (s.setClaim e x).alliance j = s.alliance j) ∧ (∀ j, (s.setClaim e x).box j = s.box j) :=
  ⟨fun _ => rfl, fun _ => rfl, fun _ => rfl, fun _ => rfl, fun _ => rfl, fun _ => rfl, fun _ => rfl, fun _ => rfl, fun _ => rfl⟩
@[simp] theorem setLight_reads (s : State) (e : Nat) (x : Light) :
    (∀ j, (s.setLight e x).slot j = s.slot j) ∧ (∀ j, (s.setLight e x).elemDef j = s.elemDef j) ∧ (∀ j, (s.setLight
    e x).defined j = s.defined j) ∧ (∀ j, (s.setLight e x).run j = s.run j) ∧ (∀ j, (s.setLight e x).claim j =
    s.claim j) ∧ (∀ j, (s.setLight e x).act j = s.act j) ∧ (∀ j, (s.setLight e x).elemScore j = s.elemScore j) ∧ (∀
    j, (s.setLight e x).alliance j = s.alliance j) ∧ (∀ j, (s.setLight e x).box j = s.box j) :=
  ⟨fun _ => rfl, fun _ => rfl, fun _ => rfl, fun _ => rfl, fun _ => rfl, fun _ => rfl, fun _ => rfl, fun _ => rfl, fun _ => rfl⟩
@[simp] theorem setAct_reads (s : State) (e : Nat) (x : ActRecord) :
    (∀ j, (s.setAct e x).slot j = s.slot j) ∧ (∀ j, (s.setAct e x).elemDef j = s.elemDef j) ∧ (∀ j, (s.setAct e
    x).defined j = s.defined j) ∧ (∀ j, (s.setAct e x).run j = s.run j) ∧ (∀ j, (s.setAct e x).claim j = s.claim j)
    ∧ (∀ j, (s.setAct e x).light j = s.light j) ∧ (∀ j, (s.setAct e x).elemScore j = s.elemScore j) ∧ (∀ j,
    (s.setAct e x).alliance j = s.alliance j) ∧ (∀ j, (s.setAct e x).box j = s.box j) :=
  ⟨fun _ => rfl, fun _ => rfl, fun _ => rfl, fun _ => rfl, fun _ => rfl, fun _ => rfl, fun _ => rfl, fun _ => rfl, fun _ => rfl⟩
@[simp] theorem setQueue_reads (s : State) (q : List Entry) :
    (∀ j, (s.setQueue q).slot j = s.slot j) ∧ (∀ j, (s.setQueue q).elemDef j = s.elemDef j) ∧ (∀ j, (s.setQueue
    q).defined j = s.defined j) ∧ (∀ j, (s.setQueue q).run j = s.run j) ∧ (∀ j, (s.setQueue q).claim j = s.claim j)
    ∧ (∀ j, (s.setQueue q).light j = s.light j) ∧ (∀ j, (s.setQueue q).act j = s.act j) ∧ (∀ j, (s.setQueue
    q).elemScore j = s.elemScore j) ∧ (∀ j, (s.setQueue q).alliance j = s.alliance j) ∧ (∀ j, (s.setQueue q).box j =
    s.box j) :=
  ⟨fun _ => rfl, fun _ => rfl, fun _ => rfl, fun _ => rfl, fun _ => rfl, fun _ => rfl, fun _ => rfl, fun _ => rfl, fun _ => rfl, fun _ => rfl⟩
@[simp] theorem setPass_reads (s : State) (p : PassSlot) :
    (∀ j, (s.setPass p).slot j = s.slot j) ∧ (∀ j, (s.setPass p).elemDef j = s.elemDef j) ∧ (∀ j, (s.setPass
    p).defined j = s.defined j) ∧ (∀ j, (s.setPass p).run j = s.run j) ∧ (∀ j, (s.setPass p).claim j = s.claim j) ∧
    (∀ j, (s.setPass p).light j = s.light j) ∧ (∀ j, (s.setPass p).act j = s.act j) ∧ (∀ j, (s.setPass p).elemScore
    j = s.elemScore j) ∧ (∀ j, (s.setPass p).alliance j = s.alliance j) ∧ (∀ j, (s.setPass p).box j = s.box j) :=
  ⟨fun _ => rfl, fun _ => rfl, fun _ => rfl, fun _ => rfl, fun _ => rfl, fun _ => rfl, fun _ => rfl, fun _ => rfl, fun _ => rfl, fun _ => rfl⟩
@[simp] theorem setElemScore_reads (s : State) (e : Nat) (x : ElementScore) :
    (∀ j, (s.setElemScore e x).slot j = s.slot j) ∧ (∀ j, (s.setElemScore e x).elemDef j = s.elemDef j) ∧ (∀ j,
    (s.setElemScore e x).defined j = s.defined j) ∧ (∀ j, (s.setElemScore e x).run j = s.run j) ∧ (∀ j,
    (s.setElemScore e x).claim j = s.claim j) ∧ (∀ j, (s.setElemScore e x).light j = s.light j) ∧ (∀ j,
    (s.setElemScore e x).act j = s.act j) ∧ (∀ j, (s.setElemScore e x).alliance j = s.alliance j) ∧ (∀ j,
    (s.setElemScore e x).box j = s.box j) :=
  ⟨fun _ => rfl, fun _ => rfl, fun _ => rfl, fun _ => rfl, fun _ => rfl, fun _ => rfl, fun _ => rfl, fun _ => rfl, fun _ => rfl⟩
@[simp] theorem setAlliance_reads (s : State) (a : Nat) (x : AllianceRecord) :
    (∀ j, (s.setAlliance a x).slot j = s.slot j) ∧ (∀ j, (s.setAlliance a x).elemDef j = s.elemDef j) ∧ (∀ j,
    (s.setAlliance a x).defined j = s.defined j) ∧ (∀ j, (s.setAlliance a x).run j = s.run j) ∧ (∀ j, (s.setAlliance
    a x).claim j = s.claim j) ∧ (∀ j, (s.setAlliance a x).light j = s.light j) ∧ (∀ j, (s.setAlliance a x).act j =
    s.act j) ∧ (∀ j, (s.setAlliance a x).elemScore j = s.elemScore j) ∧ (∀ j, (s.setAlliance a x).box j = s.box j) :=
  ⟨fun _ => rfl, fun _ => rfl, fun _ => rfl, fun _ => rfl, fun _ => rfl, fun _ => rfl, fun _ => rfl, fun _ => rfl, fun _ => rfl⟩
@[simp] theorem setBox_reads (s : State) (n : Nat) (x : Option Message) :
    (∀ j, (s.setBox n x).slot j = s.slot j) ∧ (∀ j, (s.setBox n x).elemDef j = s.elemDef j) ∧ (∀ j, (s.setBox n
    x).defined j = s.defined j) ∧ (∀ j, (s.setBox n x).run j = s.run j) ∧ (∀ j, (s.setBox n x).claim j = s.claim j)
    ∧ (∀ j, (s.setBox n x).light j = s.light j) ∧ (∀ j, (s.setBox n x).act j = s.act j) ∧ (∀ j, (s.setBox n
    x).elemScore j = s.elemScore j) ∧ (∀ j, (s.setBox n x).alliance j = s.alliance j) :=
  ⟨fun _ => rfl, fun _ => rfl, fun _ => rfl, fun _ => rfl, fun _ => rfl, fun _ => rfl, fun _ => rfl, fun _ => rfl, fun _ => rfl⟩
@[simp] theorem makeBeaconDue_reads (s : State) :
    (∀ j, (s.makeBeaconDue).slot j = s.slot j) ∧ (∀ j, (s.makeBeaconDue).elemDef j = s.elemDef j) ∧ (∀ j,
    (s.makeBeaconDue).defined j = s.defined j) ∧ (∀ j, (s.makeBeaconDue).run j = s.run j) ∧ (∀ j,
    (s.makeBeaconDue).claim j = s.claim j) ∧ (∀ j, (s.makeBeaconDue).light j = s.light j) ∧ (∀ j,
    (s.makeBeaconDue).act j = s.act j) ∧ (∀ j, (s.makeBeaconDue).elemScore j = s.elemScore j) ∧ (∀ j,
    (s.makeBeaconDue).alliance j = s.alliance j) ∧ (∀ j, (s.makeBeaconDue).box j = s.box j) :=
  ⟨fun _ => rfl, fun _ => rfl, fun _ => rfl, fun _ => rfl, fun _ => rfl, fun _ => rfl, fun _ => rfl, fun _ => rfl, fun _ => rfl, fun _ => rfl⟩
@[simp] theorem countHold_reads (s : State) (n : Nat) (up : Bool) :
    (∀ j, (countHold n up s).elemDef j = s.elemDef j) ∧ (∀ j, (countHold n up s).defined j = s.defined j) ∧ (∀ j,
    (countHold n up s).run j = s.run j) ∧ (∀ j, (countHold n up s).claim j = s.claim j) ∧ (∀ j, (countHold n up
    s).light j = s.light j) ∧ (∀ j, (countHold n up s).act j = s.act j) ∧ (∀ j, (countHold n up s).elemScore j =
    s.elemScore j) ∧ (∀ j, (countHold n up s).alliance j = s.alliance j) ∧ (∀ j, (countHold n up s).box j = s.box j) :=
  ⟨fun _ => rfl, fun _ => rfl, fun _ => rfl, fun _ => rfl, fun _ => rfl, fun _ => rfl, fun _ => rfl, fun _ => rfl, fun _ => rfl⟩
@[simp] theorem countWait_reads (s : State) (n : Nat) (up : Bool) :
    (∀ j, (countWait n up s).elemDef j = s.elemDef j) ∧ (∀ j, (countWait n up s).defined j = s.defined j) ∧ (∀ j,
    (countWait n up s).run j = s.run j) ∧ (∀ j, (countWait n up s).claim j = s.claim j) ∧ (∀ j, (countWait n up
    s).light j = s.light j) ∧ (∀ j, (countWait n up s).act j = s.act j) ∧ (∀ j, (countWait n up s).elemScore j =
    s.elemScore j) ∧ (∀ j, (countWait n up s).alliance j = s.alliance j) ∧ (∀ j, (countWait n up s).box j = s.box j) :=
  ⟨fun _ => rfl, fun _ => rfl, fun _ => rfl, fun _ => rfl, fun _ => rfl, fun _ => rfl, fun _ => rfl, fun _ => rfl, fun _ => rfl⟩
@[simp] theorem clearLight_reads (s : State) (e : Nat) :
    (∀ j, (clearLight e s).slot j = s.slot j) ∧ (∀ j, (clearLight e s).elemDef j = s.elemDef j) ∧ (∀ j, (clearLight
    e s).defined j = s.defined j) ∧ (∀ j, (clearLight e s).run j = s.run j) ∧ (∀ j, (clearLight e s).claim j =
    s.claim j) ∧ (∀ j, (clearLight e s).act j = s.act j) ∧ (∀ j, (clearLight e s).elemScore j = s.elemScore j) ∧ (∀
    j, (clearLight e s).alliance j = s.alliance j) ∧ (∀ j, (clearLight e s).box j = s.box j) :=
  ⟨fun _ => rfl, fun _ => rfl, fun _ => rfl, fun _ => rfl, fun _ => rfl, fun _ => rfl, fun _ => rfl, fun _ => rfl, fun _ => rfl⟩
@[simp] theorem sendRequest_reads (s : State) (r : BusRequest) :
    (∀ j, (sendRequest r s).slot j = s.slot j) ∧ (∀ j, (sendRequest r s).elemDef j = s.elemDef j) ∧ (∀ j,
    (sendRequest r s).defined j = s.defined j) ∧ (∀ j, (sendRequest r s).run j = s.run j) ∧ (∀ j, (sendRequest r
    s).claim j = s.claim j) ∧ (∀ j, (sendRequest r s).light j = s.light j) ∧ (∀ j, (sendRequest r s).act j = s.act
    j) ∧ (∀ j, (sendRequest r s).elemScore j = s.elemScore j) ∧ (∀ j, (sendRequest r s).alliance j = s.alliance j) ∧
    (∀ j, (sendRequest r s).box j = s.box j) :=
  ⟨fun _ => rfl, fun _ => rfl, fun _ => rfl, fun _ => rfl, fun _ => rfl, fun _ => rfl, fun _ => rfl, fun _ => rfl, fun _ => rfl, fun _ => rfl⟩
@[simp] theorem passArrives_reads (s : State) (p : PassSlot) :
    (∀ j, (passArrives p s).slot j = s.slot j) ∧ (∀ j, (passArrives p s).elemDef j = s.elemDef j) ∧ (∀ j,
    (passArrives p s).defined j = s.defined j) ∧ (∀ j, (passArrives p s).run j = s.run j) ∧ (∀ j, (passArrives p
    s).claim j = s.claim j) ∧ (∀ j, (passArrives p s).light j = s.light j) ∧ (∀ j, (passArrives p s).act j = s.act
    j) ∧ (∀ j, (passArrives p s).elemScore j = s.elemScore j) ∧ (∀ j, (passArrives p s).alliance j = s.alliance j) ∧
    (∀ j, (passArrives p s).box j = s.box j) :=
  ⟨fun _ => rfl, fun _ => rfl, fun _ => rfl, fun _ => rfl, fun _ => rfl, fun _ => rfl, fun _ => rfl, fun _ => rfl, fun _ => rfl, fun _ => rfl⟩
@[simp] theorem appendEntry_reads (s : State) (x : Entry) :
    (∀ j, (appendEntry x s).slot j = s.slot j) ∧ (∀ j, (appendEntry x s).elemDef j = s.elemDef j) ∧ (∀ j,
    (appendEntry x s).defined j = s.defined j) ∧ (∀ j, (appendEntry x s).run j = s.run j) ∧ (∀ j, (appendEntry x
    s).claim j = s.claim j) ∧ (∀ j, (appendEntry x s).light j = s.light j) ∧ (∀ j, (appendEntry x s).act j = s.act
    j) ∧ (∀ j, (appendEntry x s).elemScore j = s.elemScore j) ∧ (∀ j, (appendEntry x s).alliance j = s.alliance j) ∧
    (∀ j, (appendEntry x s).box j = s.box j) :=
  ⟨fun _ => rfl, fun _ => rfl, fun _ => rfl, fun _ => rfl, fun _ => rfl, fun _ => rfl, fun _ => rfl, fun _ => rfl, fun _ => rfl, fun _ => rfl⟩
@[simp] theorem receiverDone_reads (s : State) :
    (∀ j, (receiverDone s).slot j = s.slot j) ∧ (∀ j, (receiverDone s).elemDef j = s.elemDef j) ∧ (∀ j,
    (receiverDone s).defined j = s.defined j) ∧ (∀ j, (receiverDone s).run j = s.run j) ∧ (∀ j, (receiverDone
    s).claim j = s.claim j) ∧ (∀ j, (receiverDone s).light j = s.light j) ∧ (∀ j, (receiverDone s).act j = s.act j)
    ∧ (∀ j, (receiverDone s).elemScore j = s.elemScore j) ∧ (∀ j, (receiverDone s).alliance j = s.alliance j) ∧ (∀
    j, (receiverDone s).box j = s.box j) :=
  ⟨fun _ => rfl, fun _ => rfl, fun _ => rfl, fun _ => rfl, fun _ => rfl, fun _ => rfl, fun _ => rfl, fun _ => rfl, fun _ => rfl, fun _ => rfl⟩
@[simp] theorem holdReply_reads (s : State) (r : Reply) :
    (∀ j, (holdReply r s).slot j = s.slot j) ∧ (∀ j, (holdReply r s).elemDef j = s.elemDef j) ∧ (∀ j, (holdReply r
    s).defined j = s.defined j) ∧ (∀ j, (holdReply r s).run j = s.run j) ∧ (∀ j, (holdReply r s).claim j = s.claim
    j) ∧ (∀ j, (holdReply r s).light j = s.light j) ∧ (∀ j, (holdReply r s).act j = s.act j) ∧ (∀ j, (holdReply r
    s).elemScore j = s.elemScore j) ∧ (∀ j, (holdReply r s).alliance j = s.alliance j) ∧ (∀ j, (holdReply r s).box j
    = s.box j) :=
  ⟨fun _ => rfl, fun _ => rfl, fun _ => rfl, fun _ => rfl, fun _ => rfl, fun _ => rfl, fun _ => rfl, fun _ => rfl, fun _ => rfl, fun _ => rfl⟩
@[simp] theorem setStopIn_reads (s : State) (b : Bool) :
    (∀ j, (setStopIn b s).slot j = s.slot j) ∧ (∀ j, (setStopIn b s).elemDef j = s.elemDef j) ∧ (∀ j, (setStopIn b
    s).defined j = s.defined j) ∧ (∀ j, (setStopIn b s).run j = s.run j) ∧ (∀ j, (setStopIn b s).claim j = s.claim
    j) ∧ (∀ j, (setStopIn b s).light j = s.light j) ∧ (∀ j, (setStopIn b s).act j = s.act j) ∧ (∀ j, (setStopIn b
    s).elemScore j = s.elemScore j) ∧ (∀ j, (setStopIn b s).alliance j = s.alliance j) ∧ (∀ j, (setStopIn b s).box j
    = s.box j) :=
  ⟨fun _ => rfl, fun _ => rfl, fun _ => rfl, fun _ => rfl, fun _ => rfl, fun _ => rfl, fun _ => rfl, fun _ => rfl, fun _ => rfl, fun _ => rfl⟩
@[simp] theorem setFlagIf_reads (s : State) (c : Bool) (f : Flag) :
    (∀ j, (s.setFlagIf c f).slot j = s.slot j) ∧ (∀ j, (s.setFlagIf c f).elemDef j = s.elemDef j) ∧ (∀ j,
    (s.setFlagIf c f).defined j = s.defined j) ∧ (∀ j, (s.setFlagIf c f).run j = s.run j) ∧ (∀ j, (s.setFlagIf c
    f).claim j = s.claim j) ∧ (∀ j, (s.setFlagIf c f).light j = s.light j) ∧ (∀ j, (s.setFlagIf c f).act j = s.act
    j) ∧ (∀ j, (s.setFlagIf c f).elemScore j = s.elemScore j) ∧ (∀ j, (s.setFlagIf c f).alliance j = s.alliance j) ∧
    (∀ j, (s.setFlagIf c f).box j = s.box j) := by
  unfold State.setFlagIf; split <;> simp

-- Tables: a read after a write

/-- A read of the record written gives it, for a number of the table. -/
theorem at1_set1_same {α : Type} {n : Nat} (v : Vector α n) (k : Nat) (x d : α) (h : 1 ≤ k ∧ k ≤ n) :
    at1 (set1 v k x) k d = x := by
  unfold at1 set1
  have : k - 1 < n ∧ 1 ≤ k := by omega
  simp [this]

/-- A write leaves every other record. -/
@[simp] theorem at1_set1_other {α : Type} {n : Nat} (v : Vector α n) (k j : Nat) (x d : α) (h : j ≠ k) :
    at1 (set1 v k x) j d = at1 v j d := by
  unfold at1 set1
  split
  · rename_i hj
    split
    · rename_i hk
      rw [Vector.getElem_set]
      have : ¬ (k - 1 = j - 1) := by omega
      simp [this]
    · rfl
  · rfl

/-- A number outside the table reads as the default. -/
theorem at1_outside {α : Type} {n : Nat} (v : Vector α n) (k : Nat) (d : α) (h : ¬(1 ≤ k ∧ k ≤ n)) : at1 v k d = d := by
  unfold at1
  have : ¬(k - 1 < n ∧ 1 ≤ k) := by omega
  simp [this]

/-- A number outside the table writes nothing. -/
theorem set1_outside {α : Type} {n : Nat} (v : Vector α n) (k : Nat) (x : α) (h : ¬(1 ≤ k ∧ k ≤ n)) : set1 v k x = v := by
  unfold set1
  have : ¬(k - 1 < n ∧ 1 ≤ k) := by omega
  simp [this]

/-- A read after a write, by cases: the record written, or what stood. -/
theorem at1_set1 {α : Type} {n : Nat} (v : Vector α n) (k j : Nat) (x d : α) :
    at1 (set1 v k x) j d = if j = k ∧ 1 ≤ k ∧ k ≤ n then x else at1 v j d := by
  by_cases hj : j = k
  · subst hj
    by_cases hk : 1 ≤ j ∧ j ≤ n
    · simp [hk, at1_set1_same]
    · simp [hk, set1_outside]
  · simp [hj]

/-- Reading a mapped table. -/
theorem at1_mapTable {α β : Type} {n : Nat} (f : α → β) (v : Vector α n) (k : Nat) (d : α) (d' : β) (h : f d = d') :
    at1 (mapTable f v) k d' = f (at1 v k d) := by
  unfold at1
  by_cases hk : k - 1 < n ∧ 1 ≤ k
  · simp only [hk, and_self, dite_true]
    simp [mapTable]
  · simp [hk, h]

/-- Reading a table whose records are all the default. -/
@[simp] theorem at1_replicate {α : Type} (n : Nat) (x : α) (k : Nat) : at1 (Vector.replicate n x) k x = x := by
  unfold at1; split <;> simp

-- Records after a write of a record

theorem slot_setSlot (s : State) (n m : Nat) (x : Slot) :
    (s.setSlot n x).slot m = if m = n ∧ 1 ≤ n ∧ n ≤ 24 then x else s.slot m := at1_set1 _ _ _ _ _

theorem slot_modSlot (s : State) (n m : Nat) (f : Slot → Slot) :
    (s.modSlot n f).slot m = if m = n ∧ 1 ≤ n ∧ n ≤ 24 then f (s.slot n) else s.slot m := at1_set1 _ _ _ _ _

theorem elemDef_setDef (s : State) (e k : Nat) (x : ElementDef) :
    (s.setDef e x).elemDef k = if k = e ∧ 1 ≤ e ∧ e ≤ 32 then x else s.elemDef k := at1_set1 _ _ _ _ _

theorem run_setRun (s : State) (e k : Nat) (x : ElementRun) :
    (s.setRun e x).run k = if k = e ∧ 1 ≤ e ∧ e ≤ 32 then x else s.run k := at1_set1 _ _ _ _ _

theorem run_modRun (s : State) (e k : Nat) (f : ElementRun → ElementRun) :
    (s.modRun e f).run k = if k = e ∧ 1 ≤ e ∧ e ≤ 32 then f (s.run e) else s.run k := at1_set1 _ _ _ _ _

theorem claim_setClaim (s : State) (e k : Nat) (x : Claim) :
    (s.setClaim e x).claim k = if k = e ∧ 1 ≤ e ∧ e ≤ 32 then x else s.claim k := at1_set1 _ _ _ _ _

theorem light_setLight (s : State) (e k : Nat) (x : Light) :
    (s.setLight e x).light k = if k = e ∧ 1 ≤ e ∧ e ≤ 32 then x else s.light k := at1_set1 _ _ _ _ _

theorem act_setAct (s : State) (e k : Nat) (x : ActRecord) :
    (s.setAct e x).act k = if k = e ∧ 1 ≤ e ∧ e ≤ 32 then x else s.act k := at1_set1 _ _ _ _ _

theorem elemScore_setElemScore (s : State) (e k : Nat) (x : ElementScore) :
    (s.setElemScore e x).elemScore k = if k = e ∧ 1 ≤ e ∧ e ≤ 32 then x else s.elemScore k := at1_set1 _ _ _ _ _

theorem alliance_setAlliance (s : State) (a k : Nat) (x : AllianceRecord) :
    (s.setAlliance a x).alliance k = if k = a ∧ 1 ≤ a ∧ a ≤ 4 then x else s.alliance k := at1_set1 _ _ _ _ _

theorem box_setBox (s : State) (n k : Nat) (x : Option Message) :
    (s.setBox n x).box k = if k = n ∧ 1 ≤ n ∧ n ≤ 24 then x else s.box k := at1_set1 _ _ _ _ _

-- A fold that keeps a view of the state

/-- A fold whose every step keeps a view keeps it. -/
theorem foldl_keep {α β γ : Type} (view : β → γ) (f : β → α → β) (h : ∀ s a, view (f s a) = view s) (l : List α) (s : β) :
    view (l.foldl f s) = view s := by
  induction l generalizing s with
  | nil => rfl
  | cons a l ih => simp [List.foldl, ih, h]

/-- A fold whose every step keeps a property keeps it. -/
theorem foldl_inv {α β : Type} (p : β → Prop) (f : β → α → β) (h : ∀ s a, p s → p (f s a)) (l : List α) (s : β) (hs : p s) :
    p (l.foldl f s) := by
  induction l generalizing s with
  | nil => exact hs
  | cons a l ih => exact ih _ (h _ _ hs)


end Sys2Proof.Machine
end

