-- ==== Sys2Proof/Laws/Frames.lean ====
section
/-! SUPPORT. What each shared operation leaves alone: one lemma per operation, the conjunction of the parts of the state
that it never changes. -/

namespace Sys2Proof.Machine

set_option linter.unusedSimpArgs false
set_option linter.unnecessarySeqFocus false
set_option linter.unusedTactic false
set_option linter.unreachableTactic false

@[simp] theorem issueLight_frame (e : Nat) (l : Light) (s : State) :
    (issueLight e l s).clock = s.clock ∧ (issueLight e l s).roster = s.roster ∧ (issueLight e l s).table = s.table ∧
    (issueLight e l s).claims = s.claims ∧ (issueLight e l s).bus.acts = s.bus.acts ∧
    (issueLight e l s).bus.commandCount = s.bus.commandCount ∧ (issueLight e l s).bus.lastPolled = s.bus.lastPolled ∧
    (issueLight e l s).bus.haltPending = s.bus.haltPending ∧ (issueLight e l s).bus.pass = s.bus.pass ∧
    (issueLight e l s).bus.current = s.bus.current ∧ (issueLight e l s).score = s.score ∧
    (issueLight e l s).stop = s.stop ∧ (issueLight e l s).link = s.link ∧ (issueLight e l s).console = s.console ∧
    (issueLight e l s).attention = s.attention ∧ (issueLight e l s).settings = s.settings ∧
    (issueLight e l s).store = s.store ∧ (issueLight e l s).uptime = s.uptime ∧
    (issueLight e l s).resetAsserted = s.resetAsserted ∧ (issueLight e l s).freeCount = s.freeCount ∧
    (issueLight e l s).pending = s.pending ∧ (∀ j, (issueLight e l s).slot j = s.slot j) ∧
    (∀ j, (issueLight e l s).elemDef j = s.elemDef j) ∧ (∀ j, (issueLight e l s).run j = s.run j) ∧
    (∀ j, (issueLight e l s).claim j = s.claim j) ∧ (∀ j, (issueLight e l s).act j = s.act j) ∧
    (∀ j, (issueLight e l s).elemScore j = s.elemScore j) ∧ (∀ j, (issueLight e l s).alliance j = s.alliance j) ∧
    (∀ j, (issueLight e l s).box j = s.box j) ∧ (∀ j, (issueLight e l s).defined j = s.defined j) := by
  unfold issueLight; (repeat' split) <;> simp [State.slot, State.elemDef, State.run, State.claim, State.light, State.act, State.elemScore, State.alliance, State.box, State.defined]

@[simp] theorem recompute_frame (e : Nat) (s : State) :
    (recompute e s).clock = s.clock ∧ (recompute e s).roster = s.roster ∧ (recompute e s).table = s.table ∧
    (recompute e s).claims = s.claims ∧ (recompute e s).bus.acts = s.bus.acts ∧
    (recompute e s).bus.commandCount = s.bus.commandCount ∧ (recompute e s).bus.lastPolled = s.bus.lastPolled ∧
    (recompute e s).bus.haltPending = s.bus.haltPending ∧ (recompute e s).bus.pass = s.bus.pass ∧
    (recompute e s).bus.current = s.bus.current ∧ (recompute e s).score = s.score ∧ (recompute e s).stop = s.stop ∧
    (recompute e s).link = s.link ∧ (recompute e s).console = s.console ∧ (recompute e s).attention = s.attention ∧
    (recompute e s).settings = s.settings ∧ (recompute e s).store = s.store ∧ (recompute e s).uptime = s.uptime ∧
    (recompute e s).resetAsserted = s.resetAsserted ∧ (recompute e s).freeCount = s.freeCount ∧
    (recompute e s).pending = s.pending ∧ (∀ j, (recompute e s).slot j = s.slot j) ∧
    (∀ j, (recompute e s).elemDef j = s.elemDef j) ∧ (∀ j, (recompute e s).run j = s.run j) ∧
    (∀ j, (recompute e s).claim j = s.claim j) ∧ (∀ j, (recompute e s).act j = s.act j) ∧
    (∀ j, (recompute e s).elemScore j = s.elemScore j) ∧ (∀ j, (recompute e s).alliance j = s.alliance j) ∧
    (∀ j, (recompute e s).box j = s.box j) ∧ (∀ j, (recompute e s).defined j = s.defined j) := by
  unfold recompute; (repeat' split) <;> simp [State.slot, State.elemDef, State.run, State.claim, State.light, State.act, State.elemScore, State.alliance, State.box, State.defined]

theorem recomputeAll_fold_frame (l : List Nat) (s : State) :
    (l.foldl (fun s e => recompute e s) s).clock = s.clock ∧
    (l.foldl (fun s e => recompute e s) s).roster = s.roster ∧
    (l.foldl (fun s e => recompute e s) s).table = s.table ∧
    (l.foldl (fun s e => recompute e s) s).claims = s.claims ∧
    (l.foldl (fun s e => recompute e s) s).bus.acts = s.bus.acts ∧
    (l.foldl (fun s e => recompute e s) s).bus.commandCount = s.bus.commandCount ∧
    (l.foldl (fun s e => recompute e s) s).bus.lastPolled = s.bus.lastPolled ∧
    (l.foldl (fun s e => recompute e s) s).bus.haltPending = s.bus.haltPending ∧
    (l.foldl (fun s e => recompute e s) s).bus.pass = s.bus.pass ∧
    (l.foldl (fun s e => recompute e s) s).bus.current = s.bus.current ∧
    (l.foldl (fun s e => recompute e s) s).score = s.score ∧ (l.foldl (fun s e => recompute e s) s).stop = s.stop ∧
    (l.foldl (fun s e => recompute e s) s).link = s.link ∧
    (l.foldl (fun s e => recompute e s) s).console = s.console ∧
    (l.foldl (fun s e => recompute e s) s).attention = s.attention ∧
    (l.foldl (fun s e => recompute e s) s).settings = s.settings ∧
    (l.foldl (fun s e => recompute e s) s).store = s.store ∧
    (l.foldl (fun s e => recompute e s) s).uptime = s.uptime ∧
    (l.foldl (fun s e => recompute e s) s).resetAsserted = s.resetAsserted ∧
    (l.foldl (fun s e => recompute e s) s).freeCount = s.freeCount ∧
    (l.foldl (fun s e => recompute e s) s).pending = s.pending ∧
    (∀ j, (l.foldl (fun s e => recompute e s) s).slot j = s.slot j) ∧
    (∀ j, (l.foldl (fun s e => recompute e s) s).elemDef j = s.elemDef j) ∧
    (∀ j, (l.foldl (fun s e => recompute e s) s).run j = s.run j) ∧
    (∀ j, (l.foldl (fun s e => recompute e s) s).claim j = s.claim j) ∧
    (∀ j, (l.foldl (fun s e => recompute e s) s).act j = s.act j) ∧
    (∀ j, (l.foldl (fun s e => recompute e s) s).elemScore j = s.elemScore j) ∧
    (∀ j, (l.foldl (fun s e => recompute e s) s).alliance j = s.alliance j) ∧
    (∀ j, (l.foldl (fun s e => recompute e s) s).box j = s.box j) ∧
    (∀ j, (l.foldl (fun s e => recompute e s) s).defined j = s.defined j) := by
  induction l generalizing s with
  | nil => simp
  | cons a l ih => simp only [List.foldl, ih]; simp

@[simp] theorem recomputeAll_frame (es : List Nat) (s : State) :
    (recomputeAll es s).clock = s.clock ∧ (recomputeAll es s).roster = s.roster ∧
    (recomputeAll es s).table = s.table ∧ (recomputeAll es s).claims = s.claims ∧
    (recomputeAll es s).bus.acts = s.bus.acts ∧ (recomputeAll es s).bus.commandCount = s.bus.commandCount ∧
    (recomputeAll es s).bus.lastPolled = s.bus.lastPolled ∧ (recomputeAll es s).bus.haltPending = s.bus.haltPending ∧
    (recomputeAll es s).bus.pass = s.bus.pass ∧ (recomputeAll es s).bus.current = s.bus.current ∧
    (recomputeAll es s).score = s.score ∧ (recomputeAll es s).stop = s.stop ∧ (recomputeAll es s).link = s.link ∧
    (recomputeAll es s).console = s.console ∧ (recomputeAll es s).attention = s.attention ∧
    (recomputeAll es s).settings = s.settings ∧ (recomputeAll es s).store = s.store ∧
    (recomputeAll es s).uptime = s.uptime ∧ (recomputeAll es s).resetAsserted = s.resetAsserted ∧
    (recomputeAll es s).freeCount = s.freeCount ∧ (recomputeAll es s).pending = s.pending ∧
    (∀ j, (recomputeAll es s).slot j = s.slot j) ∧ (∀ j, (recomputeAll es s).elemDef j = s.elemDef j) ∧
    (∀ j, (recomputeAll es s).run j = s.run j) ∧ (∀ j, (recomputeAll es s).claim j = s.claim j) ∧
    (∀ j, (recomputeAll es s).act j = s.act j) ∧ (∀ j, (recomputeAll es s).elemScore j = s.elemScore j) ∧
    (∀ j, (recomputeAll es s).alliance j = s.alliance j) ∧ (∀ j, (recomputeAll es s).box j = s.box j) ∧
    (∀ j, (recomputeAll es s).defined j = s.defined j) := by
  unfold recomputeAll; simp [recomputeAll_fold_frame, State.slot, State.elemDef, State.run, State.claim, State.light, State.act, State.elemScore, State.alliance, State.box, State.defined]

@[simp] theorem servePlace_frame (s : State) :
    (servePlace s).clock = s.clock ∧ (servePlace s).roster = s.roster ∧ (servePlace s).table = s.table ∧
    (servePlace s).claims = s.claims ∧ (servePlace s).bus.acts = s.bus.acts ∧
    (servePlace s).bus.commandCount = s.bus.commandCount ∧ (servePlace s).bus.lastPolled = s.bus.lastPolled ∧
    (servePlace s).bus.haltPending = s.bus.haltPending ∧ (servePlace s).bus.pass = s.bus.pass ∧
    (servePlace s).bus.current = s.bus.current ∧ (servePlace s).score = s.score ∧ (servePlace s).stop = s.stop ∧
    (servePlace s).link = s.link ∧ (servePlace s).console = s.console ∧ (servePlace s).attention = s.attention ∧
    (servePlace s).settings = s.settings ∧ (servePlace s).store = s.store ∧ (servePlace s).uptime = s.uptime ∧
    (servePlace s).resetAsserted = s.resetAsserted ∧ (servePlace s).freeCount = s.freeCount ∧
    (servePlace s).pending = s.pending ∧ (∀ j, (servePlace s).slot j = s.slot j) ∧
    (∀ j, (servePlace s).elemDef j = s.elemDef j) ∧ (∀ j, (servePlace s).run j = s.run j) ∧
    (∀ j, (servePlace s).claim j = s.claim j) ∧ (∀ j, (servePlace s).act j = s.act j) ∧
    (∀ j, (servePlace s).elemScore j = s.elemScore j) ∧ (∀ j, (servePlace s).alliance j = s.alliance j) ∧
    (∀ j, (servePlace s).box j = s.box j) ∧ (∀ j, (servePlace s).defined j = s.defined j) := by
  unfold servePlace; (repeat' split) <;> simp [State.slot, State.elemDef, State.run, State.claim, State.light, State.act, State.elemScore, State.alliance, State.box, State.defined]

@[simp] theorem servePlaces_frame (n : Nat) (s : State) :
    (servePlaces n s).clock = s.clock ∧ (servePlaces n s).roster = s.roster ∧ (servePlaces n s).table = s.table ∧
    (servePlaces n s).claims = s.claims ∧ (servePlaces n s).bus.acts = s.bus.acts ∧
    (servePlaces n s).bus.commandCount = s.bus.commandCount ∧ (servePlaces n s).bus.lastPolled = s.bus.lastPolled ∧
    (servePlaces n s).bus.haltPending = s.bus.haltPending ∧ (servePlaces n s).bus.pass = s.bus.pass ∧
    (servePlaces n s).bus.current = s.bus.current ∧ (servePlaces n s).score = s.score ∧ (servePlaces n s).stop = s.stop ∧
    (servePlaces n s).link = s.link ∧ (servePlaces n s).console = s.console ∧ (servePlaces n s).attention = s.attention ∧
    (servePlaces n s).settings = s.settings ∧ (servePlaces n s).store = s.store ∧ (servePlaces n s).uptime = s.uptime ∧
    (servePlaces n s).resetAsserted = s.resetAsserted ∧ (servePlaces n s).freeCount = s.freeCount ∧
    (servePlaces n s).pending = s.pending ∧ (∀ j, (servePlaces n s).slot j = s.slot j) ∧
    (∀ j, (servePlaces n s).elemDef j = s.elemDef j) ∧ (∀ j, (servePlaces n s).run j = s.run j) ∧
    (∀ j, (servePlaces n s).claim j = s.claim j) ∧ (∀ j, (servePlaces n s).act j = s.act j) ∧
    (∀ j, (servePlaces n s).elemScore j = s.elemScore j) ∧ (∀ j, (servePlaces n s).alliance j = s.alliance j) ∧
    (∀ j, (servePlaces n s).box j = s.box j) ∧ (∀ j, (servePlaces n s).defined j = s.defined j) := by
  induction n generalizing s with
  | zero => simp [servePlaces]
  | succ n ih => simp only [servePlaces, ih]; simp

@[simp] theorem takeWaitingPlaces_frame (s : State) :
    (takeWaitingPlaces s).clock = s.clock ∧ (takeWaitingPlaces s).roster = s.roster ∧ (takeWaitingPlaces s).table = s.table ∧
    (takeWaitingPlaces s).claims = s.claims ∧ (takeWaitingPlaces s).bus.acts = s.bus.acts ∧
    (takeWaitingPlaces s).bus.commandCount = s.bus.commandCount ∧ (takeWaitingPlaces s).bus.lastPolled = s.bus.lastPolled ∧
    (takeWaitingPlaces s).bus.haltPending = s.bus.haltPending ∧ (takeWaitingPlaces s).bus.pass = s.bus.pass ∧
    (takeWaitingPlaces s).bus.current = s.bus.current ∧ (takeWaitingPlaces s).score = s.score ∧ (takeWaitingPlaces s).stop = s.stop ∧
    (takeWaitingPlaces s).link = s.link ∧ (takeWaitingPlaces s).console = s.console ∧ (takeWaitingPlaces s).attention = s.attention ∧
    (takeWaitingPlaces s).settings = s.settings ∧ (takeWaitingPlaces s).store = s.store ∧ (takeWaitingPlaces s).uptime = s.uptime ∧
    (takeWaitingPlaces s).resetAsserted = s.resetAsserted ∧ (takeWaitingPlaces s).freeCount = s.freeCount ∧
    (takeWaitingPlaces s).pending = s.pending ∧ (∀ j, (takeWaitingPlaces s).slot j = s.slot j) ∧
    (∀ j, (takeWaitingPlaces s).elemDef j = s.elemDef j) ∧ (∀ j, (takeWaitingPlaces s).run j = s.run j) ∧
    (∀ j, (takeWaitingPlaces s).claim j = s.claim j) ∧ (∀ j, (takeWaitingPlaces s).act j = s.act j) ∧
    (∀ j, (takeWaitingPlaces s).elemScore j = s.elemScore j) ∧ (∀ j, (takeWaitingPlaces s).alliance j = s.alliance j) ∧
    (∀ j, (takeWaitingPlaces s).box j = s.box j) ∧ (∀ j, (takeWaitingPlaces s).defined j = s.defined j) := by
  unfold takeWaitingPlaces; simp [State.slot, State.elemDef, State.run, State.claim, State.light, State.act, State.elemScore, State.alliance, State.box, State.defined]

@[simp] theorem freedPlace_frame (s : State) :
    (freedPlace s).clock = s.clock ∧ (freedPlace s).roster = s.roster ∧ (freedPlace s).table = s.table ∧
    (freedPlace s).claims = s.claims ∧ (freedPlace s).bus.acts = s.bus.acts ∧
    (freedPlace s).bus.commandCount = s.bus.commandCount ∧ (freedPlace s).bus.lastPolled = s.bus.lastPolled ∧
    (freedPlace s).bus.haltPending = s.bus.haltPending ∧ (freedPlace s).bus.pass = s.bus.pass ∧
    (freedPlace s).bus.current = s.bus.current ∧ (freedPlace s).score = s.score ∧ (freedPlace s).stop = s.stop ∧
    (freedPlace s).link = s.link ∧ (freedPlace s).console = s.console ∧ (freedPlace s).attention = s.attention ∧
    (freedPlace s).settings = s.settings ∧ (freedPlace s).store = s.store ∧ (freedPlace s).uptime = s.uptime ∧
    (freedPlace s).resetAsserted = s.resetAsserted ∧ (freedPlace s).freeCount = s.freeCount ∧
    (freedPlace s).pending = s.pending ∧ (∀ j, (freedPlace s).slot j = s.slot j) ∧
    (∀ j, (freedPlace s).elemDef j = s.elemDef j) ∧ (∀ j, (freedPlace s).run j = s.run j) ∧
    (∀ j, (freedPlace s).claim j = s.claim j) ∧ (∀ j, (freedPlace s).act j = s.act j) ∧
    (∀ j, (freedPlace s).elemScore j = s.elemScore j) ∧ (∀ j, (freedPlace s).alliance j = s.alliance j) ∧
    (∀ j, (freedPlace s).box j = s.box j) ∧ (∀ j, (freedPlace s).defined j = s.defined j) := by
  unfold freedPlace; (repeat' split) <;> simp [State.slot, State.elemDef, State.run, State.claim, State.light, State.act, State.elemScore, State.alliance, State.box, State.defined]

/-- A place that is taken changes nothing, or gives the lowest owed light an entry at the tail. -/
theorem servePlace_cases (s : State) : servePlace s = s ∨
    ∃ e, s.lowestOwed = some e ∧ s.bus.queue.length < queuePlaces ∧
      servePlace s = (s.setQueue (s.bus.queue ++ [lightEntry e (s.light e).computed])).setLight e
        { s.light e with issued := some (s.light e).computed, owed := false } := by
  unfold servePlace
  cases h : s.lowestOwed with
  | none => exact .inl rfl
  | some e =>
    by_cases hq : s.bus.queue.length < queuePlaces
    · exact .inr ⟨e, rfl, hq, by simp [hq]⟩
    · exact .inl (by simp [hq])

/-- A departure without an owed light changes nothing more; with one its place waits, or is taken at once. -/
theorem freedPlace_cases (s : State) : (s.lowestOwed = none ∧ freedPlace s = s) ∨
    s.lowestOwed.isSome = true ∧
      (freedPlace s = { s with bus := { s.bus with freed := s.bus.freed + 1 }, meetings := s.meetings + 1 } ∨
        freedPlace s = servePlace { s with meetings := s.meetings + 1 }) := by
  unfold freedPlace
  cases h : s.lowestOwed with
  | none => exact .inl ⟨rfl, rfl⟩
  | some e => refine .inr ⟨rfl, ?_⟩; cases Config.otherRequestFirst s.meetings <;> simp

/-- Without a waiting place there is none to take. -/
theorem takeWaitingPlaces_none (s : State) (h : s.bus.freed = 0) : takeWaitingPlaces s = s := by
  have e : { s with bus := { s.bus with freed := 0 } } = s := by rw [← h]
  rw [takeWaitingPlaces, h, e, servePlaces]

@[simp] theorem startPulse_frame (e a : Nat) (s : State) :
    (startPulse e a s).clock = s.clock ∧ (startPulse e a s).roster = s.roster ∧ (startPulse e a s).table = s.table ∧
    (startPulse e a s).claims = s.claims ∧ (startPulse e a s).bus.acts = s.bus.acts ∧
    (startPulse e a s).bus.commandCount = s.bus.commandCount ∧ (startPulse e a s).bus.lastPolled = s.bus.lastPolled ∧
    (startPulse e a s).bus.haltPending = s.bus.haltPending ∧ (startPulse e a s).bus.pass = s.bus.pass ∧
    (startPulse e a s).bus.current = s.bus.current ∧ (startPulse e a s).score = s.score ∧
    (startPulse e a s).stop = s.stop ∧ (startPulse e a s).link = s.link ∧ (startPulse e a s).console = s.console ∧
    (startPulse e a s).attention = s.attention ∧ (startPulse e a s).settings = s.settings ∧
    (startPulse e a s).store = s.store ∧ (startPulse e a s).uptime = s.uptime ∧
    (startPulse e a s).resetAsserted = s.resetAsserted ∧ (startPulse e a s).freeCount = s.freeCount ∧
    (startPulse e a s).pending = s.pending ∧ (∀ j, (startPulse e a s).slot j = s.slot j) ∧
    (∀ j, (startPulse e a s).elemDef j = s.elemDef j) ∧ (∀ j, (startPulse e a s).run j = s.run j) ∧
    (∀ j, (startPulse e a s).claim j = s.claim j) ∧ (∀ j, (startPulse e a s).act j = s.act j) ∧
    (∀ j, (startPulse e a s).elemScore j = s.elemScore j) ∧ (∀ j, (startPulse e a s).alliance j = s.alliance j) ∧
    (∀ j, (startPulse e a s).box j = s.box j) ∧ (∀ j, (startPulse e a s).defined j = s.defined j) := by
  unfold startPulse; (repeat' split) <;> simp [State.slot, State.elemDef, State.run, State.claim, State.light, State.act, State.elemScore, State.alliance, State.box, State.defined]

@[simp] theorem lightFailed_frame (e : Nat) (s : State) :
    (lightFailed e s).clock = s.clock ∧ (lightFailed e s).roster = s.roster ∧ (lightFailed e s).table = s.table ∧
    (lightFailed e s).claims = s.claims ∧ (lightFailed e s).bus = s.bus ∧ (lightFailed e s).score = s.score ∧
    (lightFailed e s).stop = s.stop ∧ (lightFailed e s).link = s.link ∧ (lightFailed e s).console = s.console ∧
    (lightFailed e s).attention = s.attention ∧ (lightFailed e s).settings = s.settings ∧
    (lightFailed e s).store = s.store ∧ (lightFailed e s).uptime = s.uptime ∧
    (lightFailed e s).resetAsserted = s.resetAsserted ∧ (lightFailed e s).freeCount = s.freeCount ∧
    (lightFailed e s).pending = s.pending ∧ (∀ j, (lightFailed e s).slot j = s.slot j) ∧
    (∀ j, (lightFailed e s).elemDef j = s.elemDef j) ∧ (∀ j, (lightFailed e s).run j = s.run j) ∧
    (∀ j, (lightFailed e s).claim j = s.claim j) ∧ (∀ j, (lightFailed e s).act j = s.act j) ∧
    (∀ j, (lightFailed e s).elemScore j = s.elemScore j) ∧ (∀ j, (lightFailed e s).alliance j = s.alliance j) ∧
    (∀ j, (lightFailed e s).box j = s.box j) ∧ (∀ j, (lightFailed e s).defined j = s.defined j) := by
  unfold lightFailed; (repeat' split) <;> simp [State.slot, State.elemDef, State.run, State.claim, State.light, State.act, State.elemScore, State.alliance, State.box, State.defined]

@[simp] theorem addPoints_frame (a n : Nat) (s : State) :
    (addPoints a n s).clock = s.clock ∧ (addPoints a n s).roster = s.roster ∧ (addPoints a n s).table = s.table ∧
    (addPoints a n s).claims = s.claims ∧ (addPoints a n s).bus = s.bus ∧ (addPoints a n s).lights = s.lights ∧
    (addPoints a n s).score.elements = s.score.elements ∧ (addPoints a n s).stop = s.stop ∧
    (addPoints a n s).link = s.link ∧ (addPoints a n s).console = s.console ∧
    (addPoints a n s).attention.enables = s.attention.enables ∧ (addPoints a n s).settings = s.settings ∧
    (addPoints a n s).store = s.store ∧ (addPoints a n s).uptime = s.uptime ∧
    (addPoints a n s).resetAsserted = s.resetAsserted ∧ (addPoints a n s).freeCount = s.freeCount ∧
    (addPoints a n s).pending = s.pending ∧ (∀ j, (addPoints a n s).slot j = s.slot j) ∧
    (∀ j, (addPoints a n s).elemDef j = s.elemDef j) ∧ (∀ j, (addPoints a n s).run j = s.run j) ∧
    (∀ j, (addPoints a n s).claim j = s.claim j) ∧ (∀ j, (addPoints a n s).light j = s.light j) ∧
    (∀ j, (addPoints a n s).act j = s.act j) ∧ (∀ j, (addPoints a n s).elemScore j = s.elemScore j) ∧
    (∀ j, (addPoints a n s).box j = s.box j) ∧ (∀ j, (addPoints a n s).defined j = s.defined j) := by
  unfold addPoints; dsimp only; (repeat' split) <;> simp [State.slot, State.elemDef, State.run, State.claim, State.light, State.act, State.elemScore, State.alliance, State.box, State.defined]

@[simp] theorem takePoints_frame (a n : Nat) (s : State) :
    (takePoints a n s).clock = s.clock ∧ (takePoints a n s).roster = s.roster ∧ (takePoints a n s).table = s.table ∧
    (takePoints a n s).claims = s.claims ∧ (takePoints a n s).bus = s.bus ∧ (takePoints a n s).lights = s.lights ∧
    (takePoints a n s).score.elements = s.score.elements ∧ (takePoints a n s).stop = s.stop ∧
    (takePoints a n s).link = s.link ∧ (takePoints a n s).console = s.console ∧
    (takePoints a n s).attention.enables = s.attention.enables ∧ (takePoints a n s).settings = s.settings ∧
    (takePoints a n s).store = s.store ∧ (takePoints a n s).uptime = s.uptime ∧
    (takePoints a n s).resetAsserted = s.resetAsserted ∧ (takePoints a n s).freeCount = s.freeCount ∧
    (takePoints a n s).pending = s.pending ∧ (∀ j, (takePoints a n s).slot j = s.slot j) ∧
    (∀ j, (takePoints a n s).elemDef j = s.elemDef j) ∧ (∀ j, (takePoints a n s).run j = s.run j) ∧
    (∀ j, (takePoints a n s).claim j = s.claim j) ∧ (∀ j, (takePoints a n s).light j = s.light j) ∧
    (∀ j, (takePoints a n s).act j = s.act j) ∧ (∀ j, (takePoints a n s).elemScore j = s.elemScore j) ∧
    (∀ j, (takePoints a n s).box j = s.box j) ∧ (∀ j, (takePoints a n s).defined j = s.defined j) := by
  unfold takePoints; dsimp only; (repeat' split) <;> simp [State.slot, State.elemDef, State.run, State.claim, State.light, State.act, State.elemScore, State.alliance, State.box, State.defined]

@[simp] theorem creditGoal_frame (e a m n : Nat) (s : State) :
    (creditGoal e a m n s).clock = s.clock ∧ (creditGoal e a m n s).roster = s.roster ∧
    (creditGoal e a m n s).table = s.table ∧ (creditGoal e a m n s).claims = s.claims ∧
    (creditGoal e a m n s).bus.acts = s.bus.acts ∧ (creditGoal e a m n s).bus.commandCount = s.bus.commandCount ∧
    (creditGoal e a m n s).bus.lastPolled = s.bus.lastPolled ∧
    (creditGoal e a m n s).bus.haltPending = s.bus.haltPending ∧ (creditGoal e a m n s).bus.pass = s.bus.pass ∧
    (creditGoal e a m n s).bus.current = s.bus.current ∧ (creditGoal e a m n s).stop = s.stop ∧
    (creditGoal e a m n s).link = s.link ∧ (creditGoal e a m n s).console = s.console ∧
    (creditGoal e a m n s).attention.enables = s.attention.enables ∧ (creditGoal e a m n s).settings = s.settings ∧
    (creditGoal e a m n s).store = s.store ∧ (creditGoal e a m n s).uptime = s.uptime ∧
    (creditGoal e a m n s).resetAsserted = s.resetAsserted ∧ (creditGoal e a m n s).freeCount = s.freeCount ∧
    (creditGoal e a m n s).pending = s.pending ∧ (∀ j, (creditGoal e a m n s).slot j = s.slot j) ∧
    (∀ j, (creditGoal e a m n s).elemDef j = s.elemDef j) ∧ (∀ j, (creditGoal e a m n s).run j = s.run j) ∧
    (∀ j, (creditGoal e a m n s).claim j = s.claim j) ∧ (∀ j, (creditGoal e a m n s).act j = s.act j) ∧
    (∀ j, (creditGoal e a m n s).box j = s.box j) ∧ (∀ j, (creditGoal e a m n s).defined j = s.defined j) := by
  unfold creditGoal; (repeat' split) <;> simp [State.slot, State.elemDef, State.run, State.claim, State.light, State.act, State.elemScore, State.alliance, State.box, State.defined]

@[simp] theorem countObjects_frame (e n : Nat) (s : State) :
    (countObjects e n s).clock = s.clock ∧ (countObjects e n s).roster = s.roster ∧
    (countObjects e n s).table = s.table ∧ (countObjects e n s).claims = s.claims ∧
    (countObjects e n s).bus.acts = s.bus.acts ∧ (countObjects e n s).bus.commandCount = s.bus.commandCount ∧
    (countObjects e n s).bus.lastPolled = s.bus.lastPolled ∧
    (countObjects e n s).bus.haltPending = s.bus.haltPending ∧ (countObjects e n s).bus.pass = s.bus.pass ∧
    (countObjects e n s).bus.current = s.bus.current ∧ (countObjects e n s).stop = s.stop ∧
    (countObjects e n s).link = s.link ∧ (countObjects e n s).console = s.console ∧
    (countObjects e n s).attention.enables = s.attention.enables ∧ (countObjects e n s).settings = s.settings ∧
    (countObjects e n s).store = s.store ∧ (countObjects e n s).uptime = s.uptime ∧
    (countObjects e n s).resetAsserted = s.resetAsserted ∧ (countObjects e n s).freeCount = s.freeCount ∧
    (countObjects e n s).pending = s.pending ∧ (∀ j, (countObjects e n s).slot j = s.slot j) ∧
    (∀ j, (countObjects e n s).elemDef j = s.elemDef j) ∧ (∀ j, (countObjects e n s).run j = s.run j) ∧
    (∀ j, (countObjects e n s).claim j = s.claim j) ∧ (∀ j, (countObjects e n s).act j = s.act j) ∧
    (∀ j, (countObjects e n s).box j = s.box j) ∧ (∀ j, (countObjects e n s).defined j = s.defined j) := by
  unfold countObjects; (repeat' split) <;> simp [State.slot, State.elemDef, State.run, State.claim, State.light, State.act, State.elemScore, State.alliance, State.box, State.defined]

@[simp] theorem goalTotal_frame (e t : Nat) (s : State) :
    (goalTotal e t s).clock = s.clock ∧ (goalTotal e t s).roster = s.roster ∧ (goalTotal e t s).table = s.table ∧
    (goalTotal e t s).claims = s.claims ∧ (goalTotal e t s).bus.acts = s.bus.acts ∧
    (goalTotal e t s).bus.commandCount = s.bus.commandCount ∧ (goalTotal e t s).bus.lastPolled = s.bus.lastPolled ∧
    (goalTotal e t s).bus.haltPending = s.bus.haltPending ∧ (goalTotal e t s).bus.pass = s.bus.pass ∧
    (goalTotal e t s).bus.current = s.bus.current ∧ (goalTotal e t s).stop = s.stop ∧
    (goalTotal e t s).link = s.link ∧ (goalTotal e t s).console = s.console ∧
    (goalTotal e t s).attention.enables = s.attention.enables ∧ (goalTotal e t s).settings = s.settings ∧
    (goalTotal e t s).store = s.store ∧ (goalTotal e t s).uptime = s.uptime ∧
    (goalTotal e t s).resetAsserted = s.resetAsserted ∧ (goalTotal e t s).freeCount = s.freeCount ∧
    (goalTotal e t s).pending = s.pending ∧ (∀ j, (goalTotal e t s).slot j = s.slot j) ∧
    (∀ j, (goalTotal e t s).elemDef j = s.elemDef j) ∧ (∀ j, (goalTotal e t s).run j = s.run j) ∧
    (∀ j, (goalTotal e t s).claim j = s.claim j) ∧ (∀ j, (goalTotal e t s).act j = s.act j) ∧
    (∀ j, (goalTotal e t s).box j = s.box j) ∧ (∀ j, (goalTotal e t s).defined j = s.defined j) := by
  unfold goalTotal; (repeat' split) <;> simp [State.slot, State.elemDef, State.run, State.claim, State.light, State.act, State.elemScore, State.alliance, State.box, State.defined]

@[simp] theorem setQuota_frame (e a q : Nat) (s : State) :
    (setQuota e a q s).clock = s.clock ∧ (setQuota e a q s).roster = s.roster ∧ (setQuota e a q s).table = s.table ∧
    (setQuota e a q s).claims = s.claims ∧ (setQuota e a q s).bus = s.bus ∧ (setQuota e a q s).lights = s.lights ∧
    (setQuota e a q s).score.alliances = s.score.alliances ∧ (setQuota e a q s).stop = s.stop ∧
    (setQuota e a q s).link = s.link ∧ (setQuota e a q s).console = s.console ∧
    (setQuota e a q s).attention = s.attention ∧ (setQuota e a q s).settings = s.settings ∧
    (setQuota e a q s).store = s.store ∧ (setQuota e a q s).uptime = s.uptime ∧
    (setQuota e a q s).resetAsserted = s.resetAsserted ∧ (setQuota e a q s).freeCount = s.freeCount ∧
    (setQuota e a q s).pending = s.pending ∧ (∀ j, (setQuota e a q s).slot j = s.slot j) ∧
    (∀ j, (setQuota e a q s).elemDef j = s.elemDef j) ∧ (∀ j, (setQuota e a q s).run j = s.run j) ∧
    (∀ j, (setQuota e a q s).claim j = s.claim j) ∧ (∀ j, (setQuota e a q s).light j = s.light j) ∧
    (∀ j, (setQuota e a q s).act j = s.act j) ∧ (∀ j, (setQuota e a q s).alliance j = s.alliance j) ∧
    (∀ j, (setQuota e a q s).box j = s.box j) ∧ (∀ j, (setQuota e a q s).defined j = s.defined j) := by
  unfold setQuota; (repeat' split) <;> simp [State.slot, State.elemDef, State.run, State.claim, State.light, State.act, State.elemScore, State.alliance, State.box, State.defined]

@[simp] theorem chargeQuota_frame (e a q : Nat) (s : State) :
    (chargeQuota e a q s).clock = s.clock ∧ (chargeQuota e a q s).roster = s.roster ∧
    (chargeQuota e a q s).table = s.table ∧ (chargeQuota e a q s).claims = s.claims ∧
    (chargeQuota e a q s).bus = s.bus ∧ (chargeQuota e a q s).lights = s.lights ∧
    (chargeQuota e a q s).score.alliances = s.score.alliances ∧ (chargeQuota e a q s).stop = s.stop ∧
    (chargeQuota e a q s).link = s.link ∧ (chargeQuota e a q s).console = s.console ∧
    (chargeQuota e a q s).attention = s.attention ∧ (chargeQuota e a q s).settings = s.settings ∧
    (chargeQuota e a q s).store = s.store ∧ (chargeQuota e a q s).uptime = s.uptime ∧
    (chargeQuota e a q s).resetAsserted = s.resetAsserted ∧ (chargeQuota e a q s).freeCount = s.freeCount ∧
    (chargeQuota e a q s).pending = s.pending ∧ (∀ j, (chargeQuota e a q s).slot j = s.slot j) ∧
    (∀ j, (chargeQuota e a q s).elemDef j = s.elemDef j) ∧ (∀ j, (chargeQuota e a q s).run j = s.run j) ∧
    (∀ j, (chargeQuota e a q s).claim j = s.claim j) ∧ (∀ j, (chargeQuota e a q s).light j = s.light j) ∧
    (∀ j, (chargeQuota e a q s).act j = s.act j) ∧ (∀ j, (chargeQuota e a q s).alliance j = s.alliance j) ∧
    (∀ j, (chargeQuota e a q s).box j = s.box j) ∧ (∀ j, (chargeQuota e a q s).defined j = s.defined j) := by
  unfold chargeQuota; (repeat' split) <;> simp [State.slot, State.elemDef, State.run, State.claim, State.light, State.act, State.elemScore, State.alliance, State.box, State.defined]

@[simp] theorem refundQuota_frame (e a q : Nat) (s : State) :
    (refundQuota e a q s).clock = s.clock ∧ (refundQuota e a q s).roster = s.roster ∧
    (refundQuota e a q s).table = s.table ∧ (refundQuota e a q s).claims = s.claims ∧
    (refundQuota e a q s).bus = s.bus ∧ (refundQuota e a q s).lights = s.lights ∧
    (refundQuota e a q s).score.alliances = s.score.alliances ∧ (refundQuota e a q s).stop = s.stop ∧
    (refundQuota e a q s).link = s.link ∧ (refundQuota e a q s).console = s.console ∧
    (refundQuota e a q s).attention = s.attention ∧ (refundQuota e a q s).settings = s.settings ∧
    (refundQuota e a q s).store = s.store ∧ (refundQuota e a q s).uptime = s.uptime ∧
    (refundQuota e a q s).resetAsserted = s.resetAsserted ∧ (refundQuota e a q s).freeCount = s.freeCount ∧
    (refundQuota e a q s).pending = s.pending ∧ (∀ j, (refundQuota e a q s).slot j = s.slot j) ∧
    (∀ j, (refundQuota e a q s).elemDef j = s.elemDef j) ∧ (∀ j, (refundQuota e a q s).run j = s.run j) ∧
    (∀ j, (refundQuota e a q s).claim j = s.claim j) ∧ (∀ j, (refundQuota e a q s).light j = s.light j) ∧
    (∀ j, (refundQuota e a q s).act j = s.act j) ∧ (∀ j, (refundQuota e a q s).alliance j = s.alliance j) ∧
    (∀ j, (refundQuota e a q s).box j = s.box j) ∧ (∀ j, (refundQuota e a q s).defined j = s.defined j) := by
  unfold refundQuota; (repeat' split) <;> simp [State.slot, State.elemDef, State.run, State.claim, State.light, State.act, State.elemScore, State.alliance, State.box, State.defined]

@[simp] theorem clearAccumulator_frame (e : Nat) (s : State) :
    (clearAccumulator e s).clock = s.clock ∧ (clearAccumulator e s).roster = s.roster ∧
    (clearAccumulator e s).table = s.table ∧ (clearAccumulator e s).claims = s.claims ∧
    (clearAccumulator e s).bus = s.bus ∧ (clearAccumulator e s).lights = s.lights ∧
    (clearAccumulator e s).score.alliances = s.score.alliances ∧ (clearAccumulator e s).stop = s.stop ∧
    (clearAccumulator e s).link = s.link ∧ (clearAccumulator e s).console = s.console ∧
    (clearAccumulator e s).attention = s.attention ∧ (clearAccumulator e s).settings = s.settings ∧
    (clearAccumulator e s).store = s.store ∧ (clearAccumulator e s).uptime = s.uptime ∧
    (clearAccumulator e s).resetAsserted = s.resetAsserted ∧ (clearAccumulator e s).freeCount = s.freeCount ∧
    (clearAccumulator e s).pending = s.pending ∧ (∀ j, (clearAccumulator e s).slot j = s.slot j) ∧
    (∀ j, (clearAccumulator e s).elemDef j = s.elemDef j) ∧ (∀ j, (clearAccumulator e s).run j = s.run j) ∧
    (∀ j, (clearAccumulator e s).claim j = s.claim j) ∧ (∀ j, (clearAccumulator e s).light j = s.light j) ∧
    (∀ j, (clearAccumulator e s).act j = s.act j) ∧ (∀ j, (clearAccumulator e s).alliance j = s.alliance j) ∧
    (∀ j, (clearAccumulator e s).box j = s.box j) ∧ (∀ j, (clearAccumulator e s).defined j = s.defined j) := by
  unfold clearAccumulator; (repeat' split) <;> simp [State.slot, State.elemDef, State.run, State.claim, State.light, State.act, State.elemScore, State.alliance, State.box, State.defined]

@[simp] theorem setUpScores_frame (s : State) :
    (setUpScores s).clock = s.clock ∧ (setUpScores s).roster = s.roster ∧ (setUpScores s).table = s.table ∧
    (setUpScores s).claims = s.claims ∧ (setUpScores s).bus = s.bus ∧ (setUpScores s).lights = s.lights ∧
    (setUpScores s).stop = s.stop ∧ (setUpScores s).link = s.link ∧ (setUpScores s).console = s.console ∧
    (setUpScores s).attention = s.attention ∧ (setUpScores s).settings = s.settings ∧
    (setUpScores s).store = s.store ∧ (setUpScores s).uptime = s.uptime ∧
    (setUpScores s).resetAsserted = s.resetAsserted ∧ (setUpScores s).freeCount = s.freeCount ∧
    (setUpScores s).pending = s.pending ∧ (∀ j, (setUpScores s).slot j = s.slot j) ∧
    (∀ j, (setUpScores s).elemDef j = s.elemDef j) ∧ (∀ j, (setUpScores s).run j = s.run j) ∧
    (∀ j, (setUpScores s).claim j = s.claim j) ∧ (∀ j, (setUpScores s).light j = s.light j) ∧
    (∀ j, (setUpScores s).act j = s.act j) ∧ (∀ j, (setUpScores s).box j = s.box j) ∧
    (∀ j, (setUpScores s).defined j = s.defined j) := by
  unfold setUpScores; (repeat' split) <;> simp [State.slot, State.elemDef, State.run, State.claim, State.light, State.act, State.elemScore, State.alliance, State.box, State.defined]

@[simp] theorem defineScore_frame (e : Nat) (s : State) :
    (defineScore e s).clock = s.clock ∧ (defineScore e s).roster = s.roster ∧ (defineScore e s).table = s.table ∧
    (defineScore e s).claims = s.claims ∧ (defineScore e s).bus = s.bus ∧ (defineScore e s).lights = s.lights ∧
    (defineScore e s).score.alliances = s.score.alliances ∧ (defineScore e s).stop = s.stop ∧
    (defineScore e s).link = s.link ∧ (defineScore e s).console = s.console ∧
    (defineScore e s).attention = s.attention ∧ (defineScore e s).settings = s.settings ∧
    (defineScore e s).store = s.store ∧ (defineScore e s).uptime = s.uptime ∧
    (defineScore e s).resetAsserted = s.resetAsserted ∧ (defineScore e s).freeCount = s.freeCount ∧
    (defineScore e s).pending = s.pending ∧ (∀ j, (defineScore e s).slot j = s.slot j) ∧
    (∀ j, (defineScore e s).elemDef j = s.elemDef j) ∧ (∀ j, (defineScore e s).run j = s.run j) ∧
    (∀ j, (defineScore e s).claim j = s.claim j) ∧ (∀ j, (defineScore e s).light j = s.light j) ∧
    (∀ j, (defineScore e s).act j = s.act j) ∧ (∀ j, (defineScore e s).alliance j = s.alliance j) ∧
    (∀ j, (defineScore e s).box j = s.box j) ∧ (∀ j, (defineScore e s).defined j = s.defined j) := by
  unfold defineScore; (repeat' split) <;> simp [State.slot, State.elemDef, State.run, State.claim, State.light, State.act, State.elemScore, State.alliance, State.box, State.defined]

@[simp] theorem takeSecond_frame (e : Nat) (s : State) :
    (takeSecond e s).clock = s.clock ∧ (takeSecond e s).roster = s.roster ∧
    (takeSecond e s).table = s.table ∧ (takeSecond e s).claims = s.claims ∧
    (takeSecond e s).bus = s.bus ∧ (takeSecond e s).lights = s.lights ∧
    (takeSecond e s).score.alliances = s.score.alliances ∧ (takeSecond e s).stop = s.stop ∧
    (takeSecond e s).link = s.link ∧ (takeSecond e s).console = s.console ∧
    (takeSecond e s).attention = s.attention ∧ (takeSecond e s).settings = s.settings ∧
    (takeSecond e s).store = s.store ∧ (takeSecond e s).uptime = s.uptime ∧
    (takeSecond e s).resetAsserted = s.resetAsserted ∧ (takeSecond e s).freeCount = s.freeCount ∧
    (takeSecond e s).pending = s.pending ∧ (∀ j, (takeSecond e s).slot j = s.slot j) ∧
    (∀ j, (takeSecond e s).elemDef j = s.elemDef j) ∧ (∀ j, (takeSecond e s).run j = s.run j) ∧
    (∀ j, (takeSecond e s).claim j = s.claim j) ∧ (∀ j, (takeSecond e s).light j = s.light j) ∧
    (∀ j, (takeSecond e s).act j = s.act j) ∧ (∀ j, (takeSecond e s).alliance j = s.alliance j) ∧
    (∀ j, (takeSecond e s).box j = s.box j) ∧ (∀ j, (takeSecond e s).defined j = s.defined j) := by
  unfold takeSecond; (repeat' split) <;> simp [State.slot, State.elemDef, State.run, State.claim, State.light, State.act, State.elemScore, State.alliance, State.box, State.defined]

@[simp] theorem creditSecond_frame (e a : Nat) (s : State) :
    (creditSecond e a s).clock = s.clock ∧ (creditSecond e a s).roster = s.roster ∧
    (creditSecond e a s).table = s.table ∧ (creditSecond e a s).claims = s.claims ∧
    (creditSecond e a s).bus.acts = s.bus.acts ∧ (creditSecond e a s).bus.commandCount = s.bus.commandCount ∧
    (creditSecond e a s).bus.lastPolled = s.bus.lastPolled ∧
    (creditSecond e a s).bus.haltPending = s.bus.haltPending ∧ (creditSecond e a s).bus.pass = s.bus.pass ∧
    (creditSecond e a s).bus.current = s.bus.current ∧ (creditSecond e a s).stop = s.stop ∧
    (creditSecond e a s).link = s.link ∧ (creditSecond e a s).console = s.console ∧
    (creditSecond e a s).attention.enables = s.attention.enables ∧ (creditSecond e a s).settings = s.settings ∧
    (creditSecond e a s).store = s.store ∧ (creditSecond e a s).uptime = s.uptime ∧
    (creditSecond e a s).resetAsserted = s.resetAsserted ∧ (creditSecond e a s).freeCount = s.freeCount ∧
    (creditSecond e a s).pending = s.pending ∧ (∀ j, (creditSecond e a s).slot j = s.slot j) ∧
    (∀ j, (creditSecond e a s).elemDef j = s.elemDef j) ∧ (∀ j, (creditSecond e a s).run j = s.run j) ∧
    (∀ j, (creditSecond e a s).claim j = s.claim j) ∧ (∀ j, (creditSecond e a s).act j = s.act j) ∧
    (∀ j, (creditSecond e a s).box j = s.box j) ∧ (∀ j, (creditSecond e a s).defined j = s.defined j) := by
  unfold creditSecond; (repeat' split) <;> simp [State.slot, State.elemDef, State.run, State.claim, State.light, State.act, State.elemScore, State.alliance, State.box, State.defined]

@[simp] theorem countHold_frame (n : Nat) (up : Bool) (s : State) :
    (countHold n up s).clock = s.clock ∧ (countHold n up s).roster.strangers = s.roster.strangers ∧
    (countHold n up s).table = s.table ∧ (countHold n up s).claims = s.claims ∧ (countHold n up s).bus = s.bus ∧
    (countHold n up s).lights = s.lights ∧ (countHold n up s).score = s.score ∧ (countHold n up s).stop = s.stop ∧
    (countHold n up s).link = s.link ∧ (countHold n up s).console = s.console ∧
    (countHold n up s).attention = s.attention ∧ (countHold n up s).settings = s.settings ∧
    (countHold n up s).store = s.store ∧ (countHold n up s).uptime = s.uptime ∧
    (countHold n up s).resetAsserted = s.resetAsserted ∧ (countHold n up s).freeCount = s.freeCount ∧
    (countHold n up s).pending = s.pending ∧ (∀ j, (countHold n up s).elemDef j = s.elemDef j) ∧
    (∀ j, (countHold n up s).run j = s.run j) ∧ (∀ j, (countHold n up s).claim j = s.claim j) ∧
    (∀ j, (countHold n up s).light j = s.light j) ∧ (∀ j, (countHold n up s).act j = s.act j) ∧
    (∀ j, (countHold n up s).elemScore j = s.elemScore j) ∧ (∀ j, (countHold n up s).alliance j = s.alliance j) ∧
    (∀ j, (countHold n up s).box j = s.box j) ∧ (∀ j, (countHold n up s).defined j = s.defined j) := by
  unfold countHold; (repeat' split) <;> simp [State.slot, State.elemDef, State.run, State.claim, State.light, State.act, State.elemScore, State.alliance, State.box, State.defined]

@[simp] theorem countWait_frame (n : Nat) (up : Bool) (s : State) :
    (countWait n up s).clock = s.clock ∧ (countWait n up s).roster.strangers = s.roster.strangers ∧
    (countWait n up s).table = s.table ∧ (countWait n up s).claims = s.claims ∧ (countWait n up s).bus = s.bus ∧
    (countWait n up s).lights = s.lights ∧ (countWait n up s).score = s.score ∧ (countWait n up s).stop = s.stop ∧
    (countWait n up s).link = s.link ∧ (countWait n up s).console = s.console ∧
    (countWait n up s).attention = s.attention ∧ (countWait n up s).settings = s.settings ∧
    (countWait n up s).store = s.store ∧ (countWait n up s).uptime = s.uptime ∧
    (countWait n up s).resetAsserted = s.resetAsserted ∧ (countWait n up s).freeCount = s.freeCount ∧
    (countWait n up s).pending = s.pending ∧ (∀ j, (countWait n up s).elemDef j = s.elemDef j) ∧
    (∀ j, (countWait n up s).run j = s.run j) ∧ (∀ j, (countWait n up s).claim j = s.claim j) ∧
    (∀ j, (countWait n up s).light j = s.light j) ∧ (∀ j, (countWait n up s).act j = s.act j) ∧
    (∀ j, (countWait n up s).elemScore j = s.elemScore j) ∧ (∀ j, (countWait n up s).alliance j = s.alliance j) ∧
    (∀ j, (countWait n up s).box j = s.box j) ∧ (∀ j, (countWait n up s).defined j = s.defined j) := by
  unfold countWait; (repeat' split) <;> simp [State.slot, State.elemDef, State.run, State.claim, State.light, State.act, State.elemScore, State.alliance, State.box, State.defined]

@[simp] theorem leaveList_frame (n e : Nat) (s : State) :
    (leaveList n e s).clock = s.clock ∧ (leaveList n e s).roster.strangers = s.roster.strangers ∧
    (leaveList n e s).table = s.table ∧ (leaveList n e s).bus.acts = s.bus.acts ∧
    (leaveList n e s).bus.commandCount = s.bus.commandCount ∧ (leaveList n e s).bus.lastPolled = s.bus.lastPolled ∧
    (leaveList n e s).bus.haltPending = s.bus.haltPending ∧ (leaveList n e s).bus.pass = s.bus.pass ∧
    (leaveList n e s).bus.current = s.bus.current ∧ (leaveList n e s).score = s.score ∧
    (leaveList n e s).stop = s.stop ∧ (leaveList n e s).link = s.link ∧ (leaveList n e s).console = s.console ∧
    (leaveList n e s).attention = s.attention ∧ (leaveList n e s).settings = s.settings ∧
    (leaveList n e s).store = s.store ∧ (leaveList n e s).uptime = s.uptime ∧
    (leaveList n e s).resetAsserted = s.resetAsserted ∧ (leaveList n e s).freeCount = s.freeCount ∧
    (leaveList n e s).pending = s.pending ∧ (∀ j, (leaveList n e s).elemDef j = s.elemDef j) ∧
    (∀ j, (leaveList n e s).run j = s.run j) ∧ (∀ j, (leaveList n e s).act j = s.act j) ∧
    (∀ j, (leaveList n e s).elemScore j = s.elemScore j) ∧ (∀ j, (leaveList n e s).alliance j = s.alliance j) ∧
    (∀ j, (leaveList n e s).box j = s.box j) ∧ (∀ j, (leaveList n e s).defined j = s.defined j) := by
  unfold leaveList; (repeat' split) <;> simp [State.slot, State.elemDef, State.run, State.claim, State.light, State.act, State.elemScore, State.alliance, State.box, State.defined]

theorem leaveAllLists_fold_frame (n : Nat) (l : List Nat) (s : State) :
    (l.foldl (fun s e => leaveList n e s) s).clock = s.clock ∧
    (l.foldl (fun s e => leaveList n e s) s).roster.strangers = s.roster.strangers ∧
    (l.foldl (fun s e => leaveList n e s) s).table = s.table ∧
    (l.foldl (fun s e => leaveList n e s) s).bus.acts = s.bus.acts ∧
    (l.foldl (fun s e => leaveList n e s) s).bus.commandCount = s.bus.commandCount ∧
    (l.foldl (fun s e => leaveList n e s) s).bus.lastPolled = s.bus.lastPolled ∧
    (l.foldl (fun s e => leaveList n e s) s).bus.haltPending = s.bus.haltPending ∧
    (l.foldl (fun s e => leaveList n e s) s).bus.pass = s.bus.pass ∧
    (l.foldl (fun s e => leaveList n e s) s).bus.current = s.bus.current ∧
    (l.foldl (fun s e => leaveList n e s) s).score = s.score ∧
    (l.foldl (fun s e => leaveList n e s) s).stop = s.stop ∧ (l.foldl (fun s e => leaveList n e s) s).link = s.link ∧
    (l.foldl (fun s e => leaveList n e s) s).console = s.console ∧
    (l.foldl (fun s e => leaveList n e s) s).attention = s.attention ∧
    (l.foldl (fun s e => leaveList n e s) s).settings = s.settings ∧
    (l.foldl (fun s e => leaveList n e s) s).store = s.store ∧
    (l.foldl (fun s e => leaveList n e s) s).uptime = s.uptime ∧
    (l.foldl (fun s e => leaveList n e s) s).resetAsserted = s.resetAsserted ∧
    (l.foldl (fun s e => leaveList n e s) s).freeCount = s.freeCount ∧
    (l.foldl (fun s e => leaveList n e s) s).pending = s.pending ∧
    (∀ j, (l.foldl (fun s e => leaveList n e s) s).elemDef j = s.elemDef j) ∧
    (∀ j, (l.foldl (fun s e => leaveList n e s) s).run j = s.run j) ∧
    (∀ j, (l.foldl (fun s e => leaveList n e s) s).act j = s.act j) ∧
    (∀ j, (l.foldl (fun s e => leaveList n e s) s).elemScore j = s.elemScore j) ∧
    (∀ j, (l.foldl (fun s e => leaveList n e s) s).alliance j = s.alliance j) ∧
    (∀ j, (l.foldl (fun s e => leaveList n e s) s).box j = s.box j) ∧
    (∀ j, (l.foldl (fun s e => leaveList n e s) s).defined j = s.defined j) := by
  induction l generalizing s with
  | nil => simp
  | cons a l ih => simp only [List.foldl, ih]; simp

@[simp] theorem leaveAllLists_frame (n : Nat) (s : State) :
    (leaveAllLists n s).clock = s.clock ∧ (leaveAllLists n s).roster.strangers = s.roster.strangers ∧
    (leaveAllLists n s).table = s.table ∧ (leaveAllLists n s).bus.acts = s.bus.acts ∧
    (leaveAllLists n s).bus.commandCount = s.bus.commandCount ∧
    (leaveAllLists n s).bus.lastPolled = s.bus.lastPolled ∧ (leaveAllLists n s).bus.haltPending = s.bus.haltPending ∧
    (leaveAllLists n s).bus.pass = s.bus.pass ∧ (leaveAllLists n s).bus.current = s.bus.current ∧
    (leaveAllLists n s).score = s.score ∧ (leaveAllLists n s).stop = s.stop ∧ (leaveAllLists n s).link = s.link ∧
    (leaveAllLists n s).console = s.console ∧ (leaveAllLists n s).attention = s.attention ∧
    (leaveAllLists n s).settings = s.settings ∧ (leaveAllLists n s).store = s.store ∧
    (leaveAllLists n s).uptime = s.uptime ∧ (leaveAllLists n s).resetAsserted = s.resetAsserted ∧
    (leaveAllLists n s).freeCount = s.freeCount ∧ (leaveAllLists n s).pending = s.pending ∧
    (∀ j, (leaveAllLists n s).elemDef j = s.elemDef j) ∧ (∀ j, (leaveAllLists n s).run j = s.run j) ∧
    (∀ j, (leaveAllLists n s).act j = s.act j) ∧ (∀ j, (leaveAllLists n s).elemScore j = s.elemScore j) ∧
    (∀ j, (leaveAllLists n s).alliance j = s.alliance j) ∧ (∀ j, (leaveAllLists n s).box j = s.box j) ∧
    (∀ j, (leaveAllLists n s).defined j = s.defined j) := by
  unfold leaveAllLists; simp [leaveAllLists_fold_frame, State.slot, State.elemDef, State.run, State.claim, State.light, State.act, State.elemScore, State.alliance, State.box, State.defined]

@[simp] theorem becomeHolder_frame (n e : Nat) (s : State) :
    (becomeHolder n e s).clock = s.clock ∧ (becomeHolder n e s).roster.strangers = s.roster.strangers ∧
    (becomeHolder n e s).table = s.table ∧ (becomeHolder n e s).bus.acts = s.bus.acts ∧
    (becomeHolder n e s).bus.commandCount = s.bus.commandCount ∧
    (becomeHolder n e s).bus.lastPolled = s.bus.lastPolled ∧
    (becomeHolder n e s).bus.haltPending = s.bus.haltPending ∧ (becomeHolder n e s).bus.pass = s.bus.pass ∧
    (becomeHolder n e s).bus.current = s.bus.current ∧ (becomeHolder n e s).score.alliances = s.score.alliances ∧
    (becomeHolder n e s).stop = s.stop ∧ (becomeHolder n e s).link = s.link ∧
    (becomeHolder n e s).console = s.console ∧ (becomeHolder n e s).attention = s.attention ∧
    (becomeHolder n e s).settings = s.settings ∧ (becomeHolder n e s).store = s.store ∧
    (becomeHolder n e s).uptime = s.uptime ∧ (becomeHolder n e s).resetAsserted = s.resetAsserted ∧
    (becomeHolder n e s).freeCount = s.freeCount ∧ (becomeHolder n e s).pending = s.pending ∧
    (∀ j, (becomeHolder n e s).elemDef j = s.elemDef j) ∧ (∀ j, (becomeHolder n e s).run j = s.run j) ∧
    (∀ j, (becomeHolder n e s).act j = s.act j) ∧ (∀ j, (becomeHolder n e s).alliance j = s.alliance j) ∧
    (∀ j, (becomeHolder n e s).box j = s.box j) ∧ (∀ j, (becomeHolder n e s).defined j = s.defined j) := by
  unfold becomeHolder; dsimp only; (repeat' split) <;> simp [State.slot, State.elemDef, State.run, State.claim, State.light, State.act, State.elemScore, State.alliance, State.box, State.defined]

@[simp] theorem handover_frame (e : Nat) (s : State) :
    (handover e s).clock = s.clock ∧ (handover e s).roster.strangers = s.roster.strangers ∧
    (handover e s).table = s.table ∧ (handover e s).bus.acts = s.bus.acts ∧
    (handover e s).bus.commandCount = s.bus.commandCount ∧ (handover e s).bus.lastPolled = s.bus.lastPolled ∧
    (handover e s).bus.haltPending = s.bus.haltPending ∧ (handover e s).bus.pass = s.bus.pass ∧
    (handover e s).bus.current = s.bus.current ∧ (handover e s).score.alliances = s.score.alliances ∧
    (handover e s).stop = s.stop ∧ (handover e s).link = s.link ∧ (handover e s).console = s.console ∧
    (handover e s).attention = s.attention ∧ (handover e s).settings = s.settings ∧ (handover e s).store = s.store ∧
    (handover e s).uptime = s.uptime ∧ (handover e s).resetAsserted = s.resetAsserted ∧
    (handover e s).freeCount = s.freeCount ∧ (handover e s).pending = s.pending ∧
    (∀ j, (handover e s).elemDef j = s.elemDef j) ∧ (∀ j, (handover e s).run j = s.run j) ∧
    (∀ j, (handover e s).act j = s.act j) ∧ (∀ j, (handover e s).alliance j = s.alliance j) ∧
    (∀ j, (handover e s).box j = s.box j) ∧ (∀ j, (handover e s).defined j = s.defined j) := by
  unfold handover; (repeat' split) <;> simp [State.slot, State.elemDef, State.run, State.claim, State.light, State.act, State.elemScore, State.alliance, State.box, State.defined]

@[simp] theorem dropHolder_frame (e : Nat) (s : State) :
    (dropHolder e s).clock = s.clock ∧ (dropHolder e s).roster.strangers = s.roster.strangers ∧
    (dropHolder e s).table = s.table ∧ (dropHolder e s).bus = s.bus ∧ (dropHolder e s).lights = s.lights ∧
    (dropHolder e s).score = s.score ∧ (dropHolder e s).stop = s.stop ∧ (dropHolder e s).link = s.link ∧
    (dropHolder e s).console = s.console ∧ (dropHolder e s).attention = s.attention ∧
    (dropHolder e s).settings = s.settings ∧ (dropHolder e s).store = s.store ∧ (dropHolder e s).uptime = s.uptime ∧
    (dropHolder e s).resetAsserted = s.resetAsserted ∧ (dropHolder e s).freeCount = s.freeCount ∧
    (dropHolder e s).pending = s.pending ∧ (∀ j, (dropHolder e s).elemDef j = s.elemDef j) ∧
    (∀ j, (dropHolder e s).run j = s.run j) ∧ (∀ j, (dropHolder e s).light j = s.light j) ∧
    (∀ j, (dropHolder e s).act j = s.act j) ∧ (∀ j, (dropHolder e s).elemScore j = s.elemScore j) ∧
    (∀ j, (dropHolder e s).alliance j = s.alliance j) ∧ (∀ j, (dropHolder e s).box j = s.box j) ∧
    (∀ j, (dropHolder e s).defined j = s.defined j) := by
  unfold dropHolder; (repeat' split) <;> simp [State.slot, State.elemDef, State.run, State.claim, State.light, State.act, State.elemScore, State.alliance, State.box, State.defined]

@[simp] theorem endHold_frame (e : Nat) (s : State) :
    (endHold e s).clock = s.clock ∧ (endHold e s).roster.strangers = s.roster.strangers ∧
    (endHold e s).table = s.table ∧ (endHold e s).bus.acts = s.bus.acts ∧
    (endHold e s).bus.commandCount = s.bus.commandCount ∧ (endHold e s).bus.lastPolled = s.bus.lastPolled ∧
    (endHold e s).bus.haltPending = s.bus.haltPending ∧ (endHold e s).bus.pass = s.bus.pass ∧
    (endHold e s).bus.current = s.bus.current ∧ (endHold e s).score.alliances = s.score.alliances ∧
    (endHold e s).stop = s.stop ∧ (endHold e s).link = s.link ∧ (endHold e s).console = s.console ∧
    (endHold e s).attention = s.attention ∧ (endHold e s).settings = s.settings ∧ (endHold e s).store = s.store ∧
    (endHold e s).uptime = s.uptime ∧ (endHold e s).resetAsserted = s.resetAsserted ∧
    (endHold e s).freeCount = s.freeCount ∧ (endHold e s).pending = s.pending ∧
    (∀ j, (endHold e s).elemDef j = s.elemDef j) ∧ (∀ j, (endHold e s).run j = s.run j) ∧
    (∀ j, (endHold e s).act j = s.act j) ∧ (∀ j, (endHold e s).alliance j = s.alliance j) ∧
    (∀ j, (endHold e s).box j = s.box j) ∧ (∀ j, (endHold e s).defined j = s.defined j) := by
  unfold endHold; (repeat' split) <;> simp [State.slot, State.elemDef, State.run, State.claim, State.light, State.act, State.elemScore, State.alliance, State.box, State.defined]

@[simp] theorem bar_frame (n e : Nat) (s : State) :
    (bar n e s).clock = s.clock ∧ (bar n e s).roster = s.roster ∧ (bar n e s).table = s.table ∧
    (bar n e s).bus = s.bus ∧ (bar n e s).lights = s.lights ∧ (bar n e s).score = s.score ∧
    (bar n e s).stop = s.stop ∧ (bar n e s).link = s.link ∧ (bar n e s).console = s.console ∧
    (bar n e s).attention = s.attention ∧ (bar n e s).settings = s.settings ∧ (bar n e s).store = s.store ∧
    (bar n e s).uptime = s.uptime ∧ (bar n e s).resetAsserted = s.resetAsserted ∧
    (bar n e s).freeCount = s.freeCount ∧ (bar n e s).pending = s.pending ∧ (∀ j, (bar n e s).slot j = s.slot j) ∧
    (∀ j, (bar n e s).elemDef j = s.elemDef j) ∧ (∀ j, (bar n e s).run j = s.run j) ∧
    (∀ j, (bar n e s).light j = s.light j) ∧ (∀ j, (bar n e s).act j = s.act j) ∧
    (∀ j, (bar n e s).elemScore j = s.elemScore j) ∧ (∀ j, (bar n e s).alliance j = s.alliance j) ∧
    (∀ j, (bar n e s).box j = s.box j) ∧ (∀ j, (bar n e s).defined j = s.defined j) := by
  unfold bar; (repeat' split) <;> simp [State.slot, State.elemDef, State.run, State.claim, State.light, State.act, State.elemScore, State.alliance, State.box, State.defined]

@[simp] theorem joinList_frame (n e : Nat) (s : State) :
    (joinList n e s).clock = s.clock ∧ (joinList n e s).roster.strangers = s.roster.strangers ∧
    (joinList n e s).table = s.table ∧ (joinList n e s).bus.acts = s.bus.acts ∧
    (joinList n e s).bus.commandCount = s.bus.commandCount ∧ (joinList n e s).bus.lastPolled = s.bus.lastPolled ∧
    (joinList n e s).bus.haltPending = s.bus.haltPending ∧ (joinList n e s).bus.pass = s.bus.pass ∧
    (joinList n e s).bus.current = s.bus.current ∧ (joinList n e s).score = s.score ∧
    (joinList n e s).stop = s.stop ∧ (joinList n e s).link = s.link ∧ (joinList n e s).console = s.console ∧
    (joinList n e s).attention = s.attention ∧ (joinList n e s).settings = s.settings ∧
    (joinList n e s).store = s.store ∧ (joinList n e s).uptime = s.uptime ∧
    (joinList n e s).resetAsserted = s.resetAsserted ∧ (joinList n e s).freeCount = s.freeCount ∧
    (joinList n e s).pending = s.pending ∧ (∀ j, (joinList n e s).elemDef j = s.elemDef j) ∧
    (∀ j, (joinList n e s).run j = s.run j) ∧ (∀ j, (joinList n e s).act j = s.act j) ∧
    (∀ j, (joinList n e s).elemScore j = s.elemScore j) ∧ (∀ j, (joinList n e s).alliance j = s.alliance j) ∧
    (∀ j, (joinList n e s).box j = s.box j) ∧ (∀ j, (joinList n e s).defined j = s.defined j) := by
  unfold joinList; (repeat' split) <;> simp [State.slot, State.elemDef, State.run, State.claim, State.light, State.act, State.elemScore, State.alliance, State.box, State.defined]

@[simp] theorem endHoldOf_frame (n e : Nat) (s : State) :
    (endHoldOf n e s).clock = s.clock ∧ (endHoldOf n e s).roster.strangers = s.roster.strangers ∧
    (endHoldOf n e s).table = s.table ∧ (endHoldOf n e s).bus.acts = s.bus.acts ∧
    (endHoldOf n e s).bus.commandCount = s.bus.commandCount ∧ (endHoldOf n e s).bus.lastPolled = s.bus.lastPolled ∧
    (endHoldOf n e s).bus.haltPending = s.bus.haltPending ∧ (endHoldOf n e s).bus.pass = s.bus.pass ∧
    (endHoldOf n e s).bus.current = s.bus.current ∧ (endHoldOf n e s).score.alliances = s.score.alliances ∧
    (endHoldOf n e s).stop = s.stop ∧ (endHoldOf n e s).link = s.link ∧ (endHoldOf n e s).console = s.console ∧
    (endHoldOf n e s).attention = s.attention ∧ (endHoldOf n e s).settings = s.settings ∧
    (endHoldOf n e s).store = s.store ∧ (endHoldOf n e s).uptime = s.uptime ∧
    (endHoldOf n e s).resetAsserted = s.resetAsserted ∧ (endHoldOf n e s).freeCount = s.freeCount ∧
    (endHoldOf n e s).pending = s.pending ∧ (∀ j, (endHoldOf n e s).elemDef j = s.elemDef j) ∧
    (∀ j, (endHoldOf n e s).run j = s.run j) ∧ (∀ j, (endHoldOf n e s).act j = s.act j) ∧
    (∀ j, (endHoldOf n e s).alliance j = s.alliance j) ∧ (∀ j, (endHoldOf n e s).box j = s.box j) ∧
    (∀ j, (endHoldOf n e s).defined j = s.defined j) := by
  unfold endHoldOf; (repeat' split) <;> simp [State.slot, State.elemDef, State.run, State.claim, State.light, State.act, State.elemScore, State.alliance, State.box, State.defined]

theorem dropClaims_fold_frame (n : Nat) (l : List Nat) (s : State) :
    (l.foldl (fun s e => endHoldOf n e s) s).clock = s.clock ∧
    (l.foldl (fun s e => endHoldOf n e s) s).roster.strangers = s.roster.strangers ∧
    (l.foldl (fun s e => endHoldOf n e s) s).table = s.table ∧
    (l.foldl (fun s e => endHoldOf n e s) s).bus.acts = s.bus.acts ∧
    (l.foldl (fun s e => endHoldOf n e s) s).bus.commandCount = s.bus.commandCount ∧
    (l.foldl (fun s e => endHoldOf n e s) s).bus.lastPolled = s.bus.lastPolled ∧
    (l.foldl (fun s e => endHoldOf n e s) s).bus.haltPending = s.bus.haltPending ∧
    (l.foldl (fun s e => endHoldOf n e s) s).bus.pass = s.bus.pass ∧
    (l.foldl (fun s e => endHoldOf n e s) s).bus.current = s.bus.current ∧
    (l.foldl (fun s e => endHoldOf n e s) s).score.alliances = s.score.alliances ∧
    (l.foldl (fun s e => endHoldOf n e s) s).stop = s.stop ∧ (l.foldl (fun s e => endHoldOf n e s) s).link = s.link ∧
    (l.foldl (fun s e => endHoldOf n e s) s).console = s.console ∧
    (l.foldl (fun s e => endHoldOf n e s) s).attention = s.attention ∧
    (l.foldl (fun s e => endHoldOf n e s) s).settings = s.settings ∧
    (l.foldl (fun s e => endHoldOf n e s) s).store = s.store ∧
    (l.foldl (fun s e => endHoldOf n e s) s).uptime = s.uptime ∧
    (l.foldl (fun s e => endHoldOf n e s) s).resetAsserted = s.resetAsserted ∧
    (l.foldl (fun s e => endHoldOf n e s) s).freeCount = s.freeCount ∧
    (l.foldl (fun s e => endHoldOf n e s) s).pending = s.pending ∧
    (∀ j, (l.foldl (fun s e => endHoldOf n e s) s).elemDef j = s.elemDef j) ∧
    (∀ j, (l.foldl (fun s e => endHoldOf n e s) s).run j = s.run j) ∧
    (∀ j, (l.foldl (fun s e => endHoldOf n e s) s).act j = s.act j) ∧
    (∀ j, (l.foldl (fun s e => endHoldOf n e s) s).alliance j = s.alliance j) ∧
    (∀ j, (l.foldl (fun s e => endHoldOf n e s) s).box j = s.box j) ∧
    (∀ j, (l.foldl (fun s e => endHoldOf n e s) s).defined j = s.defined j) := by
  induction l generalizing s with
  | nil => simp
  | cons a l ih => simp only [List.foldl, ih]; simp

@[simp] theorem dropClaims_frame (n : Nat) (s : State) :
    (dropClaims n s).clock = s.clock ∧ (dropClaims n s).roster.strangers = s.roster.strangers ∧
    (dropClaims n s).table = s.table ∧ (dropClaims n s).bus.acts = s.bus.acts ∧
    (dropClaims n s).bus.commandCount = s.bus.commandCount ∧ (dropClaims n s).bus.lastPolled = s.bus.lastPolled ∧
    (dropClaims n s).bus.haltPending = s.bus.haltPending ∧ (dropClaims n s).bus.pass = s.bus.pass ∧
    (dropClaims n s).bus.current = s.bus.current ∧ (dropClaims n s).score.alliances = s.score.alliances ∧
    (dropClaims n s).stop = s.stop ∧ (dropClaims n s).link = s.link ∧ (dropClaims n s).console = s.console ∧
    (dropClaims n s).attention = s.attention ∧ (dropClaims n s).settings = s.settings ∧
    (dropClaims n s).store = s.store ∧ (dropClaims n s).uptime = s.uptime ∧
    (dropClaims n s).resetAsserted = s.resetAsserted ∧ (dropClaims n s).freeCount = s.freeCount ∧
    (dropClaims n s).pending = s.pending ∧ (∀ j, (dropClaims n s).elemDef j = s.elemDef j) ∧
    (∀ j, (dropClaims n s).run j = s.run j) ∧ (∀ j, (dropClaims n s).act j = s.act j) ∧
    (∀ j, (dropClaims n s).alliance j = s.alliance j) ∧ (∀ j, (dropClaims n s).box j = s.box j) ∧
    (∀ j, (dropClaims n s).defined j = s.defined j) := by
  unfold dropClaims; simp [dropClaims_fold_frame, State.slot, State.elemDef, State.run, State.claim, State.light, State.act, State.elemScore, State.alliance, State.box, State.defined]

theorem emptyElement_fold_frame (l : List Nat) (s : State) :
    (l.foldl (fun s n => countWait n false s) s).clock = s.clock ∧
    (l.foldl (fun s n => countWait n false s) s).roster.strangers = s.roster.strangers ∧
    (l.foldl (fun s n => countWait n false s) s).table = s.table ∧
    (l.foldl (fun s n => countWait n false s) s).claims = s.claims ∧
    (l.foldl (fun s n => countWait n false s) s).bus = s.bus ∧
    (l.foldl (fun s n => countWait n false s) s).lights = s.lights ∧
    (l.foldl (fun s n => countWait n false s) s).score = s.score ∧
    (l.foldl (fun s n => countWait n false s) s).stop = s.stop ∧
    (l.foldl (fun s n => countWait n false s) s).link = s.link ∧
    (l.foldl (fun s n => countWait n false s) s).console = s.console ∧
    (l.foldl (fun s n => countWait n false s) s).attention = s.attention ∧
    (l.foldl (fun s n => countWait n false s) s).settings = s.settings ∧
    (l.foldl (fun s n => countWait n false s) s).store = s.store ∧
    (l.foldl (fun s n => countWait n false s) s).uptime = s.uptime ∧
    (l.foldl (fun s n => countWait n false s) s).resetAsserted = s.resetAsserted ∧
    (l.foldl (fun s n => countWait n false s) s).freeCount = s.freeCount ∧
    (l.foldl (fun s n => countWait n false s) s).pending = s.pending ∧
    (∀ j, (l.foldl (fun s n => countWait n false s) s).elemDef j = s.elemDef j) ∧
    (∀ j, (l.foldl (fun s n => countWait n false s) s).run j = s.run j) ∧
    (∀ j, (l.foldl (fun s n => countWait n false s) s).claim j = s.claim j) ∧
    (∀ j, (l.foldl (fun s n => countWait n false s) s).light j = s.light j) ∧
    (∀ j, (l.foldl (fun s n => countWait n false s) s).act j = s.act j) ∧
    (∀ j, (l.foldl (fun s n => countWait n false s) s).elemScore j = s.elemScore j) ∧
    (∀ j, (l.foldl (fun s n => countWait n false s) s).alliance j = s.alliance j) ∧
    (∀ j, (l.foldl (fun s n => countWait n false s) s).box j = s.box j) ∧
    (∀ j, (l.foldl (fun s n => countWait n false s) s).defined j = s.defined j) := by
  induction l generalizing s with
  | nil => simp
  | cons a l ih => simp only [List.foldl, ih]; simp

@[simp] theorem emptyElement_frame (e : Nat) (s : State) :
    (emptyElement e s).clock = s.clock ∧ (emptyElement e s).roster.strangers = s.roster.strangers ∧
    (emptyElement e s).table = s.table ∧ (emptyElement e s).bus = s.bus ∧ (emptyElement e s).lights = s.lights ∧
    (emptyElement e s).score = s.score ∧ (emptyElement e s).stop = s.stop ∧ (emptyElement e s).link = s.link ∧
    (emptyElement e s).console = s.console ∧ (emptyElement e s).attention = s.attention ∧
    (emptyElement e s).settings = s.settings ∧ (emptyElement e s).store = s.store ∧
    (emptyElement e s).uptime = s.uptime ∧ (emptyElement e s).resetAsserted = s.resetAsserted ∧
    (emptyElement e s).freeCount = s.freeCount ∧ (emptyElement e s).pending = s.pending ∧
    (∀ j, (emptyElement e s).elemDef j = s.elemDef j) ∧ (∀ j, (emptyElement e s).run j = s.run j) ∧
    (∀ j, (emptyElement e s).light j = s.light j) ∧ (∀ j, (emptyElement e s).act j = s.act j) ∧
    (∀ j, (emptyElement e s).elemScore j = s.elemScore j) ∧ (∀ j, (emptyElement e s).alliance j = s.alliance j) ∧
    (∀ j, (emptyElement e s).box j = s.box j) ∧ (∀ j, (emptyElement e s).defined j = s.defined j) := by
  unfold emptyElement; simp [emptyElement_fold_frame, State.slot, State.elemDef, State.run, State.claim, State.light, State.act, State.elemScore, State.alliance, State.box, State.defined]

@[simp] theorem clearElement_frame (e : Nat) (s : State) :
    (clearElement e s).clock = s.clock ∧ (clearElement e s).roster = s.roster ∧ (clearElement e s).table = s.table ∧
    (clearElement e s).bus.acts = s.bus.acts ∧ (clearElement e s).bus.commandCount = s.bus.commandCount ∧
    (clearElement e s).bus.lastPolled = s.bus.lastPolled ∧ (clearElement e s).bus.haltPending = s.bus.haltPending ∧
    (clearElement e s).bus.pass = s.bus.pass ∧ (clearElement e s).bus.current = s.bus.current ∧
    (clearElement e s).score.alliances = s.score.alliances ∧ (clearElement e s).stop = s.stop ∧
    (clearElement e s).link = s.link ∧ (clearElement e s).console = s.console ∧
    (clearElement e s).attention = s.attention ∧ (clearElement e s).settings = s.settings ∧
    (clearElement e s).store = s.store ∧ (clearElement e s).uptime = s.uptime ∧
    (clearElement e s).resetAsserted = s.resetAsserted ∧ (clearElement e s).freeCount = s.freeCount ∧
    (clearElement e s).pending = s.pending ∧ (∀ j, (clearElement e s).slot j = s.slot j) ∧
    (∀ j, (clearElement e s).elemDef j = s.elemDef j) ∧ (∀ j, (clearElement e s).run j = s.run j) ∧
    (∀ j, (clearElement e s).act j = s.act j) ∧ (∀ j, (clearElement e s).alliance j = s.alliance j) ∧
    (∀ j, (clearElement e s).box j = s.box j) ∧ (∀ j, (clearElement e s).defined j = s.defined j) := by
  unfold clearElement; dsimp only; (repeat' split) <;> simp [State.slot, State.elemDef, State.run, State.claim, State.light, State.act, State.elemScore, State.alliance, State.box, State.defined]

theorem clearClaims_fold_frame (l : List Nat) (s : State) :
    (l.foldl (fun s e => clearElement e s) s).clock = s.clock ∧
    (l.foldl (fun s e => clearElement e s) s).roster = s.roster ∧
    (l.foldl (fun s e => clearElement e s) s).table = s.table ∧
    (l.foldl (fun s e => clearElement e s) s).bus.acts = s.bus.acts ∧
    (l.foldl (fun s e => clearElement e s) s).bus.commandCount = s.bus.commandCount ∧
    (l.foldl (fun s e => clearElement e s) s).bus.lastPolled = s.bus.lastPolled ∧
    (l.foldl (fun s e => clearElement e s) s).bus.haltPending = s.bus.haltPending ∧
    (l.foldl (fun s e => clearElement e s) s).bus.pass = s.bus.pass ∧
    (l.foldl (fun s e => clearElement e s) s).bus.current = s.bus.current ∧
    (l.foldl (fun s e => clearElement e s) s).score.alliances = s.score.alliances ∧
    (l.foldl (fun s e => clearElement e s) s).stop = s.stop ∧
    (l.foldl (fun s e => clearElement e s) s).link = s.link ∧
    (l.foldl (fun s e => clearElement e s) s).console = s.console ∧
    (l.foldl (fun s e => clearElement e s) s).attention = s.attention ∧
    (l.foldl (fun s e => clearElement e s) s).settings = s.settings ∧
    (l.foldl (fun s e => clearElement e s) s).store = s.store ∧
    (l.foldl (fun s e => clearElement e s) s).uptime = s.uptime ∧
    (l.foldl (fun s e => clearElement e s) s).resetAsserted = s.resetAsserted ∧
    (l.foldl (fun s e => clearElement e s) s).freeCount = s.freeCount ∧
    (l.foldl (fun s e => clearElement e s) s).pending = s.pending ∧
    (∀ j, (l.foldl (fun s e => clearElement e s) s).slot j = s.slot j) ∧
    (∀ j, (l.foldl (fun s e => clearElement e s) s).elemDef j = s.elemDef j) ∧
    (∀ j, (l.foldl (fun s e => clearElement e s) s).run j = s.run j) ∧
    (∀ j, (l.foldl (fun s e => clearElement e s) s).act j = s.act j) ∧
    (∀ j, (l.foldl (fun s e => clearElement e s) s).alliance j = s.alliance j) ∧
    (∀ j, (l.foldl (fun s e => clearElement e s) s).box j = s.box j) ∧
    (∀ j, (l.foldl (fun s e => clearElement e s) s).defined j = s.defined j) := by
  induction l generalizing s with
  | nil => simp
  | cons a l ih => simp only [List.foldl, ih]; simp

@[simp] theorem clearClaims_frame (s : State) :
    (clearClaims s).clock = s.clock ∧ (clearClaims s).roster.strangers = s.roster.strangers ∧
    (clearClaims s).table = s.table ∧ (clearClaims s).bus.acts = s.bus.acts ∧
    (clearClaims s).bus.commandCount = s.bus.commandCount ∧ (clearClaims s).bus.lastPolled = s.bus.lastPolled ∧
    (clearClaims s).bus.haltPending = s.bus.haltPending ∧ (clearClaims s).bus.pass = s.bus.pass ∧
    (clearClaims s).bus.current = s.bus.current ∧ (clearClaims s).score.alliances = s.score.alliances ∧
    (clearClaims s).stop = s.stop ∧ (clearClaims s).link = s.link ∧ (clearClaims s).console = s.console ∧
    (clearClaims s).attention = s.attention ∧ (clearClaims s).settings = s.settings ∧
    (clearClaims s).store = s.store ∧ (clearClaims s).uptime = s.uptime ∧
    (clearClaims s).resetAsserted = s.resetAsserted ∧ (clearClaims s).freeCount = s.freeCount ∧
    (clearClaims s).pending = s.pending ∧ (∀ j, (clearClaims s).elemDef j = s.elemDef j) ∧
    (∀ j, (clearClaims s).run j = s.run j) ∧ (∀ j, (clearClaims s).act j = s.act j) ∧
    (∀ j, (clearClaims s).alliance j = s.alliance j) ∧ (∀ j, (clearClaims s).box j = s.box j) ∧
    (∀ j, (clearClaims s).defined j = s.defined j) := by
  unfold clearClaims; simp [clearClaims_fold_frame, State.slot, State.elemDef, State.run, State.claim, State.light, State.act, State.elemScore, State.alliance, State.box, State.defined]

@[simp] theorem expireHold_frame (e : Nat) (s : State) :
    (expireHold e s).clock = s.clock ∧ (expireHold e s).roster.strangers = s.roster.strangers ∧
    (expireHold e s).table = s.table ∧ (expireHold e s).bus.acts = s.bus.acts ∧
    (expireHold e s).bus.commandCount = s.bus.commandCount ∧ (expireHold e s).bus.lastPolled = s.bus.lastPolled ∧
    (expireHold e s).bus.haltPending = s.bus.haltPending ∧ (expireHold e s).bus.pass = s.bus.pass ∧
    (expireHold e s).bus.current = s.bus.current ∧ (expireHold e s).score.alliances = s.score.alliances ∧
    (expireHold e s).stop = s.stop ∧ (expireHold e s).link = s.link ∧ (expireHold e s).console = s.console ∧
    (expireHold e s).attention.enables = s.attention.enables ∧ (expireHold e s).settings = s.settings ∧
    (expireHold e s).store = s.store ∧ (expireHold e s).uptime = s.uptime ∧
    (expireHold e s).resetAsserted = s.resetAsserted ∧ (expireHold e s).freeCount = s.freeCount ∧
    (expireHold e s).pending = s.pending ∧ (∀ j, (expireHold e s).elemDef j = s.elemDef j) ∧
    (∀ j, (expireHold e s).run j = s.run j) ∧ (∀ j, (expireHold e s).act j = s.act j) ∧
    (∀ j, (expireHold e s).alliance j = s.alliance j) ∧ (∀ j, (expireHold e s).box j = s.box j) ∧
    (∀ j, (expireHold e s).defined j = s.defined j) := by
  unfold expireHold; (repeat' split) <;> simp [State.slot, State.elemDef, State.run, State.claim, State.light, State.act, State.elemScore, State.alliance, State.box, State.defined]

theorem claimElement_cases (n e : Nat) (s : State) :
    (claimElement n e s).1 = s ∨ (claimElement n e s).1 = becomeHolder n e s ∨ (claimElement n e s).1 = joinList n e s := by
  unfold claimElement
  dsimp only
  repeat' split
  all_goals simp

@[simp] theorem claimElement_frame (n e : Nat) (s : State) :
    ((claimElement n e s).1).clock = s.clock ∧ ((claimElement n e s).1).roster.strangers = s.roster.strangers ∧
    ((claimElement n e s).1).table = s.table ∧ ((claimElement n e s).1).bus.acts = s.bus.acts ∧
    ((claimElement n e s).1).bus.commandCount = s.bus.commandCount ∧
    ((claimElement n e s).1).bus.lastPolled = s.bus.lastPolled ∧
    ((claimElement n e s).1).bus.haltPending = s.bus.haltPending ∧ ((claimElement n e s).1).bus.pass = s.bus.pass ∧
    ((claimElement n e s).1).bus.current = s.bus.current ∧
    ((claimElement n e s).1).score.alliances = s.score.alliances ∧ ((claimElement n e s).1).stop = s.stop ∧
    ((claimElement n e s).1).link = s.link ∧ ((claimElement n e s).1).console = s.console ∧
    ((claimElement n e s).1).attention = s.attention ∧ ((claimElement n e s).1).settings = s.settings ∧
    ((claimElement n e s).1).store = s.store ∧ ((claimElement n e s).1).uptime = s.uptime ∧
    ((claimElement n e s).1).resetAsserted = s.resetAsserted ∧ ((claimElement n e s).1).freeCount = s.freeCount ∧
    ((claimElement n e s).1).pending = s.pending ∧ (∀ j, ((claimElement n e s).1).elemDef j = s.elemDef j) ∧
    (∀ j, ((claimElement n e s).1).run j = s.run j) ∧ (∀ j, ((claimElement n e s).1).act j = s.act j) ∧
    (∀ j, ((claimElement n e s).1).alliance j = s.alliance j) ∧ (∀ j, ((claimElement n e s).1).box j = s.box j) ∧
    (∀ j, ((claimElement n e s).1).defined j = s.defined j) := by
  rcases claimElement_cases n e s with h | h | h <;> simp [h]

@[simp] theorem releaseElement_frame (n e : Nat) (s : State) :
    ((releaseElement n e s).1).clock = s.clock ∧ ((releaseElement n e s).1).roster.strangers = s.roster.strangers ∧
    ((releaseElement n e s).1).table = s.table ∧ ((releaseElement n e s).1).bus.acts = s.bus.acts ∧
    ((releaseElement n e s).1).bus.commandCount = s.bus.commandCount ∧
    ((releaseElement n e s).1).bus.lastPolled = s.bus.lastPolled ∧
    ((releaseElement n e s).1).bus.haltPending = s.bus.haltPending ∧
    ((releaseElement n e s).1).bus.pass = s.bus.pass ∧ ((releaseElement n e s).1).bus.current = s.bus.current ∧
    ((releaseElement n e s).1).score.alliances = s.score.alliances ∧ ((releaseElement n e s).1).stop = s.stop ∧
    ((releaseElement n e s).1).link = s.link ∧ ((releaseElement n e s).1).console = s.console ∧
    ((releaseElement n e s).1).attention = s.attention ∧ ((releaseElement n e s).1).settings = s.settings ∧
    ((releaseElement n e s).1).store = s.store ∧ ((releaseElement n e s).1).uptime = s.uptime ∧
    ((releaseElement n e s).1).resetAsserted = s.resetAsserted ∧ ((releaseElement n e s).1).freeCount = s.freeCount ∧
    ((releaseElement n e s).1).pending = s.pending ∧ (∀ j, ((releaseElement n e s).1).elemDef j = s.elemDef j) ∧
    (∀ j, ((releaseElement n e s).1).run j = s.run j) ∧ (∀ j, ((releaseElement n e s).1).act j = s.act j) ∧
    (∀ j, ((releaseElement n e s).1).alliance j = s.alliance j) ∧ (∀ j, ((releaseElement n e s).1).box j = s.box j) ∧
    (∀ j, ((releaseElement n e s).1).defined j = s.defined j) := by
  unfold releaseElement; (repeat' split) <;> simp [State.slot, State.elemDef, State.run, State.claim, State.light, State.act, State.elemScore, State.alliance, State.box, State.defined]

@[simp] theorem captureFault_frame (e : Nat) (k : FaultKind) (s : State) :
    (captureFault e k s).clock = s.clock ∧ (captureFault e k s).roster = s.roster ∧
    (captureFault e k s).table.defs = s.table.defs ∧ (captureFault e k s).table.runs = s.table.runs ∧
    (captureFault e k s).claims = s.claims ∧ (captureFault e k s).bus = s.bus ∧
    (captureFault e k s).lights = s.lights ∧ (captureFault e k s).score = s.score ∧
    (captureFault e k s).stop = s.stop ∧ (captureFault e k s).link = s.link ∧
    (captureFault e k s).console = s.console ∧ (captureFault e k s).attention = s.attention ∧
    (captureFault e k s).settings = s.settings ∧ (captureFault e k s).store = s.store ∧
    (captureFault e k s).uptime = s.uptime ∧ (captureFault e k s).resetAsserted = s.resetAsserted ∧
    (captureFault e k s).freeCount = s.freeCount ∧ (captureFault e k s).pending = s.pending ∧
    (∀ j, (captureFault e k s).slot j = s.slot j) ∧ (∀ j, (captureFault e k s).elemDef j = s.elemDef j) ∧
    (∀ j, (captureFault e k s).run j = s.run j) ∧ (∀ j, (captureFault e k s).claim j = s.claim j) ∧
    (∀ j, (captureFault e k s).light j = s.light j) ∧ (∀ j, (captureFault e k s).act j = s.act j) ∧
    (∀ j, (captureFault e k s).elemScore j = s.elemScore j) ∧ (∀ j, (captureFault e k s).alliance j = s.alliance j) ∧
    (∀ j, (captureFault e k s).box j = s.box j) ∧ (∀ j, (captureFault e k s).defined j = s.defined j) := by
  unfold captureFault; (repeat' split) <;> simp [State.slot, State.elemDef, State.run, State.claim, State.light, State.act, State.elemScore, State.alliance, State.box, State.defined]

@[simp] theorem recordFault_frame (e : Nat) (k : FaultKind) (s : State) :
    (recordFault e k s).clock = s.clock ∧ (recordFault e k s).roster = s.roster ∧
    (recordFault e k s).table.defs = s.table.defs ∧ (recordFault e k s).claims = s.claims ∧
    (recordFault e k s).bus.acts = s.bus.acts ∧ (recordFault e k s).bus.commandCount = s.bus.commandCount ∧
    (recordFault e k s).bus.lastPolled = s.bus.lastPolled ∧ (recordFault e k s).bus.haltPending = s.bus.haltPending ∧
    (recordFault e k s).bus.pass = s.bus.pass ∧ (recordFault e k s).bus.current = s.bus.current ∧
    (recordFault e k s).score = s.score ∧ (recordFault e k s).stop = s.stop ∧ (recordFault e k s).link = s.link ∧
    (recordFault e k s).console = s.console ∧ (recordFault e k s).attention.enables = s.attention.enables ∧
    (recordFault e k s).settings = s.settings ∧ (recordFault e k s).store = s.store ∧
    (recordFault e k s).uptime = s.uptime ∧ (recordFault e k s).resetAsserted = s.resetAsserted ∧
    (recordFault e k s).freeCount = s.freeCount ∧ (recordFault e k s).pending = s.pending ∧
    (∀ j, (recordFault e k s).slot j = s.slot j) ∧ (∀ j, (recordFault e k s).elemDef j = s.elemDef j) ∧
    (∀ j, (recordFault e k s).claim j = s.claim j) ∧ (∀ j, (recordFault e k s).act j = s.act j) ∧
    (∀ j, (recordFault e k s).elemScore j = s.elemScore j) ∧ (∀ j, (recordFault e k s).alliance j = s.alliance j) ∧
    (∀ j, (recordFault e k s).box j = s.box j) ∧ (∀ j, (recordFault e k s).defined j = s.defined j) := by
  unfold recordFault; dsimp only; (repeat' split) <;> simp [State.slot, State.elemDef, State.run, State.claim, State.light, State.act, State.elemScore, State.alliance, State.box, State.defined]

@[simp] theorem goodAnswer_frame (e : Nat) (s : State) :
    (goodAnswer e s).clock = s.clock ∧ (goodAnswer e s).roster = s.roster ∧
    (goodAnswer e s).table.defs = s.table.defs ∧ (goodAnswer e s).table.capture = s.table.capture ∧
    (goodAnswer e s).table.repeated = s.table.repeated ∧ (goodAnswer e s).claims = s.claims ∧
    (goodAnswer e s).bus = s.bus ∧ (goodAnswer e s).lights = s.lights ∧ (goodAnswer e s).score = s.score ∧
    (goodAnswer e s).stop = s.stop ∧ (goodAnswer e s).link = s.link ∧ (goodAnswer e s).console = s.console ∧
    (goodAnswer e s).attention.enables = s.attention.enables ∧ (goodAnswer e s).settings = s.settings ∧
    (goodAnswer e s).store = s.store ∧ (goodAnswer e s).uptime = s.uptime ∧
    (goodAnswer e s).resetAsserted = s.resetAsserted ∧ (goodAnswer e s).freeCount = s.freeCount ∧
    (goodAnswer e s).pending = s.pending ∧ (∀ j, (goodAnswer e s).slot j = s.slot j) ∧
    (∀ j, (goodAnswer e s).elemDef j = s.elemDef j) ∧ (∀ j, (goodAnswer e s).claim j = s.claim j) ∧
    (∀ j, (goodAnswer e s).light j = s.light j) ∧ (∀ j, (goodAnswer e s).act j = s.act j) ∧
    (∀ j, (goodAnswer e s).elemScore j = s.elemScore j) ∧ (∀ j, (goodAnswer e s).alliance j = s.alliance j) ∧
    (∀ j, (goodAnswer e s).box j = s.box j) ∧ (∀ j, (goodAnswer e s).defined j = s.defined j) := by
  unfold goodAnswer; (repeat' split) <;> simp [State.slot, State.elemDef, State.run, State.claim, State.light, State.act, State.elemScore, State.alliance, State.box, State.defined]

@[simp] theorem countMiss_frame (e : Nat) (s : State) :
    (countMiss e s).clock = s.clock ∧ (countMiss e s).roster = s.roster ∧ (countMiss e s).table.defs = s.table.defs ∧
    (countMiss e s).claims = s.claims ∧ (countMiss e s).bus.acts = s.bus.acts ∧
    (countMiss e s).bus.commandCount = s.bus.commandCount ∧ (countMiss e s).bus.lastPolled = s.bus.lastPolled ∧
    (countMiss e s).bus.haltPending = s.bus.haltPending ∧ (countMiss e s).bus.pass = s.bus.pass ∧
    (countMiss e s).bus.current = s.bus.current ∧ (countMiss e s).score = s.score ∧ (countMiss e s).stop = s.stop ∧
    (countMiss e s).link = s.link ∧ (countMiss e s).console = s.console ∧
    (countMiss e s).attention.enables = s.attention.enables ∧ (countMiss e s).settings = s.settings ∧
    (countMiss e s).store = s.store ∧ (countMiss e s).uptime = s.uptime ∧
    (countMiss e s).resetAsserted = s.resetAsserted ∧ (countMiss e s).freeCount = s.freeCount ∧
    (countMiss e s).pending = s.pending ∧ (∀ j, (countMiss e s).slot j = s.slot j) ∧
    (∀ j, (countMiss e s).elemDef j = s.elemDef j) ∧ (∀ j, (countMiss e s).claim j = s.claim j) ∧
    (∀ j, (countMiss e s).act j = s.act j) ∧ (∀ j, (countMiss e s).elemScore j = s.elemScore j) ∧
    (∀ j, (countMiss e s).alliance j = s.alliance j) ∧ (∀ j, (countMiss e s).box j = s.box j) ∧
    (∀ j, (countMiss e s).defined j = s.defined j) := by
  unfold countMiss; dsimp only; (repeat' split) <;> simp [State.slot, State.elemDef, State.run, State.claim, State.light, State.act, State.elemScore, State.alliance, State.box, State.defined]

@[simp] theorem missedAnswer_frame (e : Nat) (b : Bool) (s : State) :
    (missedAnswer e b s).clock = s.clock ∧ (missedAnswer e b s).roster = s.roster ∧
    (missedAnswer e b s).table.defs = s.table.defs ∧ (missedAnswer e b s).claims = s.claims ∧
    (missedAnswer e b s).bus.acts = s.bus.acts ∧ (missedAnswer e b s).bus.commandCount = s.bus.commandCount ∧
    (missedAnswer e b s).bus.lastPolled = s.bus.lastPolled ∧
    (missedAnswer e b s).bus.haltPending = s.bus.haltPending ∧ (missedAnswer e b s).bus.pass = s.bus.pass ∧
    (missedAnswer e b s).bus.current = s.bus.current ∧ (missedAnswer e b s).score = s.score ∧
    (missedAnswer e b s).stop = s.stop ∧ (missedAnswer e b s).link = s.link ∧
    (missedAnswer e b s).console = s.console ∧ (missedAnswer e b s).attention.enables = s.attention.enables ∧
    (missedAnswer e b s).settings = s.settings ∧ (missedAnswer e b s).store = s.store ∧
    (missedAnswer e b s).uptime = s.uptime ∧ (missedAnswer e b s).resetAsserted = s.resetAsserted ∧
    (missedAnswer e b s).freeCount = s.freeCount ∧ (missedAnswer e b s).pending = s.pending ∧
    (∀ j, (missedAnswer e b s).slot j = s.slot j) ∧ (∀ j, (missedAnswer e b s).elemDef j = s.elemDef j) ∧
    (∀ j, (missedAnswer e b s).claim j = s.claim j) ∧ (∀ j, (missedAnswer e b s).act j = s.act j) ∧
    (∀ j, (missedAnswer e b s).elemScore j = s.elemScore j) ∧ (∀ j, (missedAnswer e b s).alliance j = s.alliance j) ∧
    (∀ j, (missedAnswer e b s).box j = s.box j) ∧ (∀ j, (missedAnswer e b s).defined j = s.defined j) := by
  unfold missedAnswer; (repeat' split) <;> simp [State.slot, State.elemDef, State.run, State.claim, State.light, State.act, State.elemScore, State.alliance, State.box, State.defined]

@[simp] theorem withdrawNow_frame (e : Nat) (s : State) :
    (withdrawNow e s).clock = s.clock ∧ (withdrawNow e s).roster.strangers = s.roster.strangers ∧
    (withdrawNow e s).table.defs = s.table.defs ∧ (withdrawNow e s).table.capture = s.table.capture ∧
    (withdrawNow e s).table.repeated = s.table.repeated ∧ (withdrawNow e s).bus.acts = s.bus.acts ∧
    (withdrawNow e s).bus.commandCount = s.bus.commandCount ∧ (withdrawNow e s).bus.lastPolled = s.bus.lastPolled ∧
    (withdrawNow e s).bus.haltPending = s.bus.haltPending ∧ (withdrawNow e s).bus.pass = s.bus.pass ∧
    (withdrawNow e s).bus.current = s.bus.current ∧ (withdrawNow e s).score.alliances = s.score.alliances ∧
    (withdrawNow e s).stop = s.stop ∧ (withdrawNow e s).link = s.link ∧ (withdrawNow e s).console = s.console ∧
    (withdrawNow e s).attention.enables = s.attention.enables ∧ (withdrawNow e s).settings = s.settings ∧
    (withdrawNow e s).store = s.store ∧ (withdrawNow e s).uptime = s.uptime ∧
    (withdrawNow e s).resetAsserted = s.resetAsserted ∧ (withdrawNow e s).freeCount = s.freeCount ∧
    (withdrawNow e s).pending = s.pending ∧ (∀ j, (withdrawNow e s).elemDef j = s.elemDef j) ∧
    (∀ j, (withdrawNow e s).act j = s.act j) ∧ (∀ j, (withdrawNow e s).alliance j = s.alliance j) ∧
    (∀ j, (withdrawNow e s).box j = s.box j) ∧ (∀ j, (withdrawNow e s).defined j = s.defined j) := by
  unfold withdrawNow; (repeat' split) <;> simp [State.slot, State.elemDef, State.run, State.claim, State.light, State.act, State.elemScore, State.alliance, State.box, State.defined]

@[simp] theorem actuationEnded_frame (e : Nat) (o : ActOutcome) (s : State) :
    (actuationEnded e o s).clock = s.clock ∧ (actuationEnded e o s).roster.strangers = s.roster.strangers ∧
    (actuationEnded e o s).table.defs = s.table.defs ∧ (actuationEnded e o s).bus.acts = s.bus.acts ∧
    (actuationEnded e o s).bus.commandCount = s.bus.commandCount ∧
    (actuationEnded e o s).bus.lastPolled = s.bus.lastPolled ∧
    (actuationEnded e o s).bus.haltPending = s.bus.haltPending ∧ (actuationEnded e o s).bus.pass = s.bus.pass ∧
    (actuationEnded e o s).bus.current = s.bus.current ∧ (actuationEnded e o s).score.alliances = s.score.alliances ∧
    (actuationEnded e o s).stop = s.stop ∧ (actuationEnded e o s).link = s.link ∧
    (actuationEnded e o s).console = s.console ∧ (actuationEnded e o s).attention.enables = s.attention.enables ∧
    (actuationEnded e o s).settings = s.settings ∧ (actuationEnded e o s).store = s.store ∧
    (actuationEnded e o s).uptime = s.uptime ∧ (actuationEnded e o s).resetAsserted = s.resetAsserted ∧
    (actuationEnded e o s).freeCount = s.freeCount ∧ (actuationEnded e o s).pending = s.pending ∧
    (∀ j, (actuationEnded e o s).elemDef j = s.elemDef j) ∧ (∀ j, (actuationEnded e o s).act j = s.act j) ∧
    (∀ j, (actuationEnded e o s).alliance j = s.alliance j) ∧ (∀ j, (actuationEnded e o s).box j = s.box j) ∧
    (∀ j, (actuationEnded e o s).defined j = s.defined j) := by
  unfold actuationEnded; dsimp only; (repeat' split) <;> simp [State.slot, State.elemDef, State.run, State.claim, State.light, State.act, State.elemScore, State.alliance, State.box, State.defined]

@[simp] theorem refundCharge_frame (e : Nat) (o : ActOutcome) (c : Option Charge) (s : State) :
    (refundCharge e o c s).clock = s.clock ∧ (refundCharge e o c s).roster = s.roster ∧
    (refundCharge e o c s).table = s.table ∧ (refundCharge e o c s).claims = s.claims ∧
    (refundCharge e o c s).bus = s.bus ∧ (refundCharge e o c s).lights = s.lights ∧
    (refundCharge e o c s).score.alliances = s.score.alliances ∧ (refundCharge e o c s).stop = s.stop ∧
    (refundCharge e o c s).link = s.link ∧ (refundCharge e o c s).console = s.console ∧
    (refundCharge e o c s).attention = s.attention ∧ (refundCharge e o c s).settings = s.settings ∧
    (refundCharge e o c s).store = s.store ∧ (refundCharge e o c s).uptime = s.uptime ∧
    (refundCharge e o c s).resetAsserted = s.resetAsserted ∧ (refundCharge e o c s).freeCount = s.freeCount ∧
    (refundCharge e o c s).pending = s.pending ∧ (∀ j, (refundCharge e o c s).slot j = s.slot j) ∧
    (∀ j, (refundCharge e o c s).elemDef j = s.elemDef j) ∧ (∀ j, (refundCharge e o c s).run j = s.run j) ∧
    (∀ j, (refundCharge e o c s).claim j = s.claim j) ∧ (∀ j, (refundCharge e o c s).light j = s.light j) ∧
    (∀ j, (refundCharge e o c s).act j = s.act j) ∧ (∀ j, (refundCharge e o c s).alliance j = s.alliance j) ∧
    (∀ j, (refundCharge e o c s).box j = s.box j) ∧ (∀ j, (refundCharge e o c s).defined j = s.defined j) := by
  unfold refundCharge; (repeat' split) <;> simp [State.slot, State.elemDef, State.run, State.claim, State.light, State.act, State.elemScore, State.alliance, State.box, State.defined]

@[simp] theorem endActuation_frame (e : Nat) (o : ActOutcome) (s : State) :
    (endActuation e o s).clock = s.clock ∧ (endActuation e o s).roster.strangers = s.roster.strangers ∧
    (endActuation e o s).table.defs = s.table.defs ∧ (endActuation e o s).bus.commandCount = s.bus.commandCount ∧
    (endActuation e o s).bus.lastPolled = s.bus.lastPolled ∧
    (endActuation e o s).bus.haltPending = s.bus.haltPending ∧ (endActuation e o s).bus.pass = s.bus.pass ∧
    (endActuation e o s).bus.current = s.bus.current ∧ (endActuation e o s).score.alliances = s.score.alliances ∧
    (endActuation e o s).stop = s.stop ∧ (endActuation e o s).link = s.link ∧
    (endActuation e o s).console = s.console ∧ (endActuation e o s).attention.enables = s.attention.enables ∧
    (endActuation e o s).settings = s.settings ∧ (endActuation e o s).store = s.store ∧
    (endActuation e o s).uptime = s.uptime ∧ (endActuation e o s).resetAsserted = s.resetAsserted ∧
    (endActuation e o s).freeCount = s.freeCount ∧ (endActuation e o s).pending = s.pending ∧
    (∀ j, (endActuation e o s).elemDef j = s.elemDef j) ∧ (∀ j, (endActuation e o s).alliance j = s.alliance j) ∧
    (∀ j, (endActuation e o s).box j = s.box j) ∧ (∀ j, (endActuation e o s).defined j = s.defined j) := by
  unfold endActuation; (repeat' split) <;> simp [State.slot, State.elemDef, State.run, State.claim, State.light, State.act, State.elemScore, State.alliance, State.box, State.defined]

theorem copyDefaultFlags_fold_frame (l : List Nat) (s : State) :

    (l.foldl (fun s e =>
      if s.defined e then
        s.modRun e fun r => { r with refusing := (s.elemDef e).defaultRefusing, silent := (s.elemDef e).defaultSilent }
      else s) s).clock = s.clock ∧
    (l.foldl (fun s e =>
      if s.defined e then
        s.modRun e fun r => { r with refusing := (s.elemDef e).defaultRefusing, silent := (s.elemDef e).defaultSilent }
      else s) s).roster = s.roster ∧
    (l.foldl (fun s e =>
      if s.defined e then
        s.modRun e fun r => { r with refusing := (s.elemDef e).defaultRefusing, silent := (s.elemDef e).defaultSilent }
      else s) s).table.defs = s.table.defs ∧
    (l.foldl (fun s e =>
      if s.defined e then
        s.modRun e fun r => { r with refusing := (s.elemDef e).defaultRefusing, silent := (s.elemDef e).defaultSilent }
      else s) s).table.capture = s.table.capture ∧
    (l.foldl (fun s e =>
      if s.defined e then
        s.modRun e fun r => { r with refusing := (s.elemDef e).defaultRefusing, silent := (s.elemDef e).defaultSilent }
      else s) s).table.repeated = s.table.repeated ∧
    (l.foldl (fun s e =>
      if s.defined e then
        s.modRun e fun r => { r with refusing := (s.elemDef e).defaultRefusing, silent := (s.elemDef e).defaultSilent }
      else s) s).claims = s.claims ∧
    (l.foldl (fun s e =>
      if s.defined e then
        s.modRun e fun r => { r with refusing := (s.elemDef e).defaultRefusing, silent := (s.elemDef e).defaultSilent }
      else s) s).bus = s.bus ∧
    (l.foldl (fun s e =>
      if s.defined e then
        s.modRun e fun r => { r with refusing := (s.elemDef e).defaultRefusing, silent := (s.elemDef e).defaultSilent }
      else s) s).lights = s.lights ∧
    (l.foldl (fun s e =>
      if s.defined e then
        s.modRun e fun r => { r with refusing := (s.elemDef e).defaultRefusing, silent := (s.elemDef e).defaultSilent }
      else s) s).score = s.score ∧
    (l.foldl (fun s e =>
      if s.defined e then
        s.modRun e fun r => { r with refusing := (s.elemDef e).defaultRefusing, silent := (s.elemDef e).defaultSilent }
      else s) s).stop = s.stop ∧
    (l.foldl (fun s e =>
      if s.defined e then
        s.modRun e fun r => { r with refusing := (s.elemDef e).defaultRefusing, silent := (s.elemDef e).defaultSilent }
      else s) s).link = s.link ∧
    (l.foldl (fun s e =>
      if s.defined e then
        s.modRun e fun r => { r with refusing := (s.elemDef e).defaultRefusing, silent := (s.elemDef e).defaultSilent }
      else s) s).console = s.console ∧
    (l.foldl (fun s e =>
      if s.defined e then
        s.modRun e fun r => { r with refusing := (s.elemDef e).defaultRefusing, silent := (s.elemDef e).defaultSilent }
      else s) s).attention = s.attention ∧
    (l.foldl (fun s e =>
      if s.defined e then
        s.modRun e fun r => { r with refusing := (s.elemDef e).defaultRefusing, silent := (s.elemDef e).defaultSilent }
      else s) s).settings = s.settings ∧
    (l.foldl (fun s e =>
      if s.defined e then
        s.modRun e fun r => { r with refusing := (s.elemDef e).defaultRefusing, silent := (s.elemDef e).defaultSilent }
      else s) s).store = s.store ∧
    (l.foldl (fun s e =>
      if s.defined e then
        s.modRun e fun r => { r with refusing := (s.elemDef e).defaultRefusing, silent := (s.elemDef e).defaultSilent }
      else s) s).uptime = s.uptime ∧
    (l.foldl (fun s e =>
      if s.defined e then
        s.modRun e fun r => { r with refusing := (s.elemDef e).defaultRefusing, silent := (s.elemDef e).defaultSilent }
      else s) s).resetAsserted = s.resetAsserted ∧
    (l.foldl (fun s e =>
      if s.defined e then
        s.modRun e fun r => { r with refusing := (s.elemDef e).defaultRefusing, silent := (s.elemDef e).defaultSilent }
      else s) s).freeCount = s.freeCount ∧
    (l.foldl (fun s e =>
      if s.defined e then
        s.modRun e fun r => { r with refusing := (s.elemDef e).defaultRefusing, silent := (s.elemDef e).defaultSilent }
      else s) s).pending = s.pending ∧
    (∀ j, (l.foldl (fun s e =>
      if s.defined e then
        s.modRun e fun r => { r with refusing := (s.elemDef e).defaultRefusing, silent := (s.elemDef e).defaultSilent }
      else s) s).slot j = s.slot j) ∧
    (∀ j, (l.foldl (fun s e =>
      if s.defined e then
        s.modRun e fun r => { r with refusing := (s.elemDef e).defaultRefusing, silent := (s.elemDef e).defaultSilent }
      else s) s).elemDef j = s.elemDef j) ∧
    (∀ j, (l.foldl (fun s e =>
      if s.defined e then
        s.modRun e fun r => { r with refusing := (s.elemDef e).defaultRefusing, silent := (s.elemDef e).defaultSilent }
      else s) s).claim j = s.claim j) ∧
    (∀ j, (l.foldl (fun s e =>
      if s.defined e then
        s.modRun e fun r => { r with refusing := (s.elemDef e).defaultRefusing, silent := (s.elemDef e).defaultSilent }
      else s) s).light j = s.light j) ∧
    (∀ j, (l.foldl (fun s e =>
      if s.defined e then
        s.modRun e fun r => { r with refusing := (s.elemDef e).defaultRefusing, silent := (s.elemDef e).defaultSilent }
      else s) s).act j = s.act j) ∧
    (∀ j, (l.foldl (fun s e =>
      if s.defined e then
        s.modRun e fun r => { r with refusing := (s.elemDef e).defaultRefusing, silent := (s.elemDef e).defaultSilent }
      else s) s).elemScore j = s.elemScore j) ∧
    (∀ j, (l.foldl (fun s e =>
      if s.defined e then
        s.modRun e fun r => { r with refusing := (s.elemDef e).defaultRefusing, silent := (s.elemDef e).defaultSilent }
      else s) s).alliance j = s.alliance j) ∧
    (∀ j, (l.foldl (fun s e =>
      if s.defined e then
        s.modRun e fun r => { r with refusing := (s.elemDef e).defaultRefusing, silent := (s.elemDef e).defaultSilent }
      else s) s).box j = s.box j) ∧
    (∀ j, (l.foldl (fun s e =>
      if s.defined e then
        s.modRun e fun r => { r with refusing := (s.elemDef e).defaultRefusing, silent := (s.elemDef e).defaultSilent }
      else s) s).defined j = s.defined j) := by
  induction l generalizing s with
  | nil => simp
  | cons a l ih => simp only [List.foldl, ih]; split <;> simp [State.slot, State.elemDef, State.run, State.claim, State.light, State.act, State.elemScore, State.alliance, State.box, State.defined]

@[simp] theorem copyDefaultFlags_frame (s : State) :
    (copyDefaultFlags s).clock = s.clock ∧ (copyDefaultFlags s).roster = s.roster ∧
    (copyDefaultFlags s).table.defs = s.table.defs ∧ (copyDefaultFlags s).table.capture = s.table.capture ∧
    (copyDefaultFlags s).table.repeated = s.table.repeated ∧ (copyDefaultFlags s).claims = s.claims ∧
    (copyDefaultFlags s).bus = s.bus ∧ (copyDefaultFlags s).lights = s.lights ∧
    (copyDefaultFlags s).score = s.score ∧ (copyDefaultFlags s).stop = s.stop ∧ (copyDefaultFlags s).link = s.link ∧
    (copyDefaultFlags s).console = s.console ∧ (copyDefaultFlags s).attention = s.attention ∧
    (copyDefaultFlags s).settings = s.settings ∧ (copyDefaultFlags s).store = s.store ∧
    (copyDefaultFlags s).uptime = s.uptime ∧ (copyDefaultFlags s).resetAsserted = s.resetAsserted ∧
    (copyDefaultFlags s).freeCount = s.freeCount ∧ (copyDefaultFlags s).pending = s.pending ∧
    (∀ j, (copyDefaultFlags s).slot j = s.slot j) ∧ (∀ j, (copyDefaultFlags s).elemDef j = s.elemDef j) ∧
    (∀ j, (copyDefaultFlags s).claim j = s.claim j) ∧ (∀ j, (copyDefaultFlags s).light j = s.light j) ∧
    (∀ j, (copyDefaultFlags s).act j = s.act j) ∧ (∀ j, (copyDefaultFlags s).elemScore j = s.elemScore j) ∧
    (∀ j, (copyDefaultFlags s).alliance j = s.alliance j) ∧ (∀ j, (copyDefaultFlags s).box j = s.box j) ∧
    (∀ j, (copyDefaultFlags s).defined j = s.defined j) := by
  unfold copyDefaultFlags; generalize elementNumbers = l; exact copyDefaultFlags_fold_frame l s

@[simp] theorem chooseTransaction_frame (s : State) :
    (chooseTransaction s).clock = s.clock ∧ (chooseTransaction s).roster = s.roster ∧
    (chooseTransaction s).table = s.table ∧ (chooseTransaction s).claims = s.claims ∧
    (chooseTransaction s).bus.acts = s.bus.acts ∧ (chooseTransaction s).bus.pass = s.bus.pass ∧
    (chooseTransaction s).score = s.score ∧ (chooseTransaction s).stop = s.stop ∧
    (chooseTransaction s).link = s.link ∧ (chooseTransaction s).console = s.console ∧
    (chooseTransaction s).attention = s.attention ∧ (chooseTransaction s).settings = s.settings ∧
    (chooseTransaction s).store = s.store ∧ (chooseTransaction s).uptime = s.uptime ∧
    (chooseTransaction s).resetAsserted = s.resetAsserted ∧ (chooseTransaction s).freeCount = s.freeCount ∧
    (chooseTransaction s).pending = s.pending ∧ (∀ j, (chooseTransaction s).slot j = s.slot j) ∧
    (∀ j, (chooseTransaction s).elemDef j = s.elemDef j) ∧ (∀ j, (chooseTransaction s).run j = s.run j) ∧
    (∀ j, (chooseTransaction s).claim j = s.claim j) ∧ (∀ j, (chooseTransaction s).act j = s.act j) ∧
    (∀ j, (chooseTransaction s).elemScore j = s.elemScore j) ∧
    (∀ j, (chooseTransaction s).alliance j = s.alliance j) ∧ (∀ j, (chooseTransaction s).box j = s.box j) ∧
    (∀ j, (chooseTransaction s).defined j = s.defined j) := by
  unfold chooseTransaction; (repeat' split) <;> simp [State.slot, State.elemDef, State.run, State.claim, State.light, State.act, State.elemScore, State.alliance, State.box, State.defined]

@[simp] theorem busArbiter_frame (s : State) :
    (busArbiter s).clock = s.clock ∧ (busArbiter s).roster = s.roster ∧ (busArbiter s).table = s.table ∧
    (busArbiter s).claims = s.claims ∧ (busArbiter s).bus.acts = s.bus.acts ∧ (busArbiter s).bus.pass = s.bus.pass ∧
    (busArbiter s).score = s.score ∧ (busArbiter s).stop = s.stop ∧ (busArbiter s).link = s.link ∧
    (busArbiter s).console = s.console ∧ (busArbiter s).attention = s.attention ∧
    (busArbiter s).settings = s.settings ∧ (busArbiter s).store = s.store ∧ (busArbiter s).uptime = s.uptime ∧
    (busArbiter s).resetAsserted = s.resetAsserted ∧ (busArbiter s).freeCount = s.freeCount ∧
    (busArbiter s).pending = s.pending ∧ (∀ j, (busArbiter s).slot j = s.slot j) ∧
    (∀ j, (busArbiter s).elemDef j = s.elemDef j) ∧ (∀ j, (busArbiter s).run j = s.run j) ∧
    (∀ j, (busArbiter s).claim j = s.claim j) ∧ (∀ j, (busArbiter s).act j = s.act j) ∧
    (∀ j, (busArbiter s).elemScore j = s.elemScore j) ∧ (∀ j, (busArbiter s).alliance j = s.alliance j) ∧
    (∀ j, (busArbiter s).box j = s.box j) ∧ (∀ j, (busArbiter s).defined j = s.defined j) := by
  unfold busArbiter; (repeat' split) <;> simp [State.slot, State.elemDef, State.run, State.claim, State.light, State.act, State.elemScore, State.alliance, State.box, State.defined]

@[simp] theorem reportResult_frame (e : Nat) (r : BusResult) (s : State) :
    (reportResult e r s).clock = s.clock ∧ (reportResult e r s).roster = s.roster ∧
    (reportResult e r s).table.defs = s.table.defs ∧ (reportResult e r s).claims = s.claims ∧
    (reportResult e r s).bus.acts = s.bus.acts ∧ (reportResult e r s).bus.commandCount = s.bus.commandCount ∧
    (reportResult e r s).bus.lastPolled = s.bus.lastPolled ∧
    (reportResult e r s).bus.haltPending = s.bus.haltPending ∧ (reportResult e r s).bus.pass = s.bus.pass ∧
    (reportResult e r s).bus.current = s.bus.current ∧ (reportResult e r s).score = s.score ∧
    (reportResult e r s).stop = s.stop ∧ (reportResult e r s).link = s.link ∧
    (reportResult e r s).console = s.console ∧ (reportResult e r s).attention.enables = s.attention.enables ∧
    (reportResult e r s).settings = s.settings ∧ (reportResult e r s).store = s.store ∧
    (reportResult e r s).uptime = s.uptime ∧ (reportResult e r s).resetAsserted = s.resetAsserted ∧
    (reportResult e r s).freeCount = s.freeCount ∧ (reportResult e r s).pending = s.pending ∧
    (∀ j, (reportResult e r s).slot j = s.slot j) ∧ (∀ j, (reportResult e r s).elemDef j = s.elemDef j) ∧
    (∀ j, (reportResult e r s).claim j = s.claim j) ∧ (∀ j, (reportResult e r s).act j = s.act j) ∧
    (∀ j, (reportResult e r s).elemScore j = s.elemScore j) ∧ (∀ j, (reportResult e r s).alliance j = s.alliance j) ∧
    (∀ j, (reportResult e r s).box j = s.box j) ∧ (∀ j, (reportResult e r s).defined j = s.defined j) := by
  unfold reportResult; (repeat' split) <;> simp [State.slot, State.elemDef, State.run, State.claim, State.light, State.act, State.elemScore, State.alliance, State.box, State.defined]

@[simp] theorem takeStatus_frame (e n : Nat) (s : State) :
    (takeStatus e n s).clock = s.clock ∧ (takeStatus e n s).roster.strangers = s.roster.strangers ∧
    (takeStatus e n s).table.defs = s.table.defs ∧ (takeStatus e n s).bus.commandCount = s.bus.commandCount ∧
    (takeStatus e n s).bus.lastPolled = s.bus.lastPolled ∧ (takeStatus e n s).bus.haltPending = s.bus.haltPending ∧
    (takeStatus e n s).bus.pass = s.bus.pass ∧ (takeStatus e n s).bus.current = s.bus.current ∧
    (takeStatus e n s).score.alliances = s.score.alliances ∧ (takeStatus e n s).stop = s.stop ∧
    (takeStatus e n s).link = s.link ∧ (takeStatus e n s).console = s.console ∧
    (takeStatus e n s).attention.enables = s.attention.enables ∧ (takeStatus e n s).settings = s.settings ∧
    (takeStatus e n s).store = s.store ∧ (takeStatus e n s).uptime = s.uptime ∧
    (takeStatus e n s).resetAsserted = s.resetAsserted ∧ (takeStatus e n s).freeCount = s.freeCount ∧
    (takeStatus e n s).pending = s.pending ∧ (∀ j, (takeStatus e n s).elemDef j = s.elemDef j) ∧
    (∀ j, (takeStatus e n s).alliance j = s.alliance j) ∧ (∀ j, (takeStatus e n s).box j = s.box j) ∧
    (∀ j, (takeStatus e n s).defined j = s.defined j) := by
  unfold takeStatus; (repeat' split) <;> simp [State.slot, State.elemDef, State.run, State.claim, State.light, State.act, State.elemScore, State.alliance, State.box, State.defined]

@[simp] theorem pollResult_frame (e : Nat) (r : BusResult) (s : State) :
    (pollResult e r s).clock = s.clock ∧ (pollResult e r s).roster.strangers = s.roster.strangers ∧
    (pollResult e r s).table.defs = s.table.defs ∧ (pollResult e r s).bus.commandCount = s.bus.commandCount ∧
    (pollResult e r s).bus.lastPolled = s.bus.lastPolled ∧ (pollResult e r s).bus.haltPending = s.bus.haltPending ∧
    (pollResult e r s).bus.pass = s.bus.pass ∧ (pollResult e r s).bus.current = s.bus.current ∧
    (pollResult e r s).stop = s.stop ∧ (pollResult e r s).link = s.link ∧ (pollResult e r s).console = s.console ∧
    (pollResult e r s).attention.enables = s.attention.enables ∧ (pollResult e r s).settings = s.settings ∧
    (pollResult e r s).store = s.store ∧ (pollResult e r s).uptime = s.uptime ∧
    (pollResult e r s).resetAsserted = s.resetAsserted ∧ (pollResult e r s).freeCount = s.freeCount ∧
    (pollResult e r s).pending = s.pending ∧ (∀ j, (pollResult e r s).elemDef j = s.elemDef j) ∧
    (∀ j, (pollResult e r s).box j = s.box j) ∧ (∀ j, (pollResult e r s).defined j = s.defined j) := by
  unfold pollResult; (repeat' split) <;> simp [State.slot, State.elemDef, State.run, State.claim, State.light, State.act, State.elemScore, State.alliance, State.box, State.defined]

@[simp] theorem actuateResult_frame (e : Nat) (r : BusResult) (s : State) :
    (actuateResult e r s).clock = s.clock ∧ (actuateResult e r s).roster.strangers = s.roster.strangers ∧
    (actuateResult e r s).table.defs = s.table.defs ∧ (actuateResult e r s).bus.commandCount = s.bus.commandCount ∧
    (actuateResult e r s).bus.lastPolled = s.bus.lastPolled ∧
    (actuateResult e r s).bus.haltPending = s.bus.haltPending ∧ (actuateResult e r s).bus.pass = s.bus.pass ∧
    (actuateResult e r s).bus.current = s.bus.current ∧ (actuateResult e r s).score.alliances = s.score.alliances ∧
    (actuateResult e r s).stop = s.stop ∧ (actuateResult e r s).link = s.link ∧
    (actuateResult e r s).console = s.console ∧ (actuateResult e r s).attention.enables = s.attention.enables ∧
    (actuateResult e r s).settings = s.settings ∧ (actuateResult e r s).store = s.store ∧
    (actuateResult e r s).uptime = s.uptime ∧ (actuateResult e r s).resetAsserted = s.resetAsserted ∧
    (actuateResult e r s).freeCount = s.freeCount ∧ (actuateResult e r s).pending = s.pending ∧
    (∀ j, (actuateResult e r s).elemDef j = s.elemDef j) ∧ (∀ j, (actuateResult e r s).alliance j = s.alliance j) ∧
    (∀ j, (actuateResult e r s).box j = s.box j) ∧ (∀ j, (actuateResult e r s).defined j = s.defined j) := by
  unfold actuateResult; (repeat' split) <;> simp [State.slot, State.elemDef, State.run, State.claim, State.light, State.act, State.elemScore, State.alliance, State.box, State.defined]

@[simp] theorem lightResult_frame (e : Nat) (r : BusResult) (s : State) :
    (lightResult e r s).clock = s.clock ∧ (lightResult e r s).roster = s.roster ∧
    (lightResult e r s).table = s.table ∧ (lightResult e r s).claims = s.claims ∧ (lightResult e r s).bus = s.bus ∧
    (lightResult e r s).score = s.score ∧ (lightResult e r s).stop = s.stop ∧ (lightResult e r s).link = s.link ∧
    (lightResult e r s).console = s.console ∧ (lightResult e r s).attention = s.attention ∧
    (lightResult e r s).settings = s.settings ∧ (lightResult e r s).store = s.store ∧
    (lightResult e r s).uptime = s.uptime ∧ (lightResult e r s).resetAsserted = s.resetAsserted ∧
    (lightResult e r s).freeCount = s.freeCount ∧ (lightResult e r s).pending = s.pending ∧
    (∀ j, (lightResult e r s).slot j = s.slot j) ∧ (∀ j, (lightResult e r s).elemDef j = s.elemDef j) ∧
    (∀ j, (lightResult e r s).run j = s.run j) ∧ (∀ j, (lightResult e r s).claim j = s.claim j) ∧
    (∀ j, (lightResult e r s).act j = s.act j) ∧ (∀ j, (lightResult e r s).elemScore j = s.elemScore j) ∧
    (∀ j, (lightResult e r s).alliance j = s.alliance j) ∧ (∀ j, (lightResult e r s).box j = s.box j) ∧
    (∀ j, (lightResult e r s).defined j = s.defined j) := by
  unfold lightResult; (repeat' split) <;> simp [State.slot, State.elemDef, State.run, State.claim, State.light, State.act, State.elemScore, State.alliance, State.box, State.defined]

@[simp] theorem actOnResult_frame (q : BusRequest) (r : BusResult) (s : State) :
    (actOnResult q r s).clock = s.clock ∧ (actOnResult q r s).roster.strangers = s.roster.strangers ∧
    (actOnResult q r s).table.defs = s.table.defs ∧ (actOnResult q r s).bus.commandCount = s.bus.commandCount ∧
    (actOnResult q r s).bus.lastPolled = s.bus.lastPolled ∧ (actOnResult q r s).bus.haltPending = s.bus.haltPending ∧
    (actOnResult q r s).bus.current = s.bus.current ∧ (actOnResult q r s).stop = s.stop ∧
    (actOnResult q r s).link = s.link ∧ (actOnResult q r s).console = s.console ∧
    (actOnResult q r s).attention.enables = s.attention.enables ∧ (actOnResult q r s).settings = s.settings ∧
    (actOnResult q r s).store = s.store ∧ (actOnResult q r s).uptime = s.uptime ∧
    (actOnResult q r s).resetAsserted = s.resetAsserted ∧ (actOnResult q r s).freeCount = s.freeCount ∧
    (actOnResult q r s).pending = s.pending ∧ (∀ j, (actOnResult q r s).elemDef j = s.elemDef j) ∧
    (∀ j, (actOnResult q r s).box j = s.box j) ∧ (∀ j, (actOnResult q r s).defined j = s.defined j) := by
  unfold actOnResult; (repeat' split) <;> simp [State.slot, State.elemDef, State.run, State.claim, State.light, State.act, State.elemScore, State.alliance, State.box, State.defined]

@[simp] theorem endTransaction_frame (q : BusRequest) (r : BusResult) (s : State) :
    (endTransaction q r s).clock = s.clock ∧ (endTransaction q r s).roster.strangers = s.roster.strangers ∧
    (endTransaction q r s).table.defs = s.table.defs ∧ (endTransaction q r s).bus.commandCount = s.bus.commandCount ∧
    (endTransaction q r s).bus.lastPolled = s.bus.lastPolled ∧
    (endTransaction q r s).bus.haltPending = s.bus.haltPending ∧ (endTransaction q r s).stop = s.stop ∧
    (endTransaction q r s).link = s.link ∧ (endTransaction q r s).console = s.console ∧
    (endTransaction q r s).attention.enables = s.attention.enables ∧ (endTransaction q r s).settings = s.settings ∧
    (endTransaction q r s).store = s.store ∧ (endTransaction q r s).uptime = s.uptime ∧
    (endTransaction q r s).resetAsserted = s.resetAsserted ∧ (endTransaction q r s).freeCount = s.freeCount ∧
    (endTransaction q r s).pending = s.pending ∧ (∀ j, (endTransaction q r s).elemDef j = s.elemDef j) ∧
    (∀ j, (endTransaction q r s).box j = s.box j) ∧ (∀ j, (endTransaction q r s).defined j = s.defined j) := by
  unfold endTransaction; (repeat' split) <;> simp [State.slot, State.elemDef, State.run, State.claim, State.light, State.act, State.elemScore, State.alliance, State.box, State.defined]

@[simp] theorem queueActuation_frame (e a : Nat) (o : Origin) (c : Option Charge) (s : State) :
    (queueActuation e a o c s).clock = s.clock ∧ (queueActuation e a o c s).roster = s.roster ∧
    (queueActuation e a o c s).table = s.table ∧ (queueActuation e a o c s).claims = s.claims ∧
    (queueActuation e a o c s).bus.commandCount = s.bus.commandCount ∧
    (queueActuation e a o c s).bus.lastPolled = s.bus.lastPolled ∧
    (queueActuation e a o c s).bus.haltPending = s.bus.haltPending ∧
    (queueActuation e a o c s).bus.pass = s.bus.pass ∧ (queueActuation e a o c s).bus.current = s.bus.current ∧
    (queueActuation e a o c s).lights = s.lights ∧ (queueActuation e a o c s).score = s.score ∧
    (queueActuation e a o c s).stop = s.stop ∧ (queueActuation e a o c s).link = s.link ∧
    (queueActuation e a o c s).console = s.console ∧ (queueActuation e a o c s).attention = s.attention ∧
    (queueActuation e a o c s).settings = s.settings ∧ (queueActuation e a o c s).store = s.store ∧
    (queueActuation e a o c s).uptime = s.uptime ∧ (queueActuation e a o c s).resetAsserted = s.resetAsserted ∧
    (queueActuation e a o c s).freeCount = s.freeCount ∧ (queueActuation e a o c s).pending = s.pending ∧
    (∀ j, (queueActuation e a o c s).slot j = s.slot j) ∧ (∀ j, (queueActuation e a o c s).elemDef j = s.elemDef j) ∧
    (∀ j, (queueActuation e a o c s).run j = s.run j) ∧ (∀ j, (queueActuation e a o c s).claim j = s.claim j) ∧
    (∀ j, (queueActuation e a o c s).light j = s.light j) ∧
    (∀ j, (queueActuation e a o c s).elemScore j = s.elemScore j) ∧
    (∀ j, (queueActuation e a o c s).alliance j = s.alliance j) ∧ (∀ j, (queueActuation e a o c s).box j = s.box j) ∧
    (∀ j, (queueActuation e a o c s).defined j = s.defined j) := by
  unfold queueActuation; (repeat' split) <;> simp [State.slot, State.elemDef, State.run, State.claim, State.light, State.act, State.elemScore, State.alliance, State.box, State.defined]

@[simp] theorem departEntry_frame (x : Entry) (s : State) :
    (departEntry x s).clock = s.clock ∧ (departEntry x s).roster = s.roster ∧ (departEntry x s).table = s.table ∧
    (departEntry x s).claims = s.claims ∧ (departEntry x s).bus.acts = s.bus.acts ∧
    (departEntry x s).bus.commandCount = s.bus.commandCount ∧ (departEntry x s).bus.lastPolled = s.bus.lastPolled ∧
    (departEntry x s).bus.haltPending = s.bus.haltPending ∧ (departEntry x s).bus.pass = s.bus.pass ∧
    (departEntry x s).bus.current = s.bus.current ∧ (departEntry x s).score = s.score ∧
    (departEntry x s).stop = s.stop ∧ (departEntry x s).link = s.link ∧ (departEntry x s).console = s.console ∧
    (departEntry x s).attention = s.attention ∧ (departEntry x s).settings = s.settings ∧
    (departEntry x s).store = s.store ∧ (departEntry x s).uptime = s.uptime ∧
    (departEntry x s).resetAsserted = s.resetAsserted ∧ (departEntry x s).freeCount = s.freeCount ∧
    (departEntry x s).pending = s.pending ∧ (∀ j, (departEntry x s).slot j = s.slot j) ∧
    (∀ j, (departEntry x s).elemDef j = s.elemDef j) ∧ (∀ j, (departEntry x s).run j = s.run j) ∧
    (∀ j, (departEntry x s).claim j = s.claim j) ∧ (∀ j, (departEntry x s).act j = s.act j) ∧
    (∀ j, (departEntry x s).elemScore j = s.elemScore j) ∧ (∀ j, (departEntry x s).alliance j = s.alliance j) ∧
    (∀ j, (departEntry x s).box j = s.box j) ∧ (∀ j, (departEntry x s).defined j = s.defined j) := by
  unfold departEntry; (repeat' split) <;> simp [State.slot, State.elemDef, State.run, State.claim, State.light, State.act, State.elemScore, State.alliance, State.box, State.defined]

@[simp] theorem discardActuate_frame (x : Entry) (s : State) :
    (discardActuate x s).clock = s.clock ∧ (discardActuate x s).roster.strangers = s.roster.strangers ∧
    (discardActuate x s).table.defs = s.table.defs ∧ (discardActuate x s).bus.commandCount = s.bus.commandCount ∧
    (discardActuate x s).bus.lastPolled = s.bus.lastPolled ∧
    (discardActuate x s).bus.haltPending = s.bus.haltPending ∧ (discardActuate x s).bus.pass = s.bus.pass ∧
    (discardActuate x s).bus.current = s.bus.current ∧ (discardActuate x s).score.alliances = s.score.alliances ∧
    (discardActuate x s).stop = s.stop ∧ (discardActuate x s).link = s.link ∧
    (discardActuate x s).console = s.console ∧ (discardActuate x s).attention.enables = s.attention.enables ∧
    (discardActuate x s).settings = s.settings ∧ (discardActuate x s).store = s.store ∧
    (discardActuate x s).uptime = s.uptime ∧ (discardActuate x s).resetAsserted = s.resetAsserted ∧
    (discardActuate x s).freeCount = s.freeCount ∧ (discardActuate x s).pending = s.pending ∧
    (∀ j, (discardActuate x s).elemDef j = s.elemDef j) ∧ (∀ j, (discardActuate x s).alliance j = s.alliance j) ∧
    (∀ j, (discardActuate x s).box j = s.box j) ∧ (∀ j, (discardActuate x s).defined j = s.defined j) := by
  unfold discardActuate; (repeat' split) <;> simp [State.slot, State.elemDef, State.run, State.claim, State.light, State.act, State.elemScore, State.alliance, State.box, State.defined]

@[simp] theorem discardRaw_frame (x : Entry) (s : State) :
    (discardRaw x s).clock = s.clock ∧ (discardRaw x s).roster = s.roster ∧ (discardRaw x s).table = s.table ∧
    (discardRaw x s).claims = s.claims ∧ (discardRaw x s).bus.acts = s.bus.acts ∧
    (discardRaw x s).bus.commandCount = s.bus.commandCount ∧ (discardRaw x s).bus.lastPolled = s.bus.lastPolled ∧
    (discardRaw x s).bus.haltPending = s.bus.haltPending ∧ (discardRaw x s).bus.current = s.bus.current ∧
    (discardRaw x s).score = s.score ∧ (discardRaw x s).stop = s.stop ∧ (discardRaw x s).link = s.link ∧
    (discardRaw x s).console = s.console ∧ (discardRaw x s).attention.enables = s.attention.enables ∧
    (discardRaw x s).settings = s.settings ∧ (discardRaw x s).store = s.store ∧ (discardRaw x s).uptime = s.uptime ∧
    (discardRaw x s).resetAsserted = s.resetAsserted ∧ (discardRaw x s).freeCount = s.freeCount ∧
    (discardRaw x s).pending = s.pending ∧ (∀ j, (discardRaw x s).slot j = s.slot j) ∧
    (∀ j, (discardRaw x s).elemDef j = s.elemDef j) ∧ (∀ j, (discardRaw x s).run j = s.run j) ∧
    (∀ j, (discardRaw x s).claim j = s.claim j) ∧ (∀ j, (discardRaw x s).act j = s.act j) ∧
    (∀ j, (discardRaw x s).elemScore j = s.elemScore j) ∧ (∀ j, (discardRaw x s).alliance j = s.alliance j) ∧
    (∀ j, (discardRaw x s).box j = s.box j) ∧ (∀ j, (discardRaw x s).defined j = s.defined j) := by
  unfold discardRaw; (repeat' split) <;> simp [State.slot, State.elemDef, State.run, State.claim, State.light, State.act, State.elemScore, State.alliance, State.box, State.defined]

theorem haltField_actuates_frame (l : List Entry) (s : State) :
    (l.foldl (fun s x => discardActuate x s) s).clock = s.clock ∧
    (l.foldl (fun s x => discardActuate x s) s).roster.strangers = s.roster.strangers ∧
    (l.foldl (fun s x => discardActuate x s) s).table.defs = s.table.defs ∧
    (l.foldl (fun s x => discardActuate x s) s).bus.commandCount = s.bus.commandCount ∧
    (l.foldl (fun s x => discardActuate x s) s).bus.lastPolled = s.bus.lastPolled ∧
    (l.foldl (fun s x => discardActuate x s) s).bus.haltPending = s.bus.haltPending ∧
    (l.foldl (fun s x => discardActuate x s) s).bus.pass = s.bus.pass ∧
    (l.foldl (fun s x => discardActuate x s) s).bus.current = s.bus.current ∧
    (l.foldl (fun s x => discardActuate x s) s).score.alliances = s.score.alliances ∧
    (l.foldl (fun s x => discardActuate x s) s).stop = s.stop ∧
    (l.foldl (fun s x => discardActuate x s) s).link = s.link ∧
    (l.foldl (fun s x => discardActuate x s) s).console = s.console ∧
    (l.foldl (fun s x => discardActuate x s) s).attention.enables = s.attention.enables ∧
    (l.foldl (fun s x => discardActuate x s) s).settings = s.settings ∧
    (l.foldl (fun s x => discardActuate x s) s).store = s.store ∧
    (l.foldl (fun s x => discardActuate x s) s).uptime = s.uptime ∧
    (l.foldl (fun s x => discardActuate x s) s).resetAsserted = s.resetAsserted ∧
    (l.foldl (fun s x => discardActuate x s) s).freeCount = s.freeCount ∧
    (l.foldl (fun s x => discardActuate x s) s).pending = s.pending ∧
    (∀ j, (l.foldl (fun s x => discardActuate x s) s).elemDef j = s.elemDef j) ∧
    (∀ j, (l.foldl (fun s x => discardActuate x s) s).alliance j = s.alliance j) ∧
    (∀ j, (l.foldl (fun s x => discardActuate x s) s).box j = s.box j) ∧
    (∀ j, (l.foldl (fun s x => discardActuate x s) s).defined j = s.defined j) := by
  induction l generalizing s with
  | nil => simp
  | cons a l ih => simp only [List.foldl, ih]; simp

theorem haltField_raws_frame (l : List Entry) (s : State) :
    (l.foldl (fun s x => discardRaw x s) s).clock = s.clock ∧
    (l.foldl (fun s x => discardRaw x s) s).roster = s.roster ∧
    (l.foldl (fun s x => discardRaw x s) s).table = s.table ∧
    (l.foldl (fun s x => discardRaw x s) s).claims = s.claims ∧
    (l.foldl (fun s x => discardRaw x s) s).bus.acts = s.bus.acts ∧
    (l.foldl (fun s x => discardRaw x s) s).bus.commandCount = s.bus.commandCount ∧
    (l.foldl (fun s x => discardRaw x s) s).bus.lastPolled = s.bus.lastPolled ∧
    (l.foldl (fun s x => discardRaw x s) s).bus.haltPending = s.bus.haltPending ∧
    (l.foldl (fun s x => discardRaw x s) s).bus.current = s.bus.current ∧
    (l.foldl (fun s x => discardRaw x s) s).score = s.score ∧ (l.foldl (fun s x => discardRaw x s) s).stop = s.stop ∧
    (l.foldl (fun s x => discardRaw x s) s).link = s.link ∧
    (l.foldl (fun s x => discardRaw x s) s).console = s.console ∧
    (l.foldl (fun s x => discardRaw x s) s).attention.enables = s.attention.enables ∧
    (l.foldl (fun s x => discardRaw x s) s).settings = s.settings ∧
    (l.foldl (fun s x => discardRaw x s) s).store = s.store ∧
    (l.foldl (fun s x => discardRaw x s) s).uptime = s.uptime ∧
    (l.foldl (fun s x => discardRaw x s) s).resetAsserted = s.resetAsserted ∧
    (l.foldl (fun s x => discardRaw x s) s).freeCount = s.freeCount ∧
    (l.foldl (fun s x => discardRaw x s) s).pending = s.pending ∧
    (∀ j, (l.foldl (fun s x => discardRaw x s) s).slot j = s.slot j) ∧
    (∀ j, (l.foldl (fun s x => discardRaw x s) s).elemDef j = s.elemDef j) ∧
    (∀ j, (l.foldl (fun s x => discardRaw x s) s).run j = s.run j) ∧
    (∀ j, (l.foldl (fun s x => discardRaw x s) s).claim j = s.claim j) ∧
    (∀ j, (l.foldl (fun s x => discardRaw x s) s).act j = s.act j) ∧
    (∀ j, (l.foldl (fun s x => discardRaw x s) s).elemScore j = s.elemScore j) ∧
    (∀ j, (l.foldl (fun s x => discardRaw x s) s).alliance j = s.alliance j) ∧
    (∀ j, (l.foldl (fun s x => discardRaw x s) s).box j = s.box j) ∧
    (∀ j, (l.foldl (fun s x => discardRaw x s) s).defined j = s.defined j) := by
  induction l generalizing s with
  | nil => simp
  | cons a l ih => simp only [List.foldl, ih]; simp

@[simp] theorem haltField_frame (s : State) :
    (haltField s).clock = s.clock ∧ (haltField s).roster.strangers = s.roster.strangers ∧
    (haltField s).table.defs = s.table.defs ∧ (haltField s).bus.commandCount = s.bus.commandCount ∧
    (haltField s).bus.lastPolled = s.bus.lastPolled ∧ (haltField s).bus.current = s.bus.current ∧
    (haltField s).score.alliances = s.score.alliances ∧ (haltField s).stop = s.stop ∧ (haltField s).link = s.link ∧
    (haltField s).console = s.console ∧ (haltField s).attention.enables = s.attention.enables ∧
    (haltField s).settings = s.settings ∧ (haltField s).store = s.store ∧ (haltField s).uptime = s.uptime ∧
    (haltField s).resetAsserted = s.resetAsserted ∧ (haltField s).freeCount = s.freeCount ∧
    (haltField s).pending = s.pending ∧ (∀ j, (haltField s).elemDef j = s.elemDef j) ∧
    (∀ j, (haltField s).alliance j = s.alliance j) ∧ (∀ j, (haltField s).box j = s.box j) ∧
    (∀ j, (haltField s).defined j = s.defined j) := by
  unfold haltField; simp [haltField_actuates_frame, haltField_raws_frame, State.slot, State.elemDef, State.run, State.claim, State.light, State.act, State.elemScore, State.alliance, State.box, State.defined]

@[simp] theorem queueReply_frame (f : DownFrame) (s : State) :
    (queueReply f s).clock = s.clock ∧ (queueReply f s).roster = s.roster ∧ (queueReply f s).table = s.table ∧
    (queueReply f s).claims = s.claims ∧ (queueReply f s).bus = s.bus ∧ (queueReply f s).lights = s.lights ∧
    (queueReply f s).score = s.score ∧ (queueReply f s).stop = s.stop ∧
    (queueReply f s).link.uplink = s.link.uplink ∧ (queueReply f s).link.port = s.link.port ∧
    (queueReply f s).link.beaconDue = s.link.beaconDue ∧ (queueReply f s).link.beaconTimer = s.link.beaconTimer ∧
    (queueReply f s).link.boxes = s.link.boxes ∧ (queueReply f s).console = s.console ∧
    (queueReply f s).attention.enables = s.attention.enables ∧ (queueReply f s).settings = s.settings ∧
    (queueReply f s).store = s.store ∧ (queueReply f s).uptime = s.uptime ∧
    (queueReply f s).resetAsserted = s.resetAsserted ∧ (queueReply f s).freeCount = s.freeCount ∧
    (queueReply f s).pending = s.pending ∧ (∀ j, (queueReply f s).slot j = s.slot j) ∧
    (∀ j, (queueReply f s).elemDef j = s.elemDef j) ∧ (∀ j, (queueReply f s).run j = s.run j) ∧
    (∀ j, (queueReply f s).claim j = s.claim j) ∧ (∀ j, (queueReply f s).light j = s.light j) ∧
    (∀ j, (queueReply f s).act j = s.act j) ∧ (∀ j, (queueReply f s).elemScore j = s.elemScore j) ∧
    (∀ j, (queueReply f s).alliance j = s.alliance j) ∧ (∀ j, (queueReply f s).box j = s.box j) ∧
    (∀ j, (queueReply f s).defined j = s.defined j) := by
  unfold queueReply; (repeat' split) <;> simp [State.slot, State.elemDef, State.run, State.claim, State.light, State.act, State.elemScore, State.alliance, State.box, State.defined]

@[simp] theorem answerFrame_frame (f : UplinkFrame) (c : AnswerCode) (d : Nat) (s : State) :
    (answerFrame f c d s).clock = s.clock ∧ (answerFrame f c d s).roster = s.roster ∧
    (answerFrame f c d s).table = s.table ∧ (answerFrame f c d s).claims = s.claims ∧
    (answerFrame f c d s).bus = s.bus ∧ (answerFrame f c d s).lights = s.lights ∧
    (answerFrame f c d s).score = s.score ∧ (answerFrame f c d s).stop = s.stop ∧
    (answerFrame f c d s).link.uplink = s.link.uplink ∧ (answerFrame f c d s).link.port = s.link.port ∧
    (answerFrame f c d s).link.beaconDue = s.link.beaconDue ∧
    (answerFrame f c d s).link.beaconTimer = s.link.beaconTimer ∧ (answerFrame f c d s).link.boxes = s.link.boxes ∧
    (answerFrame f c d s).console = s.console ∧ (answerFrame f c d s).attention.enables = s.attention.enables ∧
    (answerFrame f c d s).settings = s.settings ∧ (answerFrame f c d s).store = s.store ∧
    (answerFrame f c d s).uptime = s.uptime ∧ (answerFrame f c d s).resetAsserted = s.resetAsserted ∧
    (answerFrame f c d s).freeCount = s.freeCount ∧ (answerFrame f c d s).pending = s.pending ∧
    (∀ j, (answerFrame f c d s).slot j = s.slot j) ∧ (∀ j, (answerFrame f c d s).elemDef j = s.elemDef j) ∧
    (∀ j, (answerFrame f c d s).run j = s.run j) ∧ (∀ j, (answerFrame f c d s).claim j = s.claim j) ∧
    (∀ j, (answerFrame f c d s).light j = s.light j) ∧ (∀ j, (answerFrame f c d s).act j = s.act j) ∧
    (∀ j, (answerFrame f c d s).elemScore j = s.elemScore j) ∧
    (∀ j, (answerFrame f c d s).alliance j = s.alliance j) ∧ (∀ j, (answerFrame f c d s).box j = s.box j) ∧
    (∀ j, (answerFrame f c d s).defined j = s.defined j) := by
  unfold answerFrame; (repeat' split) <;> simp [State.slot, State.elemDef, State.run, State.claim, State.light, State.act, State.elemScore, State.alliance, State.box, State.defined]

@[simp] theorem answerHello_frame (n : Nat) (k : Word) (c : AnswerCode) (s : State) :
    (answerHello n k c s).clock = s.clock ∧ (answerHello n k c s).roster = s.roster ∧
    (answerHello n k c s).table = s.table ∧ (answerHello n k c s).claims = s.claims ∧
    (answerHello n k c s).bus = s.bus ∧ (answerHello n k c s).lights = s.lights ∧
    (answerHello n k c s).score = s.score ∧ (answerHello n k c s).stop = s.stop ∧
    (answerHello n k c s).link.uplink = s.link.uplink ∧ (answerHello n k c s).link.port = s.link.port ∧
    (answerHello n k c s).link.beaconDue = s.link.beaconDue ∧
    (answerHello n k c s).link.beaconTimer = s.link.beaconTimer ∧ (answerHello n k c s).link.boxes = s.link.boxes ∧
    (answerHello n k c s).console = s.console ∧ (answerHello n k c s).attention.enables = s.attention.enables ∧
    (answerHello n k c s).settings = s.settings ∧ (answerHello n k c s).store = s.store ∧
    (answerHello n k c s).uptime = s.uptime ∧ (answerHello n k c s).resetAsserted = s.resetAsserted ∧
    (answerHello n k c s).freeCount = s.freeCount ∧ (answerHello n k c s).pending = s.pending ∧
    (∀ j, (answerHello n k c s).slot j = s.slot j) ∧ (∀ j, (answerHello n k c s).elemDef j = s.elemDef j) ∧
    (∀ j, (answerHello n k c s).run j = s.run j) ∧ (∀ j, (answerHello n k c s).claim j = s.claim j) ∧
    (∀ j, (answerHello n k c s).light j = s.light j) ∧ (∀ j, (answerHello n k c s).act j = s.act j) ∧
    (∀ j, (answerHello n k c s).elemScore j = s.elemScore j) ∧
    (∀ j, (answerHello n k c s).alliance j = s.alliance j) ∧ (∀ j, (answerHello n k c s).box j = s.box j) ∧
    (∀ j, (answerHello n k c s).defined j = s.defined j) := by
  unfold answerHello; (repeat' split) <;> simp [State.slot, State.elemDef, State.run, State.claim, State.light, State.act, State.elemScore, State.alliance, State.box, State.defined]

@[simp] theorem sendOffer_frame (n : Nat) (s : State) :
    (sendOffer n s).clock = s.clock ∧ (sendOffer n s).roster = s.roster ∧ (sendOffer n s).table = s.table ∧
    (sendOffer n s).claims = s.claims ∧ (sendOffer n s).bus = s.bus ∧ (sendOffer n s).lights = s.lights ∧
    (sendOffer n s).score = s.score ∧ (sendOffer n s).stop = s.stop ∧ (sendOffer n s).link.uplink = s.link.uplink ∧
    (sendOffer n s).link.port = s.link.port ∧ (sendOffer n s).link.beaconDue = s.link.beaconDue ∧
    (sendOffer n s).link.beaconTimer = s.link.beaconTimer ∧ (sendOffer n s).link.boxes = s.link.boxes ∧
    (sendOffer n s).console = s.console ∧ (sendOffer n s).attention.enables = s.attention.enables ∧
    (sendOffer n s).settings = s.settings ∧ (sendOffer n s).store = s.store ∧ (sendOffer n s).uptime = s.uptime ∧
    (sendOffer n s).resetAsserted = s.resetAsserted ∧ (sendOffer n s).freeCount = s.freeCount ∧
    (sendOffer n s).pending = s.pending ∧ (∀ j, (sendOffer n s).slot j = s.slot j) ∧
    (∀ j, (sendOffer n s).elemDef j = s.elemDef j) ∧ (∀ j, (sendOffer n s).run j = s.run j) ∧
    (∀ j, (sendOffer n s).claim j = s.claim j) ∧ (∀ j, (sendOffer n s).light j = s.light j) ∧
    (∀ j, (sendOffer n s).act j = s.act j) ∧ (∀ j, (sendOffer n s).elemScore j = s.elemScore j) ∧
    (∀ j, (sendOffer n s).alliance j = s.alliance j) ∧ (∀ j, (sendOffer n s).box j = s.box j) ∧
    (∀ j, (sendOffer n s).defined j = s.defined j) := by
  unfold sendOffer; (repeat' split) <;> simp [State.slot, State.elemDef, State.run, State.claim, State.light, State.act, State.elemScore, State.alliance, State.box, State.defined]

@[simp] theorem portArbiter_frame (s : State) :
    (portArbiter s).clock = s.clock ∧ (portArbiter s).roster = s.roster ∧ (portArbiter s).table = s.table ∧
    (portArbiter s).claims = s.claims ∧ (portArbiter s).bus = s.bus ∧ (portArbiter s).lights = s.lights ∧
    (portArbiter s).score = s.score ∧ (portArbiter s).stop = s.stop ∧ (portArbiter s).link.uplink = s.link.uplink ∧
    (portArbiter s).link.boxes = s.link.boxes ∧ (portArbiter s).console = s.console ∧
    (portArbiter s).attention = s.attention ∧ (portArbiter s).settings = s.settings ∧
    (portArbiter s).store = s.store ∧ (portArbiter s).uptime = s.uptime ∧
    (portArbiter s).resetAsserted = s.resetAsserted ∧ (portArbiter s).freeCount = s.freeCount ∧
    (portArbiter s).pending = s.pending ∧ (∀ j, (portArbiter s).slot j = s.slot j) ∧
    (∀ j, (portArbiter s).elemDef j = s.elemDef j) ∧ (∀ j, (portArbiter s).run j = s.run j) ∧
    (∀ j, (portArbiter s).claim j = s.claim j) ∧ (∀ j, (portArbiter s).light j = s.light j) ∧
    (∀ j, (portArbiter s).act j = s.act j) ∧ (∀ j, (portArbiter s).elemScore j = s.elemScore j) ∧
    (∀ j, (portArbiter s).alliance j = s.alliance j) ∧ (∀ j, (portArbiter s).box j = s.box j) ∧
    (∀ j, (portArbiter s).defined j = s.defined j) := by
  unfold portArbiter; (repeat' split) <;> simp [State.slot, State.elemDef, State.run, State.claim, State.light, State.act, State.elemScore, State.alliance, State.box, State.defined]

@[simp] theorem settle_frame (s : State) :
    (settle s).clock = s.clock ∧ (settle s).roster = s.roster ∧ (settle s).table = s.table ∧
    (settle s).claims = s.claims ∧ (settle s).bus.acts = s.bus.acts ∧ (settle s).bus.pass = s.bus.pass ∧
    (settle s).score = s.score ∧ (settle s).stop = s.stop ∧ (settle s).link.uplink = s.link.uplink ∧
    (settle s).link.boxes = s.link.boxes ∧ (settle s).console = s.console ∧ (settle s).attention = s.attention ∧
    (settle s).settings = s.settings ∧ (settle s).store = s.store ∧ (settle s).uptime = s.uptime ∧
    (settle s).resetAsserted = s.resetAsserted ∧ (settle s).freeCount = s.freeCount ∧
    (settle s).pending = s.pending ∧ (∀ j, (settle s).slot j = s.slot j) ∧
    (∀ j, (settle s).elemDef j = s.elemDef j) ∧ (∀ j, (settle s).run j = s.run j) ∧
    (∀ j, (settle s).claim j = s.claim j) ∧ (∀ j, (settle s).act j = s.act j) ∧
    (∀ j, (settle s).elemScore j = s.elemScore j) ∧ (∀ j, (settle s).alliance j = s.alliance j) ∧
    (∀ j, (settle s).box j = s.box j) ∧ (∀ j, (settle s).defined j = s.defined j) := by
  unfold settle; (repeat' split) <;> simp [State.slot, State.elemDef, State.run, State.claim, State.light, State.act, State.elemScore, State.alliance, State.box, State.defined]

@[simp] theorem enterPhase_frame (p : Phase) (i r : Nat) (m : HeldMark) (g : Timer) (s : State) :
    (enterPhase p i r m g s).roster = s.roster ∧ (enterPhase p i r m g s).table = s.table ∧
    (enterPhase p i r m g s).claims = s.claims ∧ (enterPhase p i r m g s).bus = s.bus ∧
    (enterPhase p i r m g s).lights = s.lights ∧ (enterPhase p i r m g s).score = s.score ∧
    (enterPhase p i r m g s).stop = s.stop ∧ (enterPhase p i r m g s).link.uplink = s.link.uplink ∧
    (enterPhase p i r m g s).link.replies = s.link.replies ∧ (enterPhase p i r m g s).link.port = s.link.port ∧
    (enterPhase p i r m g s).link.beaconTimer = s.link.beaconTimer ∧
    (enterPhase p i r m g s).link.boxes = s.link.boxes ∧ (enterPhase p i r m g s).console = s.console ∧
    (enterPhase p i r m g s).attention = s.attention ∧ (enterPhase p i r m g s).settings = s.settings ∧
    (enterPhase p i r m g s).store = s.store ∧ (enterPhase p i r m g s).uptime = s.uptime ∧
    (enterPhase p i r m g s).resetAsserted = s.resetAsserted ∧ (enterPhase p i r m g s).freeCount = s.freeCount ∧
    (enterPhase p i r m g s).pending = s.pending ∧ (∀ j, (enterPhase p i r m g s).slot j = s.slot j) ∧
    (∀ j, (enterPhase p i r m g s).elemDef j = s.elemDef j) ∧ (∀ j, (enterPhase p i r m g s).run j = s.run j) ∧
    (∀ j, (enterPhase p i r m g s).claim j = s.claim j) ∧ (∀ j, (enterPhase p i r m g s).light j = s.light j) ∧
    (∀ j, (enterPhase p i r m g s).act j = s.act j) ∧ (∀ j, (enterPhase p i r m g s).elemScore j = s.elemScore j) ∧
    (∀ j, (enterPhase p i r m g s).alliance j = s.alliance j) ∧ (∀ j, (enterPhase p i r m g s).box j = s.box j) ∧
    (∀ j, (enterPhase p i r m g s).defined j = s.defined j) := by
  unfold enterPhase; (repeat' split) <;> simp [State.slot, State.elemDef, State.run, State.claim, State.light, State.act, State.elemScore, State.alliance, State.box, State.defined]

@[simp] theorem loadPeriod_frame (i : Nat) (s : State) :
    (loadPeriod i s).roster = s.roster ∧ (loadPeriod i s).table = s.table ∧ (loadPeriod i s).claims = s.claims ∧
    (loadPeriod i s).bus = s.bus ∧ (loadPeriod i s).lights = s.lights ∧ (loadPeriod i s).score = s.score ∧
    (loadPeriod i s).stop = s.stop ∧ (loadPeriod i s).link.uplink = s.link.uplink ∧
    (loadPeriod i s).link.replies = s.link.replies ∧ (loadPeriod i s).link.port = s.link.port ∧
    (loadPeriod i s).link.beaconTimer = s.link.beaconTimer ∧ (loadPeriod i s).link.boxes = s.link.boxes ∧
    (loadPeriod i s).console = s.console ∧ (loadPeriod i s).attention = s.attention ∧
    (loadPeriod i s).settings = s.settings ∧ (loadPeriod i s).store = s.store ∧ (loadPeriod i s).uptime = s.uptime ∧
    (loadPeriod i s).resetAsserted = s.resetAsserted ∧ (loadPeriod i s).freeCount = s.freeCount ∧
    (loadPeriod i s).pending = s.pending ∧ (∀ j, (loadPeriod i s).slot j = s.slot j) ∧
    (∀ j, (loadPeriod i s).elemDef j = s.elemDef j) ∧ (∀ j, (loadPeriod i s).run j = s.run j) ∧
    (∀ j, (loadPeriod i s).claim j = s.claim j) ∧ (∀ j, (loadPeriod i s).light j = s.light j) ∧
    (∀ j, (loadPeriod i s).act j = s.act j) ∧ (∀ j, (loadPeriod i s).elemScore j = s.elemScore j) ∧
    (∀ j, (loadPeriod i s).alliance j = s.alliance j) ∧ (∀ j, (loadPeriod i s).box j = s.box j) ∧
    (∀ j, (loadPeriod i s).defined j = s.defined j) := by
  unfold loadPeriod; (repeat' split) <;> simp [State.slot, State.elemDef, State.run, State.claim, State.light, State.act, State.elemScore, State.alliance, State.box, State.defined]

@[simp] theorem enterFinished_frame (s : State) :
    (enterFinished s).roster.strangers = s.roster.strangers ∧ (enterFinished s).table = s.table ∧
    (enterFinished s).bus.acts = s.bus.acts ∧ (enterFinished s).bus.commandCount = s.bus.commandCount ∧
    (enterFinished s).bus.lastPolled = s.bus.lastPolled ∧ (enterFinished s).bus.haltPending = s.bus.haltPending ∧
    (enterFinished s).bus.pass = s.bus.pass ∧ (enterFinished s).bus.current = s.bus.current ∧
    (enterFinished s).score.alliances = s.score.alliances ∧ (enterFinished s).stop = s.stop ∧
    (enterFinished s).link.uplink = s.link.uplink ∧ (enterFinished s).link.replies = s.link.replies ∧
    (enterFinished s).link.port = s.link.port ∧ (enterFinished s).link.beaconTimer = s.link.beaconTimer ∧
    (enterFinished s).link.boxes = s.link.boxes ∧ (enterFinished s).console = s.console ∧
    (enterFinished s).attention.enables = s.attention.enables ∧ (enterFinished s).settings = s.settings ∧
    (enterFinished s).store = s.store ∧ (enterFinished s).uptime = s.uptime ∧
    (enterFinished s).resetAsserted = s.resetAsserted ∧ (enterFinished s).freeCount = s.freeCount ∧
    (enterFinished s).pending = s.pending ∧ (∀ j, (enterFinished s).elemDef j = s.elemDef j) ∧
    (∀ j, (enterFinished s).run j = s.run j) ∧ (∀ j, (enterFinished s).act j = s.act j) ∧
    (∀ j, (enterFinished s).alliance j = s.alliance j) ∧ (∀ j, (enterFinished s).box j = s.box j) ∧
    (∀ j, (enterFinished s).defined j = s.defined j) := by
  unfold enterFinished; (repeat' split) <;> simp [State.slot, State.elemDef, State.run, State.claim, State.light, State.act, State.elemScore, State.alliance, State.box, State.defined]

@[simp] theorem enterGrace_frame (s : State) :
    (enterGrace s).roster.strangers = s.roster.strangers ∧ (enterGrace s).table = s.table ∧
    (enterGrace s).bus.acts = s.bus.acts ∧ (enterGrace s).bus.commandCount = s.bus.commandCount ∧
    (enterGrace s).bus.lastPolled = s.bus.lastPolled ∧ (enterGrace s).bus.haltPending = s.bus.haltPending ∧
    (enterGrace s).bus.pass = s.bus.pass ∧ (enterGrace s).bus.current = s.bus.current ∧
    (enterGrace s).score.alliances = s.score.alliances ∧ (enterGrace s).stop = s.stop ∧
    (enterGrace s).link.uplink = s.link.uplink ∧ (enterGrace s).link.replies = s.link.replies ∧
    (enterGrace s).link.port = s.link.port ∧ (enterGrace s).link.beaconTimer = s.link.beaconTimer ∧
    (enterGrace s).link.boxes = s.link.boxes ∧ (enterGrace s).console = s.console ∧
    (enterGrace s).attention = s.attention ∧ (enterGrace s).settings = s.settings ∧ (enterGrace s).store = s.store ∧
    (enterGrace s).uptime = s.uptime ∧ (enterGrace s).resetAsserted = s.resetAsserted ∧
    (enterGrace s).freeCount = s.freeCount ∧ (enterGrace s).pending = s.pending ∧
    (∀ j, (enterGrace s).elemDef j = s.elemDef j) ∧ (∀ j, (enterGrace s).run j = s.run j) ∧
    (∀ j, (enterGrace s).act j = s.act j) ∧ (∀ j, (enterGrace s).alliance j = s.alliance j) ∧
    (∀ j, (enterGrace s).box j = s.box j) ∧ (∀ j, (enterGrace s).defined j = s.defined j) := by
  unfold enterGrace; (repeat' split) <;> simp [State.slot, State.elemDef, State.run, State.claim, State.light, State.act, State.elemScore, State.alliance, State.box, State.defined]

@[simp] theorem endLastPeriod_frame (s : State) :
    (endLastPeriod s).roster.strangers = s.roster.strangers ∧ (endLastPeriod s).table = s.table ∧
    (endLastPeriod s).bus.acts = s.bus.acts ∧ (endLastPeriod s).bus.commandCount = s.bus.commandCount ∧
    (endLastPeriod s).bus.lastPolled = s.bus.lastPolled ∧ (endLastPeriod s).bus.haltPending = s.bus.haltPending ∧
    (endLastPeriod s).bus.pass = s.bus.pass ∧ (endLastPeriod s).bus.current = s.bus.current ∧
    (endLastPeriod s).score.alliances = s.score.alliances ∧ (endLastPeriod s).stop = s.stop ∧
    (endLastPeriod s).link.uplink = s.link.uplink ∧ (endLastPeriod s).link.replies = s.link.replies ∧
    (endLastPeriod s).link.port = s.link.port ∧ (endLastPeriod s).link.beaconTimer = s.link.beaconTimer ∧
    (endLastPeriod s).link.boxes = s.link.boxes ∧ (endLastPeriod s).console = s.console ∧
    (endLastPeriod s).attention.enables = s.attention.enables ∧ (endLastPeriod s).settings = s.settings ∧
    (endLastPeriod s).store = s.store ∧ (endLastPeriod s).uptime = s.uptime ∧
    (endLastPeriod s).resetAsserted = s.resetAsserted ∧ (endLastPeriod s).freeCount = s.freeCount ∧
    (endLastPeriod s).pending = s.pending ∧ (∀ j, (endLastPeriod s).elemDef j = s.elemDef j) ∧
    (∀ j, (endLastPeriod s).run j = s.run j) ∧ (∀ j, (endLastPeriod s).act j = s.act j) ∧
    (∀ j, (endLastPeriod s).alliance j = s.alliance j) ∧ (∀ j, (endLastPeriod s).box j = s.box j) ∧
    (∀ j, (endLastPeriod s).defined j = s.defined j) := by
  unfold endLastPeriod; (repeat' split) <;> simp [State.slot, State.elemDef, State.run, State.claim, State.light, State.act, State.elemScore, State.alliance, State.box, State.defined]

@[simp] theorem nextPeriod_frame (s : State) :
    (nextPeriod s).roster.strangers = s.roster.strangers ∧ (nextPeriod s).table = s.table ∧
    (nextPeriod s).bus.acts = s.bus.acts ∧ (nextPeriod s).bus.commandCount = s.bus.commandCount ∧
    (nextPeriod s).bus.lastPolled = s.bus.lastPolled ∧ (nextPeriod s).bus.haltPending = s.bus.haltPending ∧
    (nextPeriod s).bus.pass = s.bus.pass ∧ (nextPeriod s).bus.current = s.bus.current ∧
    (nextPeriod s).score.alliances = s.score.alliances ∧ (nextPeriod s).stop = s.stop ∧
    (nextPeriod s).link.uplink = s.link.uplink ∧ (nextPeriod s).link.replies = s.link.replies ∧
    (nextPeriod s).link.port = s.link.port ∧ (nextPeriod s).link.beaconTimer = s.link.beaconTimer ∧
    (nextPeriod s).link.boxes = s.link.boxes ∧ (nextPeriod s).console = s.console ∧
    (nextPeriod s).attention.enables = s.attention.enables ∧ (nextPeriod s).settings = s.settings ∧
    (nextPeriod s).store = s.store ∧ (nextPeriod s).uptime = s.uptime ∧
    (nextPeriod s).resetAsserted = s.resetAsserted ∧ (nextPeriod s).freeCount = s.freeCount ∧
    (nextPeriod s).pending = s.pending ∧ (∀ j, (nextPeriod s).elemDef j = s.elemDef j) ∧
    (∀ j, (nextPeriod s).run j = s.run j) ∧ (∀ j, (nextPeriod s).act j = s.act j) ∧
    (∀ j, (nextPeriod s).alliance j = s.alliance j) ∧ (∀ j, (nextPeriod s).box j = s.box j) ∧
    (∀ j, (nextPeriod s).defined j = s.defined j) := by
  unfold nextPeriod; (repeat' split) <;> simp [State.slot, State.elemDef, State.run, State.claim, State.light, State.act, State.elemScore, State.alliance, State.box, State.defined]

@[simp] theorem enterHeld_frame (m : HeldMark) (r : Nat) (s : State) :
    (enterHeld m r s).roster = s.roster ∧ (enterHeld m r s).table = s.table ∧ (enterHeld m r s).claims = s.claims ∧
    (enterHeld m r s).bus = s.bus ∧ (enterHeld m r s).lights = s.lights ∧ (enterHeld m r s).score = s.score ∧
    (enterHeld m r s).stop = s.stop ∧ (enterHeld m r s).link.uplink = s.link.uplink ∧
    (enterHeld m r s).link.replies = s.link.replies ∧ (enterHeld m r s).link.port = s.link.port ∧
    (enterHeld m r s).link.beaconTimer = s.link.beaconTimer ∧ (enterHeld m r s).link.boxes = s.link.boxes ∧
    (enterHeld m r s).console = s.console ∧ (enterHeld m r s).attention = s.attention ∧
    (enterHeld m r s).settings = s.settings ∧ (enterHeld m r s).store = s.store ∧
    (enterHeld m r s).uptime = s.uptime ∧ (enterHeld m r s).resetAsserted = s.resetAsserted ∧
    (enterHeld m r s).freeCount = s.freeCount ∧ (enterHeld m r s).pending = s.pending ∧
    (∀ j, (enterHeld m r s).slot j = s.slot j) ∧ (∀ j, (enterHeld m r s).elemDef j = s.elemDef j) ∧
    (∀ j, (enterHeld m r s).run j = s.run j) ∧ (∀ j, (enterHeld m r s).claim j = s.claim j) ∧
    (∀ j, (enterHeld m r s).light j = s.light j) ∧ (∀ j, (enterHeld m r s).act j = s.act j) ∧
    (∀ j, (enterHeld m r s).elemScore j = s.elemScore j) ∧ (∀ j, (enterHeld m r s).alliance j = s.alliance j) ∧
    (∀ j, (enterHeld m r s).box j = s.box j) ∧ (∀ j, (enterHeld m r s).defined j = s.defined j) := by
  unfold enterHeld; (repeat' split) <;> simp [State.slot, State.elemDef, State.run, State.claim, State.light, State.act, State.elemScore, State.alliance, State.box, State.defined]

@[simp] theorem stopClock_frame (s : State) :
    (stopClock s).roster = s.roster ∧ (stopClock s).table = s.table ∧ (stopClock s).claims = s.claims ∧
    (stopClock s).bus = s.bus ∧ (stopClock s).lights = s.lights ∧ (stopClock s).score = s.score ∧
    (stopClock s).stop = s.stop ∧ (stopClock s).link.uplink = s.link.uplink ∧
    (stopClock s).link.replies = s.link.replies ∧ (stopClock s).link.port = s.link.port ∧
    (stopClock s).link.beaconTimer = s.link.beaconTimer ∧ (stopClock s).link.boxes = s.link.boxes ∧
    (stopClock s).console = s.console ∧ (stopClock s).attention = s.attention ∧ (stopClock s).settings = s.settings ∧
    (stopClock s).store = s.store ∧ (stopClock s).uptime = s.uptime ∧ (stopClock s).resetAsserted = s.resetAsserted ∧
    (stopClock s).freeCount = s.freeCount ∧ (stopClock s).pending = s.pending ∧
    (∀ j, (stopClock s).slot j = s.slot j) ∧ (∀ j, (stopClock s).elemDef j = s.elemDef j) ∧
    (∀ j, (stopClock s).run j = s.run j) ∧ (∀ j, (stopClock s).claim j = s.claim j) ∧
    (∀ j, (stopClock s).light j = s.light j) ∧ (∀ j, (stopClock s).act j = s.act j) ∧
    (∀ j, (stopClock s).elemScore j = s.elemScore j) ∧ (∀ j, (stopClock s).alliance j = s.alliance j) ∧
    (∀ j, (stopClock s).box j = s.box j) ∧ (∀ j, (stopClock s).defined j = s.defined j) := by
  unfold stopClock; (repeat' split) <;> simp [State.slot, State.elemDef, State.run, State.claim, State.light, State.act, State.elemScore, State.alliance, State.box, State.defined]

@[simp] theorem enterStop_frame (s : State) :
    (enterStop s).roster.strangers = s.roster.strangers ∧ (enterStop s).table.defs = s.table.defs ∧
    (enterStop s).bus.commandCount = s.bus.commandCount ∧ (enterStop s).bus.lastPolled = s.bus.lastPolled ∧
    (enterStop s).bus.current = s.bus.current ∧ (enterStop s).score.alliances = s.score.alliances ∧
    (enterStop s).stop = s.stop ∧ (enterStop s).link.uplink = s.link.uplink ∧
    (enterStop s).link.replies = s.link.replies ∧ (enterStop s).link.port = s.link.port ∧
    (enterStop s).link.beaconTimer = s.link.beaconTimer ∧ (enterStop s).link.boxes = s.link.boxes ∧
    (enterStop s).console = s.console ∧ (enterStop s).attention.enables = s.attention.enables ∧
    (enterStop s).settings = s.settings ∧ (enterStop s).store = s.store ∧ (enterStop s).uptime = s.uptime ∧
    (enterStop s).resetAsserted = s.resetAsserted ∧ (enterStop s).freeCount = s.freeCount ∧
    (enterStop s).pending = s.pending ∧ (∀ j, (enterStop s).elemDef j = s.elemDef j) ∧
    (∀ j, (enterStop s).alliance j = s.alliance j) ∧ (∀ j, (enterStop s).box j = s.box j) ∧
    (∀ j, (enterStop s).defined j = s.defined j) := by
  unfold enterStop; (repeat' split) <;> simp [State.slot, State.elemDef, State.run, State.claim, State.light, State.act, State.elemScore, State.alliance, State.box, State.defined]

@[simp] theorem causeArrives_frame (c : Cause) (s : State) :
    (causeArrives c s).roster.strangers = s.roster.strangers ∧ (causeArrives c s).table.defs = s.table.defs ∧
    (causeArrives c s).bus.commandCount = s.bus.commandCount ∧ (causeArrives c s).bus.lastPolled = s.bus.lastPolled ∧
    (causeArrives c s).bus.current = s.bus.current ∧ (causeArrives c s).score.alliances = s.score.alliances ∧
    (causeArrives c s).link.uplink = s.link.uplink ∧ (causeArrives c s).link.replies = s.link.replies ∧
    (causeArrives c s).link.port = s.link.port ∧ (causeArrives c s).link.beaconTimer = s.link.beaconTimer ∧
    (causeArrives c s).link.boxes = s.link.boxes ∧ (causeArrives c s).console = s.console ∧
    (causeArrives c s).attention.enables = s.attention.enables ∧ (causeArrives c s).settings = s.settings ∧
    (causeArrives c s).store = s.store ∧ (causeArrives c s).uptime = s.uptime ∧
    (causeArrives c s).resetAsserted = s.resetAsserted ∧ (causeArrives c s).freeCount = s.freeCount ∧
    (causeArrives c s).pending = s.pending ∧ (∀ j, (causeArrives c s).elemDef j = s.elemDef j) ∧
    (∀ j, (causeArrives c s).alliance j = s.alliance j) ∧ (∀ j, (causeArrives c s).box j = s.box j) ∧
    (∀ j, (causeArrives c s).defined j = s.defined j) := by
  unfold causeArrives; (repeat' split) <;> simp [State.slot, State.elemDef, State.run, State.claim, State.light, State.act, State.elemScore, State.alliance, State.box, State.defined]

@[simp] theorem returnToExpected_frame (n : Nat) (s : State) :
    (returnToExpected n s).clock = s.clock ∧ (returnToExpected n s).roster.strangers = s.roster.strangers ∧
    (returnToExpected n s).table = s.table ∧ (returnToExpected n s).bus.acts = s.bus.acts ∧
    (returnToExpected n s).bus.commandCount = s.bus.commandCount ∧
    (returnToExpected n s).bus.lastPolled = s.bus.lastPolled ∧
    (returnToExpected n s).bus.haltPending = s.bus.haltPending ∧ (returnToExpected n s).bus.pass = s.bus.pass ∧
    (returnToExpected n s).bus.current = s.bus.current ∧ (returnToExpected n s).score.alliances = s.score.alliances ∧
    (returnToExpected n s).stop = s.stop ∧ (returnToExpected n s).link = s.link ∧
    (returnToExpected n s).console = s.console ∧ (returnToExpected n s).attention = s.attention ∧
    (returnToExpected n s).settings = s.settings ∧ (returnToExpected n s).store = s.store ∧
    (returnToExpected n s).uptime = s.uptime ∧ (returnToExpected n s).resetAsserted = s.resetAsserted ∧
    (returnToExpected n s).freeCount = s.freeCount ∧ (returnToExpected n s).pending = s.pending ∧
    (∀ j, (returnToExpected n s).elemDef j = s.elemDef j) ∧ (∀ j, (returnToExpected n s).run j = s.run j) ∧
    (∀ j, (returnToExpected n s).act j = s.act j) ∧ (∀ j, (returnToExpected n s).alliance j = s.alliance j) ∧
    (∀ j, (returnToExpected n s).box j = s.box j) ∧ (∀ j, (returnToExpected n s).defined j = s.defined j) := by
  unfold returnToExpected; (repeat' split) <;> simp [State.slot, State.elemDef, State.run, State.claim, State.light, State.act, State.elemScore, State.alliance, State.box, State.defined]

@[simp] theorem restartSilence_frame (n : Nat) (s : State) :
    (restartSilence n s).clock = s.clock ∧ (restartSilence n s).roster.strangers = s.roster.strangers ∧
    (restartSilence n s).table = s.table ∧ (restartSilence n s).claims = s.claims ∧
    (restartSilence n s).bus = s.bus ∧ (restartSilence n s).lights = s.lights ∧
    (restartSilence n s).score = s.score ∧ (restartSilence n s).stop = s.stop ∧ (restartSilence n s).link = s.link ∧
    (restartSilence n s).console = s.console ∧ (restartSilence n s).attention = s.attention ∧
    (restartSilence n s).settings = s.settings ∧ (restartSilence n s).store = s.store ∧
    (restartSilence n s).uptime = s.uptime ∧ (restartSilence n s).resetAsserted = s.resetAsserted ∧
    (restartSilence n s).freeCount = s.freeCount ∧ (restartSilence n s).pending = s.pending ∧
    (∀ j, (restartSilence n s).elemDef j = s.elemDef j) ∧ (∀ j, (restartSilence n s).run j = s.run j) ∧
    (∀ j, (restartSilence n s).claim j = s.claim j) ∧ (∀ j, (restartSilence n s).light j = s.light j) ∧
    (∀ j, (restartSilence n s).act j = s.act j) ∧ (∀ j, (restartSilence n s).elemScore j = s.elemScore j) ∧
    (∀ j, (restartSilence n s).alliance j = s.alliance j) ∧ (∀ j, (restartSilence n s).box j = s.box j) ∧
    (∀ j, (restartSilence n s).defined j = s.defined j) := by
  unfold restartSilence; dsimp only; (repeat' split) <;> simp [State.slot, State.elemDef, State.run, State.claim, State.light, State.act, State.elemScore, State.alliance, State.box, State.defined]

@[simp] theorem recheckTier_frame (n : Nat) (s : State) :
    (recheckTier n s).clock = s.clock ∧ (recheckTier n s).roster.strangers = s.roster.strangers ∧
    (recheckTier n s).table = s.table ∧ (recheckTier n s).bus.acts = s.bus.acts ∧
    (recheckTier n s).bus.commandCount = s.bus.commandCount ∧ (recheckTier n s).bus.lastPolled = s.bus.lastPolled ∧
    (recheckTier n s).bus.haltPending = s.bus.haltPending ∧ (recheckTier n s).bus.pass = s.bus.pass ∧
    (recheckTier n s).bus.current = s.bus.current ∧ (recheckTier n s).score.alliances = s.score.alliances ∧
    (recheckTier n s).stop = s.stop ∧ (recheckTier n s).link = s.link ∧ (recheckTier n s).console = s.console ∧
    (recheckTier n s).attention = s.attention ∧ (recheckTier n s).settings = s.settings ∧
    (recheckTier n s).store = s.store ∧ (recheckTier n s).uptime = s.uptime ∧
    (recheckTier n s).resetAsserted = s.resetAsserted ∧ (recheckTier n s).freeCount = s.freeCount ∧
    (recheckTier n s).pending = s.pending ∧ (∀ j, (recheckTier n s).elemDef j = s.elemDef j) ∧
    (∀ j, (recheckTier n s).run j = s.run j) ∧ (∀ j, (recheckTier n s).act j = s.act j) ∧
    (∀ j, (recheckTier n s).alliance j = s.alliance j) ∧ (∀ j, (recheckTier n s).box j = s.box j) ∧
    (∀ j, (recheckTier n s).defined j = s.defined j) := by
  unfold recheckTier; dsimp only; (repeat' split) <;> simp [State.slot, State.elemDef, State.run, State.claim, State.light, State.act, State.elemScore, State.alliance, State.box, State.defined]

@[simp] theorem closeSlot_frame (n : Nat) (s : State) :
    (closeSlot n s).clock = s.clock ∧ (closeSlot n s).roster.strangers = s.roster.strangers ∧
    (closeSlot n s).table = s.table ∧ (closeSlot n s).bus.acts = s.bus.acts ∧
    (closeSlot n s).bus.commandCount = s.bus.commandCount ∧ (closeSlot n s).bus.lastPolled = s.bus.lastPolled ∧
    (closeSlot n s).bus.haltPending = s.bus.haltPending ∧ (closeSlot n s).bus.pass = s.bus.pass ∧
    (closeSlot n s).bus.current = s.bus.current ∧ (closeSlot n s).score.alliances = s.score.alliances ∧
    (closeSlot n s).stop = s.stop ∧ (closeSlot n s).link = s.link ∧ (closeSlot n s).console = s.console ∧
    (closeSlot n s).attention = s.attention ∧ (closeSlot n s).settings = s.settings ∧
    (closeSlot n s).store = s.store ∧ (closeSlot n s).uptime = s.uptime ∧
    (closeSlot n s).resetAsserted = s.resetAsserted ∧ (closeSlot n s).freeCount = s.freeCount ∧
    (closeSlot n s).pending = s.pending ∧ (∀ j, (closeSlot n s).elemDef j = s.elemDef j) ∧
    (∀ j, (closeSlot n s).run j = s.run j) ∧ (∀ j, (closeSlot n s).act j = s.act j) ∧
    (∀ j, (closeSlot n s).alliance j = s.alliance j) ∧ (∀ j, (closeSlot n s).box j = s.box j) ∧
    (∀ j, (closeSlot n s).defined j = s.defined j) := by
  unfold closeSlot; dsimp only; (repeat' split) <;> simp [State.slot, State.elemDef, State.run, State.claim, State.light, State.act, State.elemScore, State.alliance, State.box, State.defined]

theorem closeRoster_fold_frame (l : List Nat) (s : State) :
    (l.foldl (fun s n => closeSlot n s) s).clock = s.clock ∧
    (l.foldl (fun s n => closeSlot n s) s).roster.strangers = s.roster.strangers ∧
    (l.foldl (fun s n => closeSlot n s) s).table = s.table ∧
    (l.foldl (fun s n => closeSlot n s) s).bus.acts = s.bus.acts ∧
    (l.foldl (fun s n => closeSlot n s) s).bus.commandCount = s.bus.commandCount ∧
    (l.foldl (fun s n => closeSlot n s) s).bus.lastPolled = s.bus.lastPolled ∧
    (l.foldl (fun s n => closeSlot n s) s).bus.haltPending = s.bus.haltPending ∧
    (l.foldl (fun s n => closeSlot n s) s).bus.pass = s.bus.pass ∧
    (l.foldl (fun s n => closeSlot n s) s).bus.current = s.bus.current ∧
    (l.foldl (fun s n => closeSlot n s) s).score.alliances = s.score.alliances ∧
    (l.foldl (fun s n => closeSlot n s) s).stop = s.stop ∧ (l.foldl (fun s n => closeSlot n s) s).link = s.link ∧
    (l.foldl (fun s n => closeSlot n s) s).console = s.console ∧
    (l.foldl (fun s n => closeSlot n s) s).attention = s.attention ∧
    (l.foldl (fun s n => closeSlot n s) s).settings = s.settings ∧
    (l.foldl (fun s n => closeSlot n s) s).store = s.store ∧
    (l.foldl (fun s n => closeSlot n s) s).uptime = s.uptime ∧
    (l.foldl (fun s n => closeSlot n s) s).resetAsserted = s.resetAsserted ∧
    (l.foldl (fun s n => closeSlot n s) s).freeCount = s.freeCount ∧
    (l.foldl (fun s n => closeSlot n s) s).pending = s.pending ∧
    (∀ j, (l.foldl (fun s n => closeSlot n s) s).elemDef j = s.elemDef j) ∧
    (∀ j, (l.foldl (fun s n => closeSlot n s) s).run j = s.run j) ∧
    (∀ j, (l.foldl (fun s n => closeSlot n s) s).act j = s.act j) ∧
    (∀ j, (l.foldl (fun s n => closeSlot n s) s).alliance j = s.alliance j) ∧
    (∀ j, (l.foldl (fun s n => closeSlot n s) s).box j = s.box j) ∧
    (∀ j, (l.foldl (fun s n => closeSlot n s) s).defined j = s.defined j) := by
  induction l generalizing s with
  | nil => simp
  | cons a l ih => simp only [List.foldl, ih]; simp

@[simp] theorem closeRoster_frame (s : State) :
    (closeRoster s).clock = s.clock ∧ (closeRoster s).roster.strangers = s.roster.strangers ∧
    (closeRoster s).table = s.table ∧ (closeRoster s).bus.acts = s.bus.acts ∧
    (closeRoster s).bus.commandCount = s.bus.commandCount ∧ (closeRoster s).bus.lastPolled = s.bus.lastPolled ∧
    (closeRoster s).bus.haltPending = s.bus.haltPending ∧ (closeRoster s).bus.pass = s.bus.pass ∧
    (closeRoster s).bus.current = s.bus.current ∧ (closeRoster s).score.alliances = s.score.alliances ∧
    (closeRoster s).stop = s.stop ∧ (closeRoster s).link = s.link ∧ (closeRoster s).console = s.console ∧
    (closeRoster s).attention = s.attention ∧ (closeRoster s).settings = s.settings ∧
    (closeRoster s).store = s.store ∧ (closeRoster s).uptime = s.uptime ∧
    (closeRoster s).resetAsserted = s.resetAsserted ∧ (closeRoster s).freeCount = s.freeCount ∧
    (closeRoster s).pending = s.pending ∧ (∀ j, (closeRoster s).elemDef j = s.elemDef j) ∧
    (∀ j, (closeRoster s).run j = s.run j) ∧ (∀ j, (closeRoster s).act j = s.act j) ∧
    (∀ j, (closeRoster s).alliance j = s.alliance j) ∧ (∀ j, (closeRoster s).box j = s.box j) ∧
    (∀ j, (closeRoster s).defined j = s.defined j) := by
  unfold closeRoster; simp [closeRoster_fold_frame, State.slot, State.elemDef, State.run, State.claim, State.light, State.act, State.elemScore, State.alliance, State.box, State.defined]

@[simp] theorem resumeClock_frame (s : State) :
    (resumeClock s).roster.strangers = s.roster.strangers ∧ (resumeClock s).table = s.table ∧
    (resumeClock s).bus.acts = s.bus.acts ∧ (resumeClock s).bus.commandCount = s.bus.commandCount ∧
    (resumeClock s).bus.lastPolled = s.bus.lastPolled ∧ (resumeClock s).bus.haltPending = s.bus.haltPending ∧
    (resumeClock s).bus.pass = s.bus.pass ∧ (resumeClock s).bus.current = s.bus.current ∧
    (resumeClock s).score.alliances = s.score.alliances ∧ (resumeClock s).stop = s.stop ∧
    (resumeClock s).link.uplink = s.link.uplink ∧ (resumeClock s).link.replies = s.link.replies ∧
    (resumeClock s).link.port = s.link.port ∧ (resumeClock s).link.beaconTimer = s.link.beaconTimer ∧
    (resumeClock s).link.boxes = s.link.boxes ∧ (resumeClock s).console = s.console ∧
    (resumeClock s).attention.enables = s.attention.enables ∧ (resumeClock s).settings = s.settings ∧
    (resumeClock s).store = s.store ∧ (resumeClock s).uptime = s.uptime ∧
    (resumeClock s).resetAsserted = s.resetAsserted ∧ (resumeClock s).freeCount = s.freeCount ∧
    (resumeClock s).pending = s.pending ∧ (∀ j, (resumeClock s).elemDef j = s.elemDef j) ∧
    (∀ j, (resumeClock s).run j = s.run j) ∧ (∀ j, (resumeClock s).act j = s.act j) ∧
    (∀ j, (resumeClock s).alliance j = s.alliance j) ∧ (∀ j, (resumeClock s).box j = s.box j) ∧
    (∀ j, (resumeClock s).defined j = s.defined j) := by
  unfold resumeClock; (repeat' split) <;> simp [State.slot, State.elemDef, State.run, State.claim, State.light, State.act, State.elemScore, State.alliance, State.box, State.defined]

@[simp] theorem expirePeriod_frame (s : State) :
    (expirePeriod s).roster.strangers = s.roster.strangers ∧ (expirePeriod s).table = s.table ∧
    (expirePeriod s).bus.acts = s.bus.acts ∧ (expirePeriod s).bus.commandCount = s.bus.commandCount ∧
    (expirePeriod s).bus.lastPolled = s.bus.lastPolled ∧ (expirePeriod s).bus.haltPending = s.bus.haltPending ∧
    (expirePeriod s).bus.pass = s.bus.pass ∧ (expirePeriod s).bus.current = s.bus.current ∧
    (expirePeriod s).score.alliances = s.score.alliances ∧ (expirePeriod s).stop = s.stop ∧
    (expirePeriod s).link.uplink = s.link.uplink ∧ (expirePeriod s).link.replies = s.link.replies ∧
    (expirePeriod s).link.port = s.link.port ∧ (expirePeriod s).link.beaconTimer = s.link.beaconTimer ∧
    (expirePeriod s).link.boxes = s.link.boxes ∧ (expirePeriod s).console = s.console ∧
    (expirePeriod s).attention.enables = s.attention.enables ∧ (expirePeriod s).settings = s.settings ∧
    (expirePeriod s).store = s.store ∧ (expirePeriod s).uptime = s.uptime ∧
    (expirePeriod s).resetAsserted = s.resetAsserted ∧ (expirePeriod s).freeCount = s.freeCount ∧
    (expirePeriod s).pending = s.pending ∧ (∀ j, (expirePeriod s).elemDef j = s.elemDef j) ∧
    (∀ j, (expirePeriod s).run j = s.run j) ∧ (∀ j, (expirePeriod s).act j = s.act j) ∧
    (∀ j, (expirePeriod s).alliance j = s.alliance j) ∧ (∀ j, (expirePeriod s).box j = s.box j) ∧
    (∀ j, (expirePeriod s).defined j = s.defined j) := by
  unfold expirePeriod; dsimp only; (repeat' split) <;> simp [State.slot, State.elemDef, State.run, State.claim, State.light, State.act, State.elemScore, State.alliance, State.box, State.defined]

@[simp] theorem define_frame (e : Nat) (d : ElementDef) (s : State) :
    (define e d s).clock = s.clock ∧ (define e d s).roster = s.roster ∧
    (define e d s).table.capture = s.table.capture ∧ (define e d s).table.repeated = s.table.repeated ∧
    (define e d s).claims = s.claims ∧ (define e d s).bus.acts = s.bus.acts ∧
    (define e d s).bus.commandCount = s.bus.commandCount ∧ (define e d s).bus.lastPolled = s.bus.lastPolled ∧
    (define e d s).bus.haltPending = s.bus.haltPending ∧ (define e d s).bus.pass = s.bus.pass ∧
    (define e d s).bus.current = s.bus.current ∧ (define e d s).score.alliances = s.score.alliances ∧
    (define e d s).stop = s.stop ∧ (define e d s).link = s.link ∧ (define e d s).console = s.console ∧
    (define e d s).attention = s.attention ∧ (define e d s).settings = s.settings ∧ (define e d s).store = s.store ∧
    (define e d s).uptime = s.uptime ∧ (define e d s).resetAsserted = s.resetAsserted ∧
    (define e d s).freeCount = s.freeCount ∧ (define e d s).pending = s.pending ∧
    (∀ j, (define e d s).slot j = s.slot j) ∧ (∀ j, (define e d s).claim j = s.claim j) ∧
    (∀ j, (define e d s).act j = s.act j) ∧ (∀ j, (define e d s).alliance j = s.alliance j) ∧
    (∀ j, (define e d s).box j = s.box j) := by
  unfold define; (repeat' split) <;> simp [State.slot, State.elemDef, State.run, State.claim, State.light, State.act, State.elemScore, State.alliance, State.box, State.defined]

@[simp] theorem clearElementFaults_frame (e : Nat) (s : State) :
    (clearElementFaults e s).clock = s.clock ∧ (clearElementFaults e s).roster = s.roster ∧
    (clearElementFaults e s).table.defs = s.table.defs ∧ (clearElementFaults e s).table.capture = s.table.capture ∧
    (clearElementFaults e s).table.repeated = s.table.repeated ∧ (clearElementFaults e s).claims = s.claims ∧
    (clearElementFaults e s).bus.acts = s.bus.acts ∧ (clearElementFaults e s).bus.commandCount = s.bus.commandCount ∧
    (clearElementFaults e s).bus.lastPolled = s.bus.lastPolled ∧
    (clearElementFaults e s).bus.haltPending = s.bus.haltPending ∧ (clearElementFaults e s).bus.pass = s.bus.pass ∧
    (clearElementFaults e s).bus.current = s.bus.current ∧ (clearElementFaults e s).score = s.score ∧
    (clearElementFaults e s).stop = s.stop ∧ (clearElementFaults e s).link = s.link ∧
    (clearElementFaults e s).console = s.console ∧ (clearElementFaults e s).attention = s.attention ∧
    (clearElementFaults e s).settings = s.settings ∧ (clearElementFaults e s).store = s.store ∧
    (clearElementFaults e s).uptime = s.uptime ∧ (clearElementFaults e s).resetAsserted = s.resetAsserted ∧
    (clearElementFaults e s).freeCount = s.freeCount ∧ (clearElementFaults e s).pending = s.pending ∧
    (∀ j, (clearElementFaults e s).slot j = s.slot j) ∧ (∀ j, (clearElementFaults e s).elemDef j = s.elemDef j) ∧
    (∀ j, (clearElementFaults e s).claim j = s.claim j) ∧ (∀ j, (clearElementFaults e s).act j = s.act j) ∧
    (∀ j, (clearElementFaults e s).elemScore j = s.elemScore j) ∧
    (∀ j, (clearElementFaults e s).alliance j = s.alliance j) ∧ (∀ j, (clearElementFaults e s).box j = s.box j) ∧
    (∀ j, (clearElementFaults e s).defined j = s.defined j) := by
  unfold clearElementFaults; dsimp only; (repeat' split) <;> simp [State.slot, State.elemDef, State.run, State.claim, State.light, State.act, State.elemScore, State.alliance, State.box, State.defined]

@[simp] theorem lapse_frame (n : Nat) (s : State) :
    (lapse n s).clock = s.clock ∧ (lapse n s).roster.strangers = s.roster.strangers ∧ (lapse n s).table = s.table ∧
    (lapse n s).claims = s.claims ∧ (lapse n s).bus = s.bus ∧ (lapse n s).lights = s.lights ∧
    (lapse n s).score = s.score ∧ (lapse n s).stop = s.stop ∧ (lapse n s).link = s.link ∧
    (lapse n s).console = s.console ∧ (lapse n s).attention.enables = s.attention.enables ∧
    (lapse n s).settings = s.settings ∧ (lapse n s).store = s.store ∧ (lapse n s).uptime = s.uptime ∧
    (lapse n s).resetAsserted = s.resetAsserted ∧ (lapse n s).freeCount = s.freeCount ∧
    (lapse n s).pending = s.pending ∧ (∀ j, (lapse n s).elemDef j = s.elemDef j) ∧
    (∀ j, (lapse n s).run j = s.run j) ∧ (∀ j, (lapse n s).claim j = s.claim j) ∧
    (∀ j, (lapse n s).light j = s.light j) ∧ (∀ j, (lapse n s).act j = s.act j) ∧
    (∀ j, (lapse n s).elemScore j = s.elemScore j) ∧ (∀ j, (lapse n s).alliance j = s.alliance j) ∧
    (∀ j, (lapse n s).box j = s.box j) ∧ (∀ j, (lapse n s).defined j = s.defined j) := by
  unfold lapse; (repeat' split) <;> simp [State.slot, State.elemDef, State.run, State.claim, State.light, State.act, State.elemScore, State.alliance, State.box, State.defined]

@[simp] theorem fallSilent_frame (n : Nat) (s : State) :
    (fallSilent n s).clock = s.clock ∧ (fallSilent n s).roster.strangers = s.roster.strangers ∧
    (fallSilent n s).table = s.table ∧ (fallSilent n s).bus.acts = s.bus.acts ∧
    (fallSilent n s).bus.commandCount = s.bus.commandCount ∧ (fallSilent n s).bus.lastPolled = s.bus.lastPolled ∧
    (fallSilent n s).bus.haltPending = s.bus.haltPending ∧ (fallSilent n s).bus.pass = s.bus.pass ∧
    (fallSilent n s).bus.current = s.bus.current ∧ (fallSilent n s).score.alliances = s.score.alliances ∧
    (fallSilent n s).stop = s.stop ∧ (fallSilent n s).link = s.link ∧ (fallSilent n s).console = s.console ∧
    (fallSilent n s).attention.enables = s.attention.enables ∧ (fallSilent n s).settings = s.settings ∧
    (fallSilent n s).store = s.store ∧ (fallSilent n s).uptime = s.uptime ∧
    (fallSilent n s).resetAsserted = s.resetAsserted ∧ (fallSilent n s).freeCount = s.freeCount ∧
    (fallSilent n s).pending = s.pending ∧ (∀ j, (fallSilent n s).elemDef j = s.elemDef j) ∧
    (∀ j, (fallSilent n s).run j = s.run j) ∧ (∀ j, (fallSilent n s).act j = s.act j) ∧
    (∀ j, (fallSilent n s).alliance j = s.alliance j) ∧ (∀ j, (fallSilent n s).box j = s.box j) ∧
    (∀ j, (fallSilent n s).defined j = s.defined j) := by
  unfold fallSilent; (repeat' split) <;> simp [State.slot, State.elemDef, State.run, State.claim, State.light, State.act, State.elemScore, State.alliance, State.box, State.defined]

@[simp] theorem revoke_frame (h e : Nat) (b : Bool) (s : State) :
    (revoke h e b s).clock = s.clock ∧ (revoke h e b s).roster.strangers = s.roster.strangers ∧
    (revoke h e b s).table = s.table ∧ (revoke h e b s).bus.acts = s.bus.acts ∧
    (revoke h e b s).bus.commandCount = s.bus.commandCount ∧ (revoke h e b s).bus.lastPolled = s.bus.lastPolled ∧
    (revoke h e b s).bus.haltPending = s.bus.haltPending ∧ (revoke h e b s).bus.pass = s.bus.pass ∧
    (revoke h e b s).bus.current = s.bus.current ∧ (revoke h e b s).score.alliances = s.score.alliances ∧
    (revoke h e b s).stop = s.stop ∧ (revoke h e b s).link = s.link ∧ (revoke h e b s).console = s.console ∧
    (revoke h e b s).attention = s.attention ∧ (revoke h e b s).settings = s.settings ∧
    (revoke h e b s).store = s.store ∧ (revoke h e b s).uptime = s.uptime ∧
    (revoke h e b s).resetAsserted = s.resetAsserted ∧ (revoke h e b s).freeCount = s.freeCount ∧
    (revoke h e b s).pending = s.pending ∧ (∀ j, (revoke h e b s).elemDef j = s.elemDef j) ∧
    (∀ j, (revoke h e b s).run j = s.run j) ∧ (∀ j, (revoke h e b s).act j = s.act j) ∧
    (∀ j, (revoke h e b s).alliance j = s.alliance j) ∧ (∀ j, (revoke h e b s).box j = s.box j) ∧
    (∀ j, (revoke h e b s).defined j = s.defined j) := by
  unfold revoke; (repeat' split) <;> simp [State.slot, State.elemDef, State.run, State.claim, State.light, State.act, State.elemScore, State.alliance, State.box, State.defined]

@[simp] theorem requestFrameEnds_frame (s : State) :
    (requestFrameEnds s).clock = s.clock ∧ (requestFrameEnds s).roster = s.roster ∧
    (requestFrameEnds s).table = s.table ∧ (requestFrameEnds s).claims = s.claims ∧
    (requestFrameEnds s).bus.acts = s.bus.acts ∧ (requestFrameEnds s).bus.pass = s.bus.pass ∧
    (requestFrameEnds s).score = s.score ∧ (requestFrameEnds s).stop = s.stop ∧
    (requestFrameEnds s).link.uplink = s.link.uplink ∧ (requestFrameEnds s).link.boxes = s.link.boxes ∧
    (requestFrameEnds s).console = s.console ∧ (requestFrameEnds s).attention = s.attention ∧
    (requestFrameEnds s).settings = s.settings ∧ (requestFrameEnds s).store = s.store ∧
    (requestFrameEnds s).uptime = s.uptime ∧ (requestFrameEnds s).resetAsserted = s.resetAsserted ∧
    (requestFrameEnds s).freeCount = s.freeCount ∧ (requestFrameEnds s).pending = s.pending ∧
    (∀ j, (requestFrameEnds s).slot j = s.slot j) ∧ (∀ j, (requestFrameEnds s).elemDef j = s.elemDef j) ∧
    (∀ j, (requestFrameEnds s).run j = s.run j) ∧ (∀ j, (requestFrameEnds s).claim j = s.claim j) ∧
    (∀ j, (requestFrameEnds s).act j = s.act j) ∧ (∀ j, (requestFrameEnds s).elemScore j = s.elemScore j) ∧
    (∀ j, (requestFrameEnds s).alliance j = s.alliance j) ∧ (∀ j, (requestFrameEnds s).box j = s.box j) ∧
    (∀ j, (requestFrameEnds s).defined j = s.defined j) := by
  unfold requestFrameEnds; (repeat' split) <;> simp [State.slot, State.elemDef, State.run, State.claim, State.light, State.act, State.elemScore, State.alliance, State.box, State.defined]

@[simp] theorem takeResult_frame (r : BusRequest → BusResult) (s : State) :
    (takeResult r s).clock = s.clock ∧ (takeResult r s).roster.strangers = s.roster.strangers ∧
    (takeResult r s).table.defs = s.table.defs ∧ (takeResult r s).stop = s.stop ∧
    (takeResult r s).link.uplink = s.link.uplink ∧ (takeResult r s).link.boxes = s.link.boxes ∧
    (takeResult r s).console = s.console ∧ (takeResult r s).attention.enables = s.attention.enables ∧
    (takeResult r s).settings = s.settings ∧ (takeResult r s).store = s.store ∧ (takeResult r s).uptime = s.uptime ∧
    (takeResult r s).resetAsserted = s.resetAsserted ∧ (takeResult r s).freeCount = s.freeCount ∧
    (takeResult r s).pending = s.pending ∧ (∀ j, (takeResult r s).elemDef j = s.elemDef j) ∧
    (∀ j, (takeResult r s).box j = s.box j) ∧ (∀ j, (takeResult r s).defined j = s.defined j) := by
  unfold takeResult; (repeat' split) <;> simp [State.slot, State.elemDef, State.run, State.claim, State.light, State.act, State.elemScore, State.alliance, State.box, State.defined]

@[simp] theorem release_frame (s : State) :
    (release s).clock = s.clock ∧ (release s).roster = s.roster ∧ (release s).table = s.table ∧
    (release s).claims = s.claims ∧ (release s).bus = s.bus ∧ (release s).lights = s.lights ∧
    (release s).score = s.score ∧ (release s).link.uplink = s.link.uplink ∧
    (release s).link.replies = s.link.replies ∧ (release s).link.port = s.link.port ∧
    (release s).link.beaconTimer = s.link.beaconTimer ∧ (release s).link.boxes = s.link.boxes ∧
    (release s).console = s.console ∧ (release s).attention.enables = s.attention.enables ∧
    (release s).settings = s.settings ∧ (release s).store = s.store ∧ (release s).uptime = s.uptime ∧
    (release s).resetAsserted = s.resetAsserted ∧ (release s).freeCount = s.freeCount ∧
    (release s).pending = s.pending ∧ (∀ j, (release s).slot j = s.slot j) ∧
    (∀ j, (release s).elemDef j = s.elemDef j) ∧ (∀ j, (release s).run j = s.run j) ∧
    (∀ j, (release s).claim j = s.claim j) ∧ (∀ j, (release s).light j = s.light j) ∧
    (∀ j, (release s).act j = s.act j) ∧ (∀ j, (release s).elemScore j = s.elemScore j) ∧
    (∀ j, (release s).alliance j = s.alliance j) ∧ (∀ j, (release s).box j = s.box j) ∧
    (∀ j, (release s).defined j = s.defined j) := by
  unfold release; (repeat' split) <;> simp [State.slot, State.elemDef, State.run, State.claim, State.light, State.act, State.elemScore, State.alliance, State.box, State.defined]

@[simp] theorem takeTowerSecond_frame (e : Nat) (s : State) :
    (takeTowerSecond e s).clock = s.clock ∧ (takeTowerSecond e s).roster = s.roster ∧
    (takeTowerSecond e s).table = s.table ∧ (takeTowerSecond e s).claims = s.claims ∧
    (takeTowerSecond e s).bus.acts = s.bus.acts ∧ (takeTowerSecond e s).bus.pass = s.bus.pass ∧
    (takeTowerSecond e s).stop = s.stop ∧ (takeTowerSecond e s).link.uplink = s.link.uplink ∧
    (takeTowerSecond e s).link.boxes = s.link.boxes ∧ (takeTowerSecond e s).console = s.console ∧
    (takeTowerSecond e s).attention.enables = s.attention.enables ∧ (takeTowerSecond e s).settings = s.settings ∧
    (takeTowerSecond e s).store = s.store ∧ (takeTowerSecond e s).uptime = s.uptime ∧
    (takeTowerSecond e s).resetAsserted = s.resetAsserted ∧ (takeTowerSecond e s).freeCount = s.freeCount ∧
    (takeTowerSecond e s).pending = s.pending ∧ (∀ j, (takeTowerSecond e s).slot j = s.slot j) ∧
    (∀ j, (takeTowerSecond e s).elemDef j = s.elemDef j) ∧ (∀ j, (takeTowerSecond e s).run j = s.run j) ∧
    (∀ j, (takeTowerSecond e s).claim j = s.claim j) ∧ (∀ j, (takeTowerSecond e s).act j = s.act j) ∧
    (∀ j, (takeTowerSecond e s).box j = s.box j) ∧ (∀ j, (takeTowerSecond e s).defined j = s.defined j) := by
  unfold takeTowerSecond; (repeat' split) <;> simp [State.slot, State.elemDef, State.run, State.claim, State.light, State.act, State.elemScore, State.alliance, State.box, State.defined]

theorem recheckTiers_fold_frame (l : List Nat) (s : State) :
    (l.foldl (fun s n => recheckTier n s) s).clock = s.clock ∧
    (l.foldl (fun s n => recheckTier n s) s).roster.strangers = s.roster.strangers ∧
    (l.foldl (fun s n => recheckTier n s) s).table = s.table ∧
    (l.foldl (fun s n => recheckTier n s) s).bus.acts = s.bus.acts ∧
    (l.foldl (fun s n => recheckTier n s) s).bus.commandCount = s.bus.commandCount ∧
    (l.foldl (fun s n => recheckTier n s) s).bus.lastPolled = s.bus.lastPolled ∧
    (l.foldl (fun s n => recheckTier n s) s).bus.haltPending = s.bus.haltPending ∧
    (l.foldl (fun s n => recheckTier n s) s).bus.pass = s.bus.pass ∧
    (l.foldl (fun s n => recheckTier n s) s).bus.current = s.bus.current ∧
    (l.foldl (fun s n => recheckTier n s) s).score.alliances = s.score.alliances ∧
    (l.foldl (fun s n => recheckTier n s) s).stop = s.stop ∧ (l.foldl (fun s n => recheckTier n s) s).link = s.link ∧
    (l.foldl (fun s n => recheckTier n s) s).console = s.console ∧
    (l.foldl (fun s n => recheckTier n s) s).attention = s.attention ∧
    (l.foldl (fun s n => recheckTier n s) s).settings = s.settings ∧
    (l.foldl (fun s n => recheckTier n s) s).store = s.store ∧
    (l.foldl (fun s n => recheckTier n s) s).uptime = s.uptime ∧
    (l.foldl (fun s n => recheckTier n s) s).resetAsserted = s.resetAsserted ∧
    (l.foldl (fun s n => recheckTier n s) s).freeCount = s.freeCount ∧
    (l.foldl (fun s n => recheckTier n s) s).pending = s.pending ∧
    (∀ j, (l.foldl (fun s n => recheckTier n s) s).elemDef j = s.elemDef j) ∧
    (∀ j, (l.foldl (fun s n => recheckTier n s) s).run j = s.run j) ∧
    (∀ j, (l.foldl (fun s n => recheckTier n s) s).act j = s.act j) ∧
    (∀ j, (l.foldl (fun s n => recheckTier n s) s).alliance j = s.alliance j) ∧
    (∀ j, (l.foldl (fun s n => recheckTier n s) s).box j = s.box j) ∧
    (∀ j, (l.foldl (fun s n => recheckTier n s) s).defined j = s.defined j) := by
  induction l generalizing s with
  | nil => simp
  | cons a l ih => simp only [List.foldl, ih]; simp

@[simp] theorem recheckTiers_frame (s : State) :
    (recheckTiers s).clock = s.clock ∧ (recheckTiers s).roster.strangers = s.roster.strangers ∧
    (recheckTiers s).table = s.table ∧ (recheckTiers s).bus.acts = s.bus.acts ∧
    (recheckTiers s).bus.commandCount = s.bus.commandCount ∧ (recheckTiers s).bus.lastPolled = s.bus.lastPolled ∧
    (recheckTiers s).bus.haltPending = s.bus.haltPending ∧ (recheckTiers s).bus.pass = s.bus.pass ∧
    (recheckTiers s).bus.current = s.bus.current ∧ (recheckTiers s).score.alliances = s.score.alliances ∧
    (recheckTiers s).stop = s.stop ∧ (recheckTiers s).link = s.link ∧ (recheckTiers s).console = s.console ∧
    (recheckTiers s).attention = s.attention ∧ (recheckTiers s).settings = s.settings ∧
    (recheckTiers s).store = s.store ∧ (recheckTiers s).uptime = s.uptime ∧
    (recheckTiers s).resetAsserted = s.resetAsserted ∧ (recheckTiers s).freeCount = s.freeCount ∧
    (recheckTiers s).pending = s.pending ∧ (∀ j, (recheckTiers s).elemDef j = s.elemDef j) ∧
    (∀ j, (recheckTiers s).run j = s.run j) ∧ (∀ j, (recheckTiers s).act j = s.act j) ∧
    (∀ j, (recheckTiers s).alliance j = s.alliance j) ∧ (∀ j, (recheckTiers s).box j = s.box j) ∧
    (∀ j, (recheckTiers s).defined j = s.defined j) := by
  unfold recheckTiers; simp [recheckTiers_fold_frame, State.slot, State.elemDef, State.run, State.claim, State.light, State.act, State.elemScore, State.alliance, State.box, State.defined]

@[simp] theorem joinUplink_frame (f : UplinkFrame) (s : State) :
    (joinUplink f s).clock = s.clock ∧ (joinUplink f s).roster = s.roster ∧ (joinUplink f s).table = s.table ∧
    (joinUplink f s).claims = s.claims ∧ (joinUplink f s).bus = s.bus ∧ (joinUplink f s).lights = s.lights ∧
    (joinUplink f s).score = s.score ∧ (joinUplink f s).stop = s.stop ∧
    (joinUplink f s).link.replies = s.link.replies ∧ (joinUplink f s).link.port = s.link.port ∧
    (joinUplink f s).link.beaconDue = s.link.beaconDue ∧ (joinUplink f s).link.beaconTimer = s.link.beaconTimer ∧
    (joinUplink f s).link.boxes = s.link.boxes ∧ (joinUplink f s).console = s.console ∧
    (joinUplink f s).attention.enables = s.attention.enables ∧ (joinUplink f s).settings = s.settings ∧
    (joinUplink f s).store = s.store ∧ (joinUplink f s).uptime = s.uptime ∧
    (joinUplink f s).resetAsserted = s.resetAsserted ∧ (joinUplink f s).freeCount = s.freeCount ∧
    (joinUplink f s).pending = s.pending ∧ (∀ j, (joinUplink f s).slot j = s.slot j) ∧
    (∀ j, (joinUplink f s).elemDef j = s.elemDef j) ∧ (∀ j, (joinUplink f s).run j = s.run j) ∧
    (∀ j, (joinUplink f s).claim j = s.claim j) ∧ (∀ j, (joinUplink f s).light j = s.light j) ∧
    (∀ j, (joinUplink f s).act j = s.act j) ∧ (∀ j, (joinUplink f s).elemScore j = s.elemScore j) ∧
    (∀ j, (joinUplink f s).alliance j = s.alliance j) ∧ (∀ j, (joinUplink f s).box j = s.box j) ∧
    (∀ j, (joinUplink f s).defined j = s.defined j) := by
  unfold joinUplink; (repeat' split) <;> simp [State.slot, State.elemDef, State.run, State.claim, State.light, State.act, State.elemScore, State.alliance, State.box, State.defined]

@[simp] theorem arrive_frame (b : List Byte) (s : State) :
    (arrive b s).clock = s.clock ∧ (arrive b s).roster = s.roster ∧ (arrive b s).table = s.table ∧
    (arrive b s).claims = s.claims ∧ (arrive b s).bus = s.bus ∧ (arrive b s).lights = s.lights ∧
    (arrive b s).score = s.score ∧ (arrive b s).stop = s.stop ∧ (arrive b s).link.replies = s.link.replies ∧
    (arrive b s).link.port = s.link.port ∧ (arrive b s).link.beaconDue = s.link.beaconDue ∧
    (arrive b s).link.beaconTimer = s.link.beaconTimer ∧ (arrive b s).link.boxes = s.link.boxes ∧
    (arrive b s).console = s.console ∧ (arrive b s).attention.enables = s.attention.enables ∧
    (arrive b s).settings = s.settings ∧ (arrive b s).store = s.store ∧ (arrive b s).uptime = s.uptime ∧
    (arrive b s).resetAsserted = s.resetAsserted ∧ (arrive b s).freeCount = s.freeCount ∧
    (arrive b s).pending = s.pending ∧ (∀ j, (arrive b s).slot j = s.slot j) ∧
    (∀ j, (arrive b s).elemDef j = s.elemDef j) ∧ (∀ j, (arrive b s).run j = s.run j) ∧
    (∀ j, (arrive b s).claim j = s.claim j) ∧ (∀ j, (arrive b s).light j = s.light j) ∧
    (∀ j, (arrive b s).act j = s.act j) ∧ (∀ j, (arrive b s).elemScore j = s.elemScore j) ∧
    (∀ j, (arrive b s).alliance j = s.alliance j) ∧ (∀ j, (arrive b s).box j = s.box j) ∧
    (∀ j, (arrive b s).defined j = s.defined j) := by
  unfold arrive; (repeat' split) <;> simp [State.slot, State.elemDef, State.run, State.claim, State.light, State.act, State.elemScore, State.alliance, State.box, State.defined]

@[simp] theorem helloNew_frame (n : Nat) (k : Word) (t : TierMask) (s : State) :
    (helloNew n k t s).clock = s.clock ∧ (helloNew n k t s).roster.strangers = s.roster.strangers ∧
    (helloNew n k t s).table = s.table ∧ (helloNew n k t s).claims = s.claims ∧ (helloNew n k t s).bus = s.bus ∧
    (helloNew n k t s).lights = s.lights ∧ (helloNew n k t s).score = s.score ∧ (helloNew n k t s).stop = s.stop ∧
    (helloNew n k t s).link.uplink = s.link.uplink ∧ (helloNew n k t s).link.port = s.link.port ∧
    (helloNew n k t s).link.beaconDue = s.link.beaconDue ∧ (helloNew n k t s).link.beaconTimer = s.link.beaconTimer ∧
    (helloNew n k t s).link.boxes = s.link.boxes ∧ (helloNew n k t s).console = s.console ∧
    (helloNew n k t s).attention.enables = s.attention.enables ∧ (helloNew n k t s).settings = s.settings ∧
    (helloNew n k t s).store = s.store ∧ (helloNew n k t s).uptime = s.uptime ∧
    (helloNew n k t s).resetAsserted = s.resetAsserted ∧ (helloNew n k t s).freeCount = s.freeCount ∧
    (helloNew n k t s).pending = s.pending ∧ (∀ j, (helloNew n k t s).elemDef j = s.elemDef j) ∧
    (∀ j, (helloNew n k t s).run j = s.run j) ∧ (∀ j, (helloNew n k t s).claim j = s.claim j) ∧
    (∀ j, (helloNew n k t s).light j = s.light j) ∧ (∀ j, (helloNew n k t s).act j = s.act j) ∧
    (∀ j, (helloNew n k t s).elemScore j = s.elemScore j) ∧ (∀ j, (helloNew n k t s).alliance j = s.alliance j) ∧
    (∀ j, (helloNew n k t s).box j = s.box j) ∧ (∀ j, (helloNew n k t s).defined j = s.defined j) := by
  unfold helloNew; dsimp only; (repeat' split) <;> simp [State.slot, State.elemDef, State.run, State.claim, State.light, State.act, State.elemScore, State.alliance, State.box, State.defined]

@[simp] theorem helloAgain_frame (n : Nat) (s : State) :
    (helloAgain n s).clock = s.clock ∧ (helloAgain n s).roster.strangers = s.roster.strangers ∧
    (helloAgain n s).table = s.table ∧ (helloAgain n s).claims = s.claims ∧ (helloAgain n s).bus = s.bus ∧
    (helloAgain n s).lights = s.lights ∧ (helloAgain n s).score = s.score ∧ (helloAgain n s).stop = s.stop ∧
    (helloAgain n s).link.uplink = s.link.uplink ∧ (helloAgain n s).link.port = s.link.port ∧
    (helloAgain n s).link.beaconDue = s.link.beaconDue ∧ (helloAgain n s).link.beaconTimer = s.link.beaconTimer ∧
    (helloAgain n s).link.boxes = s.link.boxes ∧ (helloAgain n s).console = s.console ∧
    (helloAgain n s).attention.enables = s.attention.enables ∧ (helloAgain n s).settings = s.settings ∧
    (helloAgain n s).store = s.store ∧ (helloAgain n s).uptime = s.uptime ∧
    (helloAgain n s).resetAsserted = s.resetAsserted ∧ (helloAgain n s).freeCount = s.freeCount ∧
    (helloAgain n s).pending = s.pending ∧ (∀ j, (helloAgain n s).elemDef j = s.elemDef j) ∧
    (∀ j, (helloAgain n s).run j = s.run j) ∧ (∀ j, (helloAgain n s).claim j = s.claim j) ∧
    (∀ j, (helloAgain n s).light j = s.light j) ∧ (∀ j, (helloAgain n s).act j = s.act j) ∧
    (∀ j, (helloAgain n s).elemScore j = s.elemScore j) ∧ (∀ j, (helloAgain n s).alliance j = s.alliance j) ∧
    (∀ j, (helloAgain n s).box j = s.box j) ∧ (∀ j, (helloAgain n s).defined j = s.defined j) := by
  unfold helloAgain; (repeat' split) <;> simp [State.slot, State.elemDef, State.run, State.claim, State.light, State.act, State.elemScore, State.alliance, State.box, State.defined]

@[simp] theorem helloReboot_frame (n : Nat) (k : Word) (t : TierMask) (s : State) :
    (helloReboot n k t s).clock = s.clock ∧ (helloReboot n k t s).roster.strangers = s.roster.strangers ∧
    (helloReboot n k t s).table = s.table ∧ (helloReboot n k t s).bus.acts = s.bus.acts ∧
    (helloReboot n k t s).bus.commandCount = s.bus.commandCount ∧
    (helloReboot n k t s).bus.lastPolled = s.bus.lastPolled ∧
    (helloReboot n k t s).bus.haltPending = s.bus.haltPending ∧ (helloReboot n k t s).bus.pass = s.bus.pass ∧
    (helloReboot n k t s).bus.current = s.bus.current ∧ (helloReboot n k t s).score.alliances = s.score.alliances ∧
    (helloReboot n k t s).stop = s.stop ∧ (helloReboot n k t s).link.uplink = s.link.uplink ∧
    (helloReboot n k t s).link.port = s.link.port ∧ (helloReboot n k t s).link.beaconDue = s.link.beaconDue ∧
    (helloReboot n k t s).link.beaconTimer = s.link.beaconTimer ∧ (helloReboot n k t s).link.boxes = s.link.boxes ∧
    (helloReboot n k t s).console = s.console ∧ (helloReboot n k t s).attention.enables = s.attention.enables ∧
    (helloReboot n k t s).settings = s.settings ∧ (helloReboot n k t s).store = s.store ∧
    (helloReboot n k t s).uptime = s.uptime ∧ (helloReboot n k t s).resetAsserted = s.resetAsserted ∧
    (helloReboot n k t s).freeCount = s.freeCount ∧ (helloReboot n k t s).pending = s.pending ∧
    (∀ j, (helloReboot n k t s).elemDef j = s.elemDef j) ∧ (∀ j, (helloReboot n k t s).run j = s.run j) ∧
    (∀ j, (helloReboot n k t s).act j = s.act j) ∧ (∀ j, (helloReboot n k t s).alliance j = s.alliance j) ∧
    (∀ j, (helloReboot n k t s).box j = s.box j) ∧ (∀ j, (helloReboot n k t s).defined j = s.defined j) := by
  unfold helloReboot; dsimp only; (repeat' split) <;> simp [State.slot, State.elemDef, State.run, State.claim, State.light, State.act, State.elemScore, State.alliance, State.box, State.defined]

@[simp] theorem serveHello_frame (k : Word) (t : Byte) (s : State) :
    (serveHello k t s).clock = s.clock ∧ (serveHello k t s).table = s.table ∧
    (serveHello k t s).bus.acts = s.bus.acts ∧ (serveHello k t s).bus.commandCount = s.bus.commandCount ∧
    (serveHello k t s).bus.lastPolled = s.bus.lastPolled ∧ (serveHello k t s).bus.haltPending = s.bus.haltPending ∧
    (serveHello k t s).bus.pass = s.bus.pass ∧ (serveHello k t s).bus.current = s.bus.current ∧
    (serveHello k t s).score.alliances = s.score.alliances ∧ (serveHello k t s).stop = s.stop ∧
    (serveHello k t s).link.uplink = s.link.uplink ∧ (serveHello k t s).link.port = s.link.port ∧
    (serveHello k t s).link.beaconDue = s.link.beaconDue ∧ (serveHello k t s).link.beaconTimer = s.link.beaconTimer ∧
    (serveHello k t s).link.boxes = s.link.boxes ∧ (serveHello k t s).console = s.console ∧
    (serveHello k t s).attention.enables = s.attention.enables ∧ (serveHello k t s).settings = s.settings ∧
    (serveHello k t s).store = s.store ∧ (serveHello k t s).uptime = s.uptime ∧
    (serveHello k t s).resetAsserted = s.resetAsserted ∧ (serveHello k t s).freeCount = s.freeCount ∧
    (serveHello k t s).pending = s.pending ∧ (∀ j, (serveHello k t s).elemDef j = s.elemDef j) ∧
    (∀ j, (serveHello k t s).run j = s.run j) ∧ (∀ j, (serveHello k t s).act j = s.act j) ∧
    (∀ j, (serveHello k t s).alliance j = s.alliance j) ∧ (∀ j, (serveHello k t s).box j = s.box j) ∧
    (∀ j, (serveHello k t s).defined j = s.defined j) := by
  unfold serveHello; (repeat' split) <;> simp [State.slot, State.elemDef, State.run, State.claim, State.light, State.act, State.elemScore, State.alliance, State.box, State.defined]

@[simp] theorem serveConfirm_frame (f : UplinkFrame) (t : Nat) (s : State) :
    (serveConfirm f t s).clock = s.clock ∧ (serveConfirm f t s).roster.strangers = s.roster.strangers ∧
    (serveConfirm f t s).table = s.table ∧ (serveConfirm f t s).claims = s.claims ∧
    (serveConfirm f t s).bus = s.bus ∧ (serveConfirm f t s).lights = s.lights ∧
    (serveConfirm f t s).score = s.score ∧ (serveConfirm f t s).stop = s.stop ∧
    (serveConfirm f t s).link.uplink = s.link.uplink ∧ (serveConfirm f t s).link.port = s.link.port ∧
    (serveConfirm f t s).link.beaconDue = s.link.beaconDue ∧
    (serveConfirm f t s).link.beaconTimer = s.link.beaconTimer ∧ (serveConfirm f t s).link.boxes = s.link.boxes ∧
    (serveConfirm f t s).console = s.console ∧ (serveConfirm f t s).attention.enables = s.attention.enables ∧
    (serveConfirm f t s).settings = s.settings ∧ (serveConfirm f t s).store = s.store ∧
    (serveConfirm f t s).uptime = s.uptime ∧ (serveConfirm f t s).resetAsserted = s.resetAsserted ∧
    (serveConfirm f t s).freeCount = s.freeCount ∧ (serveConfirm f t s).pending = s.pending ∧
    (∀ j, (serveConfirm f t s).elemDef j = s.elemDef j) ∧ (∀ j, (serveConfirm f t s).run j = s.run j) ∧
    (∀ j, (serveConfirm f t s).claim j = s.claim j) ∧ (∀ j, (serveConfirm f t s).light j = s.light j) ∧
    (∀ j, (serveConfirm f t s).act j = s.act j) ∧ (∀ j, (serveConfirm f t s).elemScore j = s.elemScore j) ∧
    (∀ j, (serveConfirm f t s).alliance j = s.alliance j) ∧ (∀ j, (serveConfirm f t s).box j = s.box j) ∧
    (∀ j, (serveConfirm f t s).defined j = s.defined j) := by
  unfold serveConfirm; dsimp only; (repeat' split) <;> simp [State.slot, State.elemDef, State.run, State.claim, State.light, State.act, State.elemScore, State.alliance, State.box, State.defined]

@[simp] theorem serveBye_frame (f : UplinkFrame) (s : State) :
    (serveBye f s).clock = s.clock ∧ (serveBye f s).roster.strangers = s.roster.strangers ∧
    (serveBye f s).table = s.table ∧ (serveBye f s).bus.acts = s.bus.acts ∧
    (serveBye f s).bus.commandCount = s.bus.commandCount ∧ (serveBye f s).bus.lastPolled = s.bus.lastPolled ∧
    (serveBye f s).bus.haltPending = s.bus.haltPending ∧ (serveBye f s).bus.pass = s.bus.pass ∧
    (serveBye f s).bus.current = s.bus.current ∧ (serveBye f s).score.alliances = s.score.alliances ∧
    (serveBye f s).stop = s.stop ∧ (serveBye f s).link.uplink = s.link.uplink ∧
    (serveBye f s).link.port = s.link.port ∧ (serveBye f s).link.beaconDue = s.link.beaconDue ∧
    (serveBye f s).link.beaconTimer = s.link.beaconTimer ∧ (serveBye f s).link.boxes = s.link.boxes ∧
    (serveBye f s).console = s.console ∧ (serveBye f s).attention.enables = s.attention.enables ∧
    (serveBye f s).settings = s.settings ∧ (serveBye f s).store = s.store ∧ (serveBye f s).uptime = s.uptime ∧
    (serveBye f s).resetAsserted = s.resetAsserted ∧ (serveBye f s).freeCount = s.freeCount ∧
    (serveBye f s).pending = s.pending ∧ (∀ j, (serveBye f s).elemDef j = s.elemDef j) ∧
    (∀ j, (serveBye f s).run j = s.run j) ∧ (∀ j, (serveBye f s).act j = s.act j) ∧
    (∀ j, (serveBye f s).alliance j = s.alliance j) ∧ (∀ j, (serveBye f s).box j = s.box j) ∧
    (∀ j, (serveBye f s).defined j = s.defined j) := by
  unfold serveBye; (repeat' split) <;> simp [State.slot, State.elemDef, State.run, State.claim, State.light, State.act, State.elemScore, State.alliance, State.box, State.defined]

@[simp] theorem turnAway_frame (f : UplinkFrame) (a : Option AnswerCode) (s : State) :
    (turnAway f a s).clock = s.clock ∧ (turnAway f a s).roster = s.roster ∧ (turnAway f a s).table = s.table ∧
    (turnAway f a s).claims = s.claims ∧ (turnAway f a s).bus = s.bus ∧ (turnAway f a s).lights = s.lights ∧
    (turnAway f a s).score = s.score ∧ (turnAway f a s).stop = s.stop ∧
    (turnAway f a s).link.uplink = s.link.uplink ∧ (turnAway f a s).link.port = s.link.port ∧
    (turnAway f a s).link.beaconDue = s.link.beaconDue ∧ (turnAway f a s).link.beaconTimer = s.link.beaconTimer ∧
    (turnAway f a s).link.boxes = s.link.boxes ∧ (turnAway f a s).console = s.console ∧
    (turnAway f a s).attention.enables = s.attention.enables ∧ (turnAway f a s).settings = s.settings ∧
    (turnAway f a s).store = s.store ∧ (turnAway f a s).uptime = s.uptime ∧
    (turnAway f a s).resetAsserted = s.resetAsserted ∧ (turnAway f a s).freeCount = s.freeCount ∧
    (turnAway f a s).pending = s.pending ∧ (∀ j, (turnAway f a s).slot j = s.slot j) ∧
    (∀ j, (turnAway f a s).elemDef j = s.elemDef j) ∧ (∀ j, (turnAway f a s).run j = s.run j) ∧
    (∀ j, (turnAway f a s).claim j = s.claim j) ∧ (∀ j, (turnAway f a s).light j = s.light j) ∧
    (∀ j, (turnAway f a s).act j = s.act j) ∧ (∀ j, (turnAway f a s).elemScore j = s.elemScore j) ∧
    (∀ j, (turnAway f a s).alliance j = s.alliance j) ∧ (∀ j, (turnAway f a s).box j = s.box j) ∧
    (∀ j, (turnAway f a s).defined j = s.defined j) := by
  unfold turnAway; (repeat' split) <;> simp [State.slot, State.elemDef, State.run, State.claim, State.light, State.act, State.elemScore, State.alliance, State.box, State.defined]

@[simp] theorem serveClaim_frame (f : UplinkFrame) (e : Nat) (s : State) :
    (serveClaim f e s).clock = s.clock ∧ (serveClaim f e s).roster.strangers = s.roster.strangers ∧
    (serveClaim f e s).table = s.table ∧ (serveClaim f e s).bus.acts = s.bus.acts ∧
    (serveClaim f e s).bus.commandCount = s.bus.commandCount ∧ (serveClaim f e s).bus.lastPolled = s.bus.lastPolled ∧
    (serveClaim f e s).bus.haltPending = s.bus.haltPending ∧ (serveClaim f e s).bus.pass = s.bus.pass ∧
    (serveClaim f e s).bus.current = s.bus.current ∧ (serveClaim f e s).score.alliances = s.score.alliances ∧
    (serveClaim f e s).stop = s.stop ∧ (serveClaim f e s).link.uplink = s.link.uplink ∧
    (serveClaim f e s).link.port = s.link.port ∧ (serveClaim f e s).link.beaconDue = s.link.beaconDue ∧
    (serveClaim f e s).link.beaconTimer = s.link.beaconTimer ∧ (serveClaim f e s).link.boxes = s.link.boxes ∧
    (serveClaim f e s).console = s.console ∧ (serveClaim f e s).attention.enables = s.attention.enables ∧
    (serveClaim f e s).settings = s.settings ∧ (serveClaim f e s).store = s.store ∧
    (serveClaim f e s).uptime = s.uptime ∧ (serveClaim f e s).resetAsserted = s.resetAsserted ∧
    (serveClaim f e s).freeCount = s.freeCount ∧ (serveClaim f e s).pending = s.pending ∧
    (∀ j, (serveClaim f e s).elemDef j = s.elemDef j) ∧ (∀ j, (serveClaim f e s).run j = s.run j) ∧
    (∀ j, (serveClaim f e s).act j = s.act j) ∧ (∀ j, (serveClaim f e s).alliance j = s.alliance j) ∧
    (∀ j, (serveClaim f e s).box j = s.box j) ∧ (∀ j, (serveClaim f e s).defined j = s.defined j) := by
  unfold serveClaim; (repeat' split) <;> simp [State.slot, State.elemDef, State.run, State.claim, State.light, State.act, State.elemScore, State.alliance, State.box, State.defined]

@[simp] theorem serveRelease_frame (f : UplinkFrame) (e : Nat) (s : State) :
    (serveRelease f e s).clock = s.clock ∧ (serveRelease f e s).roster.strangers = s.roster.strangers ∧
    (serveRelease f e s).table = s.table ∧ (serveRelease f e s).bus.acts = s.bus.acts ∧
    (serveRelease f e s).bus.commandCount = s.bus.commandCount ∧
    (serveRelease f e s).bus.lastPolled = s.bus.lastPolled ∧
    (serveRelease f e s).bus.haltPending = s.bus.haltPending ∧ (serveRelease f e s).bus.pass = s.bus.pass ∧
    (serveRelease f e s).bus.current = s.bus.current ∧ (serveRelease f e s).score.alliances = s.score.alliances ∧
    (serveRelease f e s).stop = s.stop ∧ (serveRelease f e s).link.uplink = s.link.uplink ∧
    (serveRelease f e s).link.port = s.link.port ∧ (serveRelease f e s).link.beaconDue = s.link.beaconDue ∧
    (serveRelease f e s).link.beaconTimer = s.link.beaconTimer ∧ (serveRelease f e s).link.boxes = s.link.boxes ∧
    (serveRelease f e s).console = s.console ∧ (serveRelease f e s).attention.enables = s.attention.enables ∧
    (serveRelease f e s).settings = s.settings ∧ (serveRelease f e s).store = s.store ∧
    (serveRelease f e s).uptime = s.uptime ∧ (serveRelease f e s).resetAsserted = s.resetAsserted ∧
    (serveRelease f e s).freeCount = s.freeCount ∧ (serveRelease f e s).pending = s.pending ∧
    (∀ j, (serveRelease f e s).elemDef j = s.elemDef j) ∧ (∀ j, (serveRelease f e s).run j = s.run j) ∧
    (∀ j, (serveRelease f e s).act j = s.act j) ∧ (∀ j, (serveRelease f e s).alliance j = s.alliance j) ∧
    (∀ j, (serveRelease f e s).box j = s.box j) ∧ (∀ j, (serveRelease f e s).defined j = s.defined j) := by
  unfold serveRelease; (repeat' split) <;> simp [State.slot, State.elemDef, State.run, State.claim, State.light, State.act, State.elemScore, State.alliance, State.box, State.defined]

@[simp] theorem acceptActuate_frame (n e a : Nat) (s : State) :
    ((acceptActuate n e a s).1).clock = s.clock ∧ ((acceptActuate n e a s).1).roster = s.roster ∧
    ((acceptActuate n e a s).1).table = s.table ∧ ((acceptActuate n e a s).1).claims = s.claims ∧
    ((acceptActuate n e a s).1).bus.commandCount = s.bus.commandCount ∧
    ((acceptActuate n e a s).1).bus.lastPolled = s.bus.lastPolled ∧
    ((acceptActuate n e a s).1).bus.haltPending = s.bus.haltPending ∧
    ((acceptActuate n e a s).1).bus.pass = s.bus.pass ∧ ((acceptActuate n e a s).1).bus.current = s.bus.current ∧
    ((acceptActuate n e a s).1).lights = s.lights ∧ ((acceptActuate n e a s).1).score.alliances = s.score.alliances ∧
    ((acceptActuate n e a s).1).stop = s.stop ∧ ((acceptActuate n e a s).1).link = s.link ∧
    ((acceptActuate n e a s).1).console = s.console ∧ ((acceptActuate n e a s).1).attention = s.attention ∧
    ((acceptActuate n e a s).1).settings = s.settings ∧ ((acceptActuate n e a s).1).store = s.store ∧
    ((acceptActuate n e a s).1).uptime = s.uptime ∧ ((acceptActuate n e a s).1).resetAsserted = s.resetAsserted ∧
    ((acceptActuate n e a s).1).freeCount = s.freeCount ∧ ((acceptActuate n e a s).1).pending = s.pending ∧
    (∀ j, ((acceptActuate n e a s).1).slot j = s.slot j) ∧
    (∀ j, ((acceptActuate n e a s).1).elemDef j = s.elemDef j) ∧ (∀ j, ((acceptActuate n e a s).1).run j = s.run j) ∧
    (∀ j, ((acceptActuate n e a s).1).claim j = s.claim j) ∧ (∀ j, ((acceptActuate n e a s).1).light j = s.light j) ∧
    (∀ j, ((acceptActuate n e a s).1).alliance j = s.alliance j) ∧
    (∀ j, ((acceptActuate n e a s).1).box j = s.box j) ∧
    (∀ j, ((acceptActuate n e a s).1).defined j = s.defined j) := by
  unfold acceptActuate; (repeat' split) <;> simp [State.slot, State.elemDef, State.run, State.claim, State.light, State.act, State.elemScore, State.alliance, State.box, State.defined]

@[simp] theorem serveActuate_frame (f : UplinkFrame) (e a : Nat) (s : State) :
    (serveActuate f e a s).clock = s.clock ∧ (serveActuate f e a s).roster = s.roster ∧
    (serveActuate f e a s).table = s.table ∧ (serveActuate f e a s).claims = s.claims ∧
    (serveActuate f e a s).bus.commandCount = s.bus.commandCount ∧
    (serveActuate f e a s).bus.lastPolled = s.bus.lastPolled ∧
    (serveActuate f e a s).bus.haltPending = s.bus.haltPending ∧ (serveActuate f e a s).bus.pass = s.bus.pass ∧
    (serveActuate f e a s).bus.current = s.bus.current ∧ (serveActuate f e a s).lights = s.lights ∧
    (serveActuate f e a s).score.alliances = s.score.alliances ∧ (serveActuate f e a s).stop = s.stop ∧
    (serveActuate f e a s).link.uplink = s.link.uplink ∧ (serveActuate f e a s).link.port = s.link.port ∧
    (serveActuate f e a s).link.beaconDue = s.link.beaconDue ∧
    (serveActuate f e a s).link.beaconTimer = s.link.beaconTimer ∧ (serveActuate f e a s).link.boxes = s.link.boxes ∧
    (serveActuate f e a s).console = s.console ∧ (serveActuate f e a s).attention.enables = s.attention.enables ∧
    (serveActuate f e a s).settings = s.settings ∧ (serveActuate f e a s).store = s.store ∧
    (serveActuate f e a s).uptime = s.uptime ∧ (serveActuate f e a s).resetAsserted = s.resetAsserted ∧
    (serveActuate f e a s).freeCount = s.freeCount ∧ (serveActuate f e a s).pending = s.pending ∧
    (∀ j, (serveActuate f e a s).slot j = s.slot j) ∧ (∀ j, (serveActuate f e a s).elemDef j = s.elemDef j) ∧
    (∀ j, (serveActuate f e a s).run j = s.run j) ∧ (∀ j, (serveActuate f e a s).claim j = s.claim j) ∧
    (∀ j, (serveActuate f e a s).light j = s.light j) ∧ (∀ j, (serveActuate f e a s).alliance j = s.alliance j) ∧
    (∀ j, (serveActuate f e a s).box j = s.box j) ∧ (∀ j, (serveActuate f e a s).defined j = s.defined j) := by
  unfold serveActuate; (repeat' split) <;> simp [State.slot, State.elemDef, State.run, State.claim, State.light, State.act, State.elemScore, State.alliance, State.box, State.defined]

@[simp] theorem serveRobotPut_frame (f : UplinkFrame) (b : List Byte) (s : State) :
    (serveRobotPut f b s).clock = s.clock ∧ (serveRobotPut f b s).roster = s.roster ∧
    (serveRobotPut f b s).table = s.table ∧ (serveRobotPut f b s).claims = s.claims ∧
    (serveRobotPut f b s).bus = s.bus ∧ (serveRobotPut f b s).lights = s.lights ∧
    (serveRobotPut f b s).score = s.score ∧ (serveRobotPut f b s).stop = s.stop ∧
    (serveRobotPut f b s).link.uplink = s.link.uplink ∧ (serveRobotPut f b s).link.port = s.link.port ∧
    (serveRobotPut f b s).link.beaconDue = s.link.beaconDue ∧
    (serveRobotPut f b s).link.beaconTimer = s.link.beaconTimer ∧ (serveRobotPut f b s).console = s.console ∧
    (serveRobotPut f b s).attention.enables = s.attention.enables ∧ (serveRobotPut f b s).settings = s.settings ∧
    (serveRobotPut f b s).store = s.store ∧ (serveRobotPut f b s).uptime = s.uptime ∧
    (serveRobotPut f b s).resetAsserted = s.resetAsserted ∧ (serveRobotPut f b s).freeCount = s.freeCount ∧
    (serveRobotPut f b s).pending = s.pending ∧ (∀ j, (serveRobotPut f b s).slot j = s.slot j) ∧
    (∀ j, (serveRobotPut f b s).elemDef j = s.elemDef j) ∧ (∀ j, (serveRobotPut f b s).run j = s.run j) ∧
    (∀ j, (serveRobotPut f b s).claim j = s.claim j) ∧ (∀ j, (serveRobotPut f b s).light j = s.light j) ∧
    (∀ j, (serveRobotPut f b s).act j = s.act j) ∧ (∀ j, (serveRobotPut f b s).elemScore j = s.elemScore j) ∧
    (∀ j, (serveRobotPut f b s).alliance j = s.alliance j) ∧
    (∀ j, (serveRobotPut f b s).defined j = s.defined j) := by
  unfold serveRobotPut; (repeat' split) <;> simp [State.slot, State.elemDef, State.run, State.claim, State.light, State.act, State.elemScore, State.alliance, State.box, State.defined]

@[simp] theorem serveRobotRead_frame (f : UplinkFrame) (o : Nat) (s : State) :
    (serveRobotRead f o s).clock = s.clock ∧ (serveRobotRead f o s).roster = s.roster ∧
    (serveRobotRead f o s).table = s.table ∧ (serveRobotRead f o s).claims = s.claims ∧
    (serveRobotRead f o s).bus = s.bus ∧ (serveRobotRead f o s).lights = s.lights ∧
    (serveRobotRead f o s).score = s.score ∧ (serveRobotRead f o s).stop = s.stop ∧
    (serveRobotRead f o s).link.uplink = s.link.uplink ∧ (serveRobotRead f o s).link.port = s.link.port ∧
    (serveRobotRead f o s).link.beaconDue = s.link.beaconDue ∧
    (serveRobotRead f o s).link.beaconTimer = s.link.beaconTimer ∧ (serveRobotRead f o s).console = s.console ∧
    (serveRobotRead f o s).attention.enables = s.attention.enables ∧ (serveRobotRead f o s).settings = s.settings ∧
    (serveRobotRead f o s).store = s.store ∧ (serveRobotRead f o s).uptime = s.uptime ∧
    (serveRobotRead f o s).resetAsserted = s.resetAsserted ∧ (serveRobotRead f o s).freeCount = s.freeCount ∧
    (serveRobotRead f o s).pending = s.pending ∧ (∀ j, (serveRobotRead f o s).slot j = s.slot j) ∧
    (∀ j, (serveRobotRead f o s).elemDef j = s.elemDef j) ∧ (∀ j, (serveRobotRead f o s).run j = s.run j) ∧
    (∀ j, (serveRobotRead f o s).claim j = s.claim j) ∧ (∀ j, (serveRobotRead f o s).light j = s.light j) ∧
    (∀ j, (serveRobotRead f o s).act j = s.act j) ∧ (∀ j, (serveRobotRead f o s).elemScore j = s.elemScore j) ∧
    (∀ j, (serveRobotRead f o s).alliance j = s.alliance j) ∧
    (∀ j, (serveRobotRead f o s).defined j = s.defined j) := by
  unfold serveRobotRead; (repeat' split) <;> simp [State.slot, State.elemDef, State.run, State.claim, State.light, State.act, State.elemScore, State.alliance, State.box, State.defined]

@[simp] theorem dispatchFrame_frame (f : UplinkFrame) (s : State) :
    (dispatchFrame f s).clock = s.clock ∧ (dispatchFrame f s).table = s.table ∧
    (dispatchFrame f s).bus.commandCount = s.bus.commandCount ∧
    (dispatchFrame f s).bus.lastPolled = s.bus.lastPolled ∧ (dispatchFrame f s).bus.haltPending = s.bus.haltPending ∧
    (dispatchFrame f s).bus.pass = s.bus.pass ∧ (dispatchFrame f s).bus.current = s.bus.current ∧
    (dispatchFrame f s).score.alliances = s.score.alliances ∧ (dispatchFrame f s).stop = s.stop ∧
    (dispatchFrame f s).link.uplink = s.link.uplink ∧ (dispatchFrame f s).link.port = s.link.port ∧
    (dispatchFrame f s).link.beaconDue = s.link.beaconDue ∧
    (dispatchFrame f s).link.beaconTimer = s.link.beaconTimer ∧ (dispatchFrame f s).console = s.console ∧
    (dispatchFrame f s).attention.enables = s.attention.enables ∧ (dispatchFrame f s).settings = s.settings ∧
    (dispatchFrame f s).store = s.store ∧ (dispatchFrame f s).uptime = s.uptime ∧
    (dispatchFrame f s).resetAsserted = s.resetAsserted ∧ (dispatchFrame f s).freeCount = s.freeCount ∧
    (dispatchFrame f s).pending = s.pending ∧ (∀ j, (dispatchFrame f s).elemDef j = s.elemDef j) ∧
    (∀ j, (dispatchFrame f s).run j = s.run j) ∧ (∀ j, (dispatchFrame f s).alliance j = s.alliance j) ∧
    (∀ j, (dispatchFrame f s).defined j = s.defined j) := by
  unfold dispatchFrame; (repeat' split) <;> simp [State.slot, State.elemDef, State.run, State.claim, State.light, State.act, State.elemScore, State.alliance, State.box, State.defined, servePresence]

@[simp] theorem serveFrame_frame (f : UplinkFrame) (s : State) :
    (serveFrame f s).clock = s.clock ∧ (serveFrame f s).table = s.table ∧ (serveFrame f s).bus.pass = s.bus.pass ∧
    (serveFrame f s).score.alliances = s.score.alliances ∧ (serveFrame f s).stop = s.stop ∧
    (serveFrame f s).link.uplink = s.link.uplink ∧ (serveFrame f s).console = s.console ∧
    (serveFrame f s).attention.enables = s.attention.enables ∧ (serveFrame f s).settings = s.settings ∧
    (serveFrame f s).store = s.store ∧ (serveFrame f s).uptime = s.uptime ∧
    (serveFrame f s).resetAsserted = s.resetAsserted ∧ (serveFrame f s).freeCount = s.freeCount ∧
    (serveFrame f s).pending = s.pending ∧ (∀ j, (serveFrame f s).elemDef j = s.elemDef j) ∧
    (∀ j, (serveFrame f s).run j = s.run j) ∧ (∀ j, (serveFrame f s).alliance j = s.alliance j) ∧
    (∀ j, (serveFrame f s).defined j = s.defined j) := by
  unfold serveFrame; (repeat' split) <;> simp [State.slot, State.elemDef, State.run, State.claim, State.light, State.act, State.elemScore, State.alliance, State.box, State.defined]

@[simp] theorem takeFrame_frame (f : UplinkFrame) (s : State) :
    (takeFrame f s).clock = s.clock ∧ (takeFrame f s).table = s.table ∧ (takeFrame f s).bus.pass = s.bus.pass ∧
    (takeFrame f s).score.alliances = s.score.alliances ∧ (takeFrame f s).stop = s.stop ∧
    (takeFrame f s).console = s.console ∧ (takeFrame f s).attention.enables = s.attention.enables ∧
    (takeFrame f s).settings = s.settings ∧ (takeFrame f s).store = s.store ∧ (takeFrame f s).uptime = s.uptime ∧
    (takeFrame f s).resetAsserted = s.resetAsserted ∧ (takeFrame f s).freeCount = s.freeCount ∧
    (takeFrame f s).pending = s.pending ∧ (∀ j, (takeFrame f s).elemDef j = s.elemDef j) ∧
    (∀ j, (takeFrame f s).run j = s.run j) ∧ (∀ j, (takeFrame f s).alliance j = s.alliance j) ∧
    (∀ j, (takeFrame f s).defined j = s.defined j) := by
  unfold takeFrame; (repeat' split) <;> simp [State.slot, State.elemDef, State.run, State.claim, State.light, State.act, State.elemScore, State.alliance, State.box, State.defined]

@[simp] theorem freePort_frame (s : State) :
    (freePort s).clock = s.clock ∧ (freePort s).roster = s.roster ∧ (freePort s).table = s.table ∧
    (freePort s).claims = s.claims ∧ (freePort s).bus = s.bus ∧ (freePort s).lights = s.lights ∧
    (freePort s).score = s.score ∧ (freePort s).stop = s.stop ∧ (freePort s).link.uplink = s.link.uplink ∧
    (freePort s).link.boxes = s.link.boxes ∧ (freePort s).console = s.console ∧
    (freePort s).attention = s.attention ∧ (freePort s).settings = s.settings ∧ (freePort s).store = s.store ∧
    (freePort s).uptime = s.uptime ∧ (freePort s).resetAsserted = s.resetAsserted ∧
    (freePort s).freeCount = s.freeCount ∧ (freePort s).pending = s.pending ∧ (∀ j, (freePort s).slot j = s.slot j) ∧
    (∀ j, (freePort s).elemDef j = s.elemDef j) ∧ (∀ j, (freePort s).run j = s.run j) ∧
    (∀ j, (freePort s).claim j = s.claim j) ∧ (∀ j, (freePort s).light j = s.light j) ∧
    (∀ j, (freePort s).act j = s.act j) ∧ (∀ j, (freePort s).elemScore j = s.elemScore j) ∧
    (∀ j, (freePort s).alliance j = s.alliance j) ∧ (∀ j, (freePort s).box j = s.box j) ∧
    (∀ j, (freePort s).defined j = s.defined j) := by
  unfold freePort; (repeat' split) <;> simp [State.slot, State.elemDef, State.run, State.claim, State.light, State.act, State.elemScore, State.alliance, State.box, State.defined]

@[simp] theorem beaconInterval_frame (s : State) :
    (beaconInterval s).clock = s.clock ∧ (beaconInterval s).roster = s.roster ∧ (beaconInterval s).table = s.table ∧
    (beaconInterval s).claims = s.claims ∧ (beaconInterval s).bus = s.bus ∧ (beaconInterval s).lights = s.lights ∧
    (beaconInterval s).score = s.score ∧ (beaconInterval s).stop = s.stop ∧
    (beaconInterval s).link.uplink = s.link.uplink ∧ (beaconInterval s).link.boxes = s.link.boxes ∧
    (beaconInterval s).console = s.console ∧ (beaconInterval s).attention = s.attention ∧
    (beaconInterval s).settings = s.settings ∧ (beaconInterval s).store = s.store ∧
    (beaconInterval s).uptime = s.uptime ∧ (beaconInterval s).resetAsserted = s.resetAsserted ∧
    (beaconInterval s).freeCount = s.freeCount ∧ (beaconInterval s).pending = s.pending ∧
    (∀ j, (beaconInterval s).slot j = s.slot j) ∧ (∀ j, (beaconInterval s).elemDef j = s.elemDef j) ∧
    (∀ j, (beaconInterval s).run j = s.run j) ∧ (∀ j, (beaconInterval s).claim j = s.claim j) ∧
    (∀ j, (beaconInterval s).light j = s.light j) ∧ (∀ j, (beaconInterval s).act j = s.act j) ∧
    (∀ j, (beaconInterval s).elemScore j = s.elemScore j) ∧ (∀ j, (beaconInterval s).alliance j = s.alliance j) ∧
    (∀ j, (beaconInterval s).box j = s.box j) ∧ (∀ j, (beaconInterval s).defined j = s.defined j) := by
  unfold beaconInterval; (repeat' split) <;> simp [State.slot, State.elemDef, State.run, State.claim, State.light, State.act, State.elemScore, State.alliance, State.box, State.defined]

@[simp] theorem completeStore_frame (s : State) :
    (completeStore s).clock = s.clock ∧ (completeStore s).roster = s.roster ∧ (completeStore s).table = s.table ∧
    (completeStore s).claims = s.claims ∧ (completeStore s).bus = s.bus ∧ (completeStore s).lights = s.lights ∧
    (completeStore s).score = s.score ∧ (completeStore s).stop = s.stop ∧ (completeStore s).link = s.link ∧
    (completeStore s).console = s.console ∧ (completeStore s).attention.enables = s.attention.enables ∧
    (completeStore s).settings = s.settings ∧ (completeStore s).uptime = s.uptime ∧
    (completeStore s).resetAsserted = s.resetAsserted ∧ (completeStore s).freeCount = s.freeCount ∧
    (completeStore s).pending = s.pending ∧ (∀ j, (completeStore s).slot j = s.slot j) ∧
    (∀ j, (completeStore s).elemDef j = s.elemDef j) ∧ (∀ j, (completeStore s).run j = s.run j) ∧
    (∀ j, (completeStore s).claim j = s.claim j) ∧ (∀ j, (completeStore s).light j = s.light j) ∧
    (∀ j, (completeStore s).act j = s.act j) ∧ (∀ j, (completeStore s).elemScore j = s.elemScore j) ∧
    (∀ j, (completeStore s).alliance j = s.alliance j) ∧ (∀ j, (completeStore s).box j = s.box j) ∧
    (∀ j, (completeStore s).defined j = s.defined j) := by
  unfold completeStore; (repeat' split) <;> simp [State.slot, State.elemDef, State.run, State.claim, State.light, State.act, State.elemScore, State.alliance, State.box, State.defined]

@[simp] theorem releaseReset_frame (s : State) :
    (releaseReset s).clock = s.clock ∧ (releaseReset s).roster = s.roster ∧ (releaseReset s).table = s.table ∧
    (releaseReset s).claims = s.claims ∧ (releaseReset s).bus.acts = s.bus.acts ∧
    (releaseReset s).bus.pass = s.bus.pass ∧ (releaseReset s).score = s.score ∧
    (releaseReset s).stop.stopped = s.stop.stopped ∧ (releaseReset s).link.uplink = s.link.uplink ∧
    (releaseReset s).link.boxes = s.link.boxes ∧ (releaseReset s).console = s.console ∧
    (releaseReset s).attention = s.attention ∧ (releaseReset s).settings = s.settings ∧
    (releaseReset s).store = s.store ∧ (releaseReset s).uptime = s.uptime ∧
    (releaseReset s).freeCount = s.freeCount ∧ (releaseReset s).pending = s.pending := by
  unfold releaseReset; (repeat' split) <;> simp

-- Time and bits

/-- A running timer reads at least 1 (R68). -/
theorem leftReported_pos (us : Nat) : 1 ≤ leftReported us := Nat.le_max_left _ _

/-- Before its expiry the time left is reported rounded up (R4). -/
theorem leftReported_of_pos (us : Nat) (h : 0 < us) : leftReported us = roundUp us := by
  unfold leftReported roundUp; omega

/-- A command is due under a condition exactly when the condition holds. -/
theorem mem_dueIf (c : Bool) (i j : Instr) : i ∈ dueIf c j ↔ c = true ∧ i = j := by
  unfold dueIf; split <;> simp_all

/-- A byte's bits, least significant first, give the byte (R190). -/
theorem byte_bitsValue (b : Byte) : byte (bitsValue (byteBits b)) = b := by revert b; decide

/-- The bits of a frame's first byte go out before those of the rest (R190). -/
theorem lineBits_cons (b : Byte) (rest : List Byte) : lineBits (b :: rest) = byteBits b ++ lineBits rest := rfl

end Sys2Proof.Machine
end

