-- ==== Sys2Proof/Laws/SlotFrames.lean ====
section
/-! SUPPORT. The operations on claims reach a slot record in its two counts alone (R19, R67). -/

namespace Sys2Proof.Machine

set_option linter.unusedSimpArgs false
set_option linter.unnecessarySeqFocus false
set_option linter.unusedTactic false
set_option linter.unreachableTactic false

@[simp] theorem countHold_slot (n : Nat) (up : Bool) (s : State) (j : Nat) :
    ((countHold n up s).slot j).state = (s.slot j).state ∧ ((countHold n up s).slot j).kit = (s.slot j).kit ∧
    ((countHold n up s).slot j).alliance = (s.slot j).alliance ∧ ((countHold n up s).slot j).team = (s.slot j).team ∧
    ((countHold n up s).slot j).permitted = (s.slot j).permitted ∧
    ((countHold n up s).slot j).lastAd = (s.slot j).lastAd ∧ ((countHold n up s).slot j).tier = (s.slot j).tier ∧
    ((countHold n up s).slot j).cap = (s.slot j).cap ∧ ((countHold n up s).slot j).attempts = (s.slot j).attempts ∧
    ((countHold n up s).slot j).wasLost = (s.slot j).wasLost ∧
    ((countHold n up s).slot j).disable = (s.slot j).disable ∧
    ((countHold n up s).slot j).confirmTimer = (s.slot j).confirmTimer ∧
    ((countHold n up s).slot j).silenceTimer = (s.slot j).silenceTimer ∧
    ((countHold n up s).slot j).restoreTimer = (s.slot j).restoreTimer := by
  unfold countHold; simp only [slot_modSlot]; split <;> rename_i h <;> simp [h]

@[simp] theorem countWait_slot (n : Nat) (up : Bool) (s : State) (j : Nat) :
    ((countWait n up s).slot j).state = (s.slot j).state ∧ ((countWait n up s).slot j).kit = (s.slot j).kit ∧
    ((countWait n up s).slot j).alliance = (s.slot j).alliance ∧ ((countWait n up s).slot j).team = (s.slot j).team ∧
    ((countWait n up s).slot j).permitted = (s.slot j).permitted ∧
    ((countWait n up s).slot j).lastAd = (s.slot j).lastAd ∧ ((countWait n up s).slot j).tier = (s.slot j).tier ∧
    ((countWait n up s).slot j).cap = (s.slot j).cap ∧ ((countWait n up s).slot j).attempts = (s.slot j).attempts ∧
    ((countWait n up s).slot j).wasLost = (s.slot j).wasLost ∧
    ((countWait n up s).slot j).disable = (s.slot j).disable ∧
    ((countWait n up s).slot j).confirmTimer = (s.slot j).confirmTimer ∧
    ((countWait n up s).slot j).silenceTimer = (s.slot j).silenceTimer ∧
    ((countWait n up s).slot j).restoreTimer = (s.slot j).restoreTimer := by
  unfold countWait; simp only [slot_modSlot]; split <;> rename_i h <;> simp [h]

@[simp] theorem leaveList_slot (n e : Nat) (s : State) (j : Nat) :
    ((leaveList n e s).slot j).state = (s.slot j).state ∧ ((leaveList n e s).slot j).kit = (s.slot j).kit ∧
    ((leaveList n e s).slot j).alliance = (s.slot j).alliance ∧ ((leaveList n e s).slot j).team = (s.slot j).team ∧
    ((leaveList n e s).slot j).permitted = (s.slot j).permitted ∧
    ((leaveList n e s).slot j).lastAd = (s.slot j).lastAd ∧ ((leaveList n e s).slot j).tier = (s.slot j).tier ∧
    ((leaveList n e s).slot j).cap = (s.slot j).cap ∧ ((leaveList n e s).slot j).attempts = (s.slot j).attempts ∧
    ((leaveList n e s).slot j).wasLost = (s.slot j).wasLost ∧
    ((leaveList n e s).slot j).disable = (s.slot j).disable ∧
    ((leaveList n e s).slot j).confirmTimer = (s.slot j).confirmTimer ∧
    ((leaveList n e s).slot j).silenceTimer = (s.slot j).silenceTimer ∧
    ((leaveList n e s).slot j).restoreTimer = (s.slot j).restoreTimer := by
  unfold leaveList; (repeat' split) <;> simp <;> (try simp [State.slot])

theorem leaveAllLists_fold_slot (n : Nat) (l : List Nat) (s : State) (j : Nat) :
    (((l.foldl (fun s e => leaveList n e s) s)).slot j).state = (s.slot j).state ∧
    (((l.foldl (fun s e => leaveList n e s) s)).slot j).kit = (s.slot j).kit ∧
    (((l.foldl (fun s e => leaveList n e s) s)).slot j).alliance = (s.slot j).alliance ∧
    (((l.foldl (fun s e => leaveList n e s) s)).slot j).team = (s.slot j).team ∧
    (((l.foldl (fun s e => leaveList n e s) s)).slot j).permitted = (s.slot j).permitted ∧
    (((l.foldl (fun s e => leaveList n e s) s)).slot j).lastAd = (s.slot j).lastAd ∧
    (((l.foldl (fun s e => leaveList n e s) s)).slot j).tier = (s.slot j).tier ∧
    (((l.foldl (fun s e => leaveList n e s) s)).slot j).cap = (s.slot j).cap ∧
    (((l.foldl (fun s e => leaveList n e s) s)).slot j).attempts = (s.slot j).attempts ∧
    (((l.foldl (fun s e => leaveList n e s) s)).slot j).wasLost = (s.slot j).wasLost ∧
    (((l.foldl (fun s e => leaveList n e s) s)).slot j).disable = (s.slot j).disable ∧
    (((l.foldl (fun s e => leaveList n e s) s)).slot j).confirmTimer = (s.slot j).confirmTimer ∧
    (((l.foldl (fun s e => leaveList n e s) s)).slot j).silenceTimer = (s.slot j).silenceTimer ∧
    (((l.foldl (fun s e => leaveList n e s) s)).slot j).restoreTimer = (s.slot j).restoreTimer := by
  induction l generalizing s with
  | nil => simp
  | cons a l ih => simp only [List.foldl, ih]; simp

@[simp] theorem leaveAllLists_slot (n : Nat) (s : State) (j : Nat) :
    ((leaveAllLists n s).slot j).state = (s.slot j).state ∧ ((leaveAllLists n s).slot j).kit = (s.slot j).kit ∧
    ((leaveAllLists n s).slot j).alliance = (s.slot j).alliance ∧
    ((leaveAllLists n s).slot j).team = (s.slot j).team ∧
    ((leaveAllLists n s).slot j).permitted = (s.slot j).permitted ∧
    ((leaveAllLists n s).slot j).lastAd = (s.slot j).lastAd ∧ ((leaveAllLists n s).slot j).tier = (s.slot j).tier ∧
    ((leaveAllLists n s).slot j).cap = (s.slot j).cap ∧ ((leaveAllLists n s).slot j).attempts = (s.slot j).attempts ∧
    ((leaveAllLists n s).slot j).wasLost = (s.slot j).wasLost ∧
    ((leaveAllLists n s).slot j).disable = (s.slot j).disable ∧
    ((leaveAllLists n s).slot j).confirmTimer = (s.slot j).confirmTimer ∧
    ((leaveAllLists n s).slot j).silenceTimer = (s.slot j).silenceTimer ∧
    ((leaveAllLists n s).slot j).restoreTimer = (s.slot j).restoreTimer := by
  unfold leaveAllLists; simp only [slot_modSlot]; split <;> rename_i h <;> simp [leaveAllLists_fold_slot, h]

@[simp] theorem becomeHolder_slot (n e : Nat) (s : State) (j : Nat) :
    ((becomeHolder n e s).slot j).state = (s.slot j).state ∧ ((becomeHolder n e s).slot j).kit = (s.slot j).kit ∧
    ((becomeHolder n e s).slot j).alliance = (s.slot j).alliance ∧
    ((becomeHolder n e s).slot j).team = (s.slot j).team ∧
    ((becomeHolder n e s).slot j).permitted = (s.slot j).permitted ∧
    ((becomeHolder n e s).slot j).lastAd = (s.slot j).lastAd ∧ ((becomeHolder n e s).slot j).tier = (s.slot j).tier ∧
    ((becomeHolder n e s).slot j).cap = (s.slot j).cap ∧
    ((becomeHolder n e s).slot j).attempts = (s.slot j).attempts ∧
    ((becomeHolder n e s).slot j).wasLost = (s.slot j).wasLost ∧
    ((becomeHolder n e s).slot j).disable = (s.slot j).disable ∧
    ((becomeHolder n e s).slot j).confirmTimer = (s.slot j).confirmTimer ∧
    ((becomeHolder n e s).slot j).silenceTimer = (s.slot j).silenceTimer ∧
    ((becomeHolder n e s).slot j).restoreTimer = (s.slot j).restoreTimer := by
  unfold becomeHolder; dsimp only; (repeat' split) <;> simp <;> (try simp [State.slot])

@[simp] theorem handover_slot (e : Nat) (s : State) (j : Nat) :
    ((handover e s).slot j).state = (s.slot j).state ∧ ((handover e s).slot j).kit = (s.slot j).kit ∧
    ((handover e s).slot j).alliance = (s.slot j).alliance ∧ ((handover e s).slot j).team = (s.slot j).team ∧
    ((handover e s).slot j).permitted = (s.slot j).permitted ∧ ((handover e s).slot j).lastAd = (s.slot j).lastAd ∧
    ((handover e s).slot j).tier = (s.slot j).tier ∧ ((handover e s).slot j).cap = (s.slot j).cap ∧
    ((handover e s).slot j).attempts = (s.slot j).attempts ∧ ((handover e s).slot j).wasLost = (s.slot j).wasLost ∧
    ((handover e s).slot j).disable = (s.slot j).disable ∧
    ((handover e s).slot j).confirmTimer = (s.slot j).confirmTimer ∧
    ((handover e s).slot j).silenceTimer = (s.slot j).silenceTimer ∧
    ((handover e s).slot j).restoreTimer = (s.slot j).restoreTimer := by
  unfold handover; (repeat' split) <;> simp <;> (try simp [State.slot])

@[simp] theorem dropHolder_slot (e : Nat) (s : State) (j : Nat) :
    ((dropHolder e s).slot j).state = (s.slot j).state ∧ ((dropHolder e s).slot j).kit = (s.slot j).kit ∧
    ((dropHolder e s).slot j).alliance = (s.slot j).alliance ∧ ((dropHolder e s).slot j).team = (s.slot j).team ∧
    ((dropHolder e s).slot j).permitted = (s.slot j).permitted ∧
    ((dropHolder e s).slot j).lastAd = (s.slot j).lastAd ∧ ((dropHolder e s).slot j).tier = (s.slot j).tier ∧
    ((dropHolder e s).slot j).cap = (s.slot j).cap ∧ ((dropHolder e s).slot j).attempts = (s.slot j).attempts ∧
    ((dropHolder e s).slot j).wasLost = (s.slot j).wasLost ∧ ((dropHolder e s).slot j).disable = (s.slot j).disable ∧
    ((dropHolder e s).slot j).confirmTimer = (s.slot j).confirmTimer ∧
    ((dropHolder e s).slot j).silenceTimer = (s.slot j).silenceTimer ∧
    ((dropHolder e s).slot j).restoreTimer = (s.slot j).restoreTimer := by
  unfold dropHolder; (repeat' split) <;> simp <;> (try simp [State.slot])

@[simp] theorem endHold_slot (e : Nat) (s : State) (j : Nat) :
    ((endHold e s).slot j).state = (s.slot j).state ∧ ((endHold e s).slot j).kit = (s.slot j).kit ∧
    ((endHold e s).slot j).alliance = (s.slot j).alliance ∧ ((endHold e s).slot j).team = (s.slot j).team ∧
    ((endHold e s).slot j).permitted = (s.slot j).permitted ∧ ((endHold e s).slot j).lastAd = (s.slot j).lastAd ∧
    ((endHold e s).slot j).tier = (s.slot j).tier ∧ ((endHold e s).slot j).cap = (s.slot j).cap ∧
    ((endHold e s).slot j).attempts = (s.slot j).attempts ∧ ((endHold e s).slot j).wasLost = (s.slot j).wasLost ∧
    ((endHold e s).slot j).disable = (s.slot j).disable ∧
    ((endHold e s).slot j).confirmTimer = (s.slot j).confirmTimer ∧
    ((endHold e s).slot j).silenceTimer = (s.slot j).silenceTimer ∧
    ((endHold e s).slot j).restoreTimer = (s.slot j).restoreTimer := by
  unfold endHold; (repeat' split) <;> simp <;> (try simp [State.slot])

@[simp] theorem joinList_slot (n e : Nat) (s : State) (j : Nat) :
    ((joinList n e s).slot j).state = (s.slot j).state ∧ ((joinList n e s).slot j).kit = (s.slot j).kit ∧
    ((joinList n e s).slot j).alliance = (s.slot j).alliance ∧ ((joinList n e s).slot j).team = (s.slot j).team ∧
    ((joinList n e s).slot j).permitted = (s.slot j).permitted ∧
    ((joinList n e s).slot j).lastAd = (s.slot j).lastAd ∧ ((joinList n e s).slot j).tier = (s.slot j).tier ∧
    ((joinList n e s).slot j).cap = (s.slot j).cap ∧ ((joinList n e s).slot j).attempts = (s.slot j).attempts ∧
    ((joinList n e s).slot j).wasLost = (s.slot j).wasLost ∧ ((joinList n e s).slot j).disable = (s.slot j).disable ∧
    ((joinList n e s).slot j).confirmTimer = (s.slot j).confirmTimer ∧
    ((joinList n e s).slot j).silenceTimer = (s.slot j).silenceTimer ∧
    ((joinList n e s).slot j).restoreTimer = (s.slot j).restoreTimer := by
  unfold joinList; (repeat' split) <;> simp <;> (try simp [State.slot])

@[simp] theorem endHoldOf_slot (n e : Nat) (s : State) (j : Nat) :
    ((endHoldOf n e s).slot j).state = (s.slot j).state ∧ ((endHoldOf n e s).slot j).kit = (s.slot j).kit ∧
    ((endHoldOf n e s).slot j).alliance = (s.slot j).alliance ∧ ((endHoldOf n e s).slot j).team = (s.slot j).team ∧
    ((endHoldOf n e s).slot j).permitted = (s.slot j).permitted ∧
    ((endHoldOf n e s).slot j).lastAd = (s.slot j).lastAd ∧ ((endHoldOf n e s).slot j).tier = (s.slot j).tier ∧
    ((endHoldOf n e s).slot j).cap = (s.slot j).cap ∧ ((endHoldOf n e s).slot j).attempts = (s.slot j).attempts ∧
    ((endHoldOf n e s).slot j).wasLost = (s.slot j).wasLost ∧
    ((endHoldOf n e s).slot j).disable = (s.slot j).disable ∧
    ((endHoldOf n e s).slot j).confirmTimer = (s.slot j).confirmTimer ∧
    ((endHoldOf n e s).slot j).silenceTimer = (s.slot j).silenceTimer ∧
    ((endHoldOf n e s).slot j).restoreTimer = (s.slot j).restoreTimer := by
  unfold endHoldOf; (repeat' split) <;> simp <;> (try simp [State.slot])

theorem dropClaims_fold_slot (n : Nat) (l : List Nat) (s : State) (j : Nat) :
    (((l.foldl (fun s e => endHoldOf n e s) s)).slot j).state = (s.slot j).state ∧
    (((l.foldl (fun s e => endHoldOf n e s) s)).slot j).kit = (s.slot j).kit ∧
    (((l.foldl (fun s e => endHoldOf n e s) s)).slot j).alliance = (s.slot j).alliance ∧
    (((l.foldl (fun s e => endHoldOf n e s) s)).slot j).team = (s.slot j).team ∧
    (((l.foldl (fun s e => endHoldOf n e s) s)).slot j).permitted = (s.slot j).permitted ∧
    (((l.foldl (fun s e => endHoldOf n e s) s)).slot j).lastAd = (s.slot j).lastAd ∧
    (((l.foldl (fun s e => endHoldOf n e s) s)).slot j).tier = (s.slot j).tier ∧
    (((l.foldl (fun s e => endHoldOf n e s) s)).slot j).cap = (s.slot j).cap ∧
    (((l.foldl (fun s e => endHoldOf n e s) s)).slot j).attempts = (s.slot j).attempts ∧
    (((l.foldl (fun s e => endHoldOf n e s) s)).slot j).wasLost = (s.slot j).wasLost ∧
    (((l.foldl (fun s e => endHoldOf n e s) s)).slot j).disable = (s.slot j).disable ∧
    (((l.foldl (fun s e => endHoldOf n e s) s)).slot j).confirmTimer = (s.slot j).confirmTimer ∧
    (((l.foldl (fun s e => endHoldOf n e s) s)).slot j).silenceTimer = (s.slot j).silenceTimer ∧
    (((l.foldl (fun s e => endHoldOf n e s) s)).slot j).restoreTimer = (s.slot j).restoreTimer := by
  induction l generalizing s with
  | nil => simp
  | cons a l ih => simp only [List.foldl, ih]; simp

@[simp] theorem dropClaims_slot (n : Nat) (s : State) (j : Nat) :
    ((dropClaims n s).slot j).state = (s.slot j).state ∧ ((dropClaims n s).slot j).kit = (s.slot j).kit ∧
    ((dropClaims n s).slot j).alliance = (s.slot j).alliance ∧ ((dropClaims n s).slot j).team = (s.slot j).team ∧
    ((dropClaims n s).slot j).permitted = (s.slot j).permitted ∧
    ((dropClaims n s).slot j).lastAd = (s.slot j).lastAd ∧ ((dropClaims n s).slot j).tier = (s.slot j).tier ∧
    ((dropClaims n s).slot j).cap = (s.slot j).cap ∧ ((dropClaims n s).slot j).attempts = (s.slot j).attempts ∧
    ((dropClaims n s).slot j).wasLost = (s.slot j).wasLost ∧ ((dropClaims n s).slot j).disable = (s.slot j).disable ∧
    ((dropClaims n s).slot j).confirmTimer = (s.slot j).confirmTimer ∧
    ((dropClaims n s).slot j).silenceTimer = (s.slot j).silenceTimer ∧
    ((dropClaims n s).slot j).restoreTimer = (s.slot j).restoreTimer := by
  unfold dropClaims; simp [dropClaims_fold_slot]

theorem emptyElement_fold_slot (l : List Nat) (s : State) (j : Nat) :
    (((l.foldl (fun s n => countWait n false s) s)).slot j).state = (s.slot j).state ∧
    (((l.foldl (fun s n => countWait n false s) s)).slot j).kit = (s.slot j).kit ∧
    (((l.foldl (fun s n => countWait n false s) s)).slot j).alliance = (s.slot j).alliance ∧
    (((l.foldl (fun s n => countWait n false s) s)).slot j).team = (s.slot j).team ∧
    (((l.foldl (fun s n => countWait n false s) s)).slot j).permitted = (s.slot j).permitted ∧
    (((l.foldl (fun s n => countWait n false s) s)).slot j).lastAd = (s.slot j).lastAd ∧
    (((l.foldl (fun s n => countWait n false s) s)).slot j).tier = (s.slot j).tier ∧
    (((l.foldl (fun s n => countWait n false s) s)).slot j).cap = (s.slot j).cap ∧
    (((l.foldl (fun s n => countWait n false s) s)).slot j).attempts = (s.slot j).attempts ∧
    (((l.foldl (fun s n => countWait n false s) s)).slot j).wasLost = (s.slot j).wasLost ∧
    (((l.foldl (fun s n => countWait n false s) s)).slot j).disable = (s.slot j).disable ∧
    (((l.foldl (fun s n => countWait n false s) s)).slot j).confirmTimer = (s.slot j).confirmTimer ∧
    (((l.foldl (fun s n => countWait n false s) s)).slot j).silenceTimer = (s.slot j).silenceTimer ∧
    (((l.foldl (fun s n => countWait n false s) s)).slot j).restoreTimer = (s.slot j).restoreTimer := by
  induction l generalizing s with
  | nil => simp
  | cons a l ih => simp only [List.foldl, ih]; simp

@[simp] theorem emptyElement_slot (e : Nat) (s : State) (j : Nat) :
    ((emptyElement e s).slot j).state = (s.slot j).state ∧ ((emptyElement e s).slot j).kit = (s.slot j).kit ∧
    ((emptyElement e s).slot j).alliance = (s.slot j).alliance ∧ ((emptyElement e s).slot j).team = (s.slot j).team ∧
    ((emptyElement e s).slot j).permitted = (s.slot j).permitted ∧
    ((emptyElement e s).slot j).lastAd = (s.slot j).lastAd ∧ ((emptyElement e s).slot j).tier = (s.slot j).tier ∧
    ((emptyElement e s).slot j).cap = (s.slot j).cap ∧ ((emptyElement e s).slot j).attempts = (s.slot j).attempts ∧
    ((emptyElement e s).slot j).wasLost = (s.slot j).wasLost ∧
    ((emptyElement e s).slot j).disable = (s.slot j).disable ∧
    ((emptyElement e s).slot j).confirmTimer = (s.slot j).confirmTimer ∧
    ((emptyElement e s).slot j).silenceTimer = (s.slot j).silenceTimer ∧
    ((emptyElement e s).slot j).restoreTimer = (s.slot j).restoreTimer := by
  unfold emptyElement; simp [emptyElement_fold_slot]

@[simp] theorem clearClaims_slot (s : State) (j : Nat) :
    ((clearClaims s).slot j).state = (s.slot j).state ∧ ((clearClaims s).slot j).kit = (s.slot j).kit ∧
    ((clearClaims s).slot j).alliance = (s.slot j).alliance ∧ ((clearClaims s).slot j).team = (s.slot j).team ∧
    ((clearClaims s).slot j).permitted = (s.slot j).permitted ∧ ((clearClaims s).slot j).lastAd = (s.slot j).lastAd ∧
    ((clearClaims s).slot j).tier = (s.slot j).tier ∧ ((clearClaims s).slot j).cap = (s.slot j).cap ∧
    ((clearClaims s).slot j).attempts = (s.slot j).attempts ∧ ((clearClaims s).slot j).wasLost = (s.slot j).wasLost ∧
    ((clearClaims s).slot j).disable = (s.slot j).disable ∧
    ((clearClaims s).slot j).confirmTimer = (s.slot j).confirmTimer ∧
    ((clearClaims s).slot j).silenceTimer = (s.slot j).silenceTimer ∧
    ((clearClaims s).slot j).restoreTimer = (s.slot j).restoreTimer := by
  unfold clearClaims
  have h (l : List Nat) (s : State) : (l.foldl (fun s e => clearElement e s) s).slot j = s.slot j := by
    simp [clearClaims_fold_frame]
  rw [h]
  unfold State.slot
  rw [at1_mapTable (fun x : Slot => { x with holdCount := 0, waitCount := 0 }) s.roster.slots j vacantSlot vacantSlot rfl]
  simp

@[simp] theorem expireHold_slot (e : Nat) (s : State) (j : Nat) :
    ((expireHold e s).slot j).state = (s.slot j).state ∧ ((expireHold e s).slot j).kit = (s.slot j).kit ∧
    ((expireHold e s).slot j).alliance = (s.slot j).alliance ∧ ((expireHold e s).slot j).team = (s.slot j).team ∧
    ((expireHold e s).slot j).permitted = (s.slot j).permitted ∧
    ((expireHold e s).slot j).lastAd = (s.slot j).lastAd ∧ ((expireHold e s).slot j).tier = (s.slot j).tier ∧
    ((expireHold e s).slot j).cap = (s.slot j).cap ∧ ((expireHold e s).slot j).attempts = (s.slot j).attempts ∧
    ((expireHold e s).slot j).wasLost = (s.slot j).wasLost ∧ ((expireHold e s).slot j).disable = (s.slot j).disable ∧
    ((expireHold e s).slot j).confirmTimer = (s.slot j).confirmTimer ∧
    ((expireHold e s).slot j).silenceTimer = (s.slot j).silenceTimer ∧
    ((expireHold e s).slot j).restoreTimer = (s.slot j).restoreTimer := by
  unfold expireHold; (repeat' split) <;> simp <;> (try simp [State.slot])

@[simp] theorem claimElement_slot (n e : Nat) (s : State) (j : Nat) :
    (((claimElement n e s).1).slot j).state = (s.slot j).state ∧
    (((claimElement n e s).1).slot j).kit = (s.slot j).kit ∧
    (((claimElement n e s).1).slot j).alliance = (s.slot j).alliance ∧
    (((claimElement n e s).1).slot j).team = (s.slot j).team ∧
    (((claimElement n e s).1).slot j).permitted = (s.slot j).permitted ∧
    (((claimElement n e s).1).slot j).lastAd = (s.slot j).lastAd ∧
    (((claimElement n e s).1).slot j).tier = (s.slot j).tier ∧
    (((claimElement n e s).1).slot j).cap = (s.slot j).cap ∧
    (((claimElement n e s).1).slot j).attempts = (s.slot j).attempts ∧
    (((claimElement n e s).1).slot j).wasLost = (s.slot j).wasLost ∧
    (((claimElement n e s).1).slot j).disable = (s.slot j).disable ∧
    (((claimElement n e s).1).slot j).confirmTimer = (s.slot j).confirmTimer ∧
    (((claimElement n e s).1).slot j).silenceTimer = (s.slot j).silenceTimer ∧
    (((claimElement n e s).1).slot j).restoreTimer = (s.slot j).restoreTimer := by
  rcases claimElement_cases n e s with h | h | h <;> simp [h]

@[simp] theorem releaseElement_slot (n e : Nat) (s : State) (j : Nat) :
    (((releaseElement n e s).1).slot j).state = (s.slot j).state ∧
    (((releaseElement n e s).1).slot j).kit = (s.slot j).kit ∧
    (((releaseElement n e s).1).slot j).alliance = (s.slot j).alliance ∧
    (((releaseElement n e s).1).slot j).team = (s.slot j).team ∧
    (((releaseElement n e s).1).slot j).permitted = (s.slot j).permitted ∧
    (((releaseElement n e s).1).slot j).lastAd = (s.slot j).lastAd ∧
    (((releaseElement n e s).1).slot j).tier = (s.slot j).tier ∧
    (((releaseElement n e s).1).slot j).cap = (s.slot j).cap ∧
    (((releaseElement n e s).1).slot j).attempts = (s.slot j).attempts ∧
    (((releaseElement n e s).1).slot j).wasLost = (s.slot j).wasLost ∧
    (((releaseElement n e s).1).slot j).disable = (s.slot j).disable ∧
    (((releaseElement n e s).1).slot j).confirmTimer = (s.slot j).confirmTimer ∧
    (((releaseElement n e s).1).slot j).silenceTimer = (s.slot j).silenceTimer ∧
    (((releaseElement n e s).1).slot j).restoreTimer = (s.slot j).restoreTimer := by
  unfold releaseElement; (repeat' split) <;> simp <;> (try simp [State.slot])

@[simp] theorem revoke_slot (h e : Nat) (b : Bool) (s : State) (j : Nat) :
    ((revoke h e b s).slot j).state = (s.slot j).state ∧ ((revoke h e b s).slot j).kit = (s.slot j).kit ∧
    ((revoke h e b s).slot j).alliance = (s.slot j).alliance ∧ ((revoke h e b s).slot j).team = (s.slot j).team ∧
    ((revoke h e b s).slot j).permitted = (s.slot j).permitted ∧
    ((revoke h e b s).slot j).lastAd = (s.slot j).lastAd ∧ ((revoke h e b s).slot j).tier = (s.slot j).tier ∧
    ((revoke h e b s).slot j).cap = (s.slot j).cap ∧ ((revoke h e b s).slot j).attempts = (s.slot j).attempts ∧
    ((revoke h e b s).slot j).wasLost = (s.slot j).wasLost ∧ ((revoke h e b s).slot j).disable = (s.slot j).disable ∧
    ((revoke h e b s).slot j).confirmTimer = (s.slot j).confirmTimer ∧
    ((revoke h e b s).slot j).silenceTimer = (s.slot j).silenceTimer ∧
    ((revoke h e b s).slot j).restoreTimer = (s.slot j).restoreTimer := by
  unfold revoke; (repeat' split) <;> simp <;> (try simp [State.slot])

@[simp] theorem withdrawNow_slot (e : Nat) (s : State) (j : Nat) :
    ((withdrawNow e s).slot j).state = (s.slot j).state ∧ ((withdrawNow e s).slot j).kit = (s.slot j).kit ∧
    ((withdrawNow e s).slot j).alliance = (s.slot j).alliance ∧ ((withdrawNow e s).slot j).team = (s.slot j).team ∧
    ((withdrawNow e s).slot j).permitted = (s.slot j).permitted ∧
    ((withdrawNow e s).slot j).lastAd = (s.slot j).lastAd ∧ ((withdrawNow e s).slot j).tier = (s.slot j).tier ∧
    ((withdrawNow e s).slot j).cap = (s.slot j).cap ∧ ((withdrawNow e s).slot j).attempts = (s.slot j).attempts ∧
    ((withdrawNow e s).slot j).wasLost = (s.slot j).wasLost ∧
    ((withdrawNow e s).slot j).disable = (s.slot j).disable ∧
    ((withdrawNow e s).slot j).confirmTimer = (s.slot j).confirmTimer ∧
    ((withdrawNow e s).slot j).silenceTimer = (s.slot j).silenceTimer ∧
    ((withdrawNow e s).slot j).restoreTimer = (s.slot j).restoreTimer := by
  unfold withdrawNow; (repeat' split) <;> simp <;> (try simp [State.slot])

@[simp] theorem actuationEnded_slot (e : Nat) (o : ActOutcome) (s : State) (j : Nat) :
    ((actuationEnded e o s).slot j).state = (s.slot j).state ∧ ((actuationEnded e o s).slot j).kit = (s.slot j).kit ∧
    ((actuationEnded e o s).slot j).alliance = (s.slot j).alliance ∧
    ((actuationEnded e o s).slot j).team = (s.slot j).team ∧
    ((actuationEnded e o s).slot j).permitted = (s.slot j).permitted ∧
    ((actuationEnded e o s).slot j).lastAd = (s.slot j).lastAd ∧
    ((actuationEnded e o s).slot j).tier = (s.slot j).tier ∧ ((actuationEnded e o s).slot j).cap = (s.slot j).cap ∧
    ((actuationEnded e o s).slot j).attempts = (s.slot j).attempts ∧
    ((actuationEnded e o s).slot j).wasLost = (s.slot j).wasLost ∧
    ((actuationEnded e o s).slot j).disable = (s.slot j).disable ∧
    ((actuationEnded e o s).slot j).confirmTimer = (s.slot j).confirmTimer ∧
    ((actuationEnded e o s).slot j).silenceTimer = (s.slot j).silenceTimer ∧
    ((actuationEnded e o s).slot j).restoreTimer = (s.slot j).restoreTimer := by
  unfold actuationEnded; dsimp only; (repeat' split) <;> simp <;> (try simp [State.slot])

@[simp] theorem endActuation_slot (e : Nat) (o : ActOutcome) (s : State) (j : Nat) :
    ((endActuation e o s).slot j).state = (s.slot j).state ∧ ((endActuation e o s).slot j).kit = (s.slot j).kit ∧
    ((endActuation e o s).slot j).alliance = (s.slot j).alliance ∧
    ((endActuation e o s).slot j).team = (s.slot j).team ∧
    ((endActuation e o s).slot j).permitted = (s.slot j).permitted ∧
    ((endActuation e o s).slot j).lastAd = (s.slot j).lastAd ∧ ((endActuation e o s).slot j).tier = (s.slot j).tier ∧
    ((endActuation e o s).slot j).cap = (s.slot j).cap ∧
    ((endActuation e o s).slot j).attempts = (s.slot j).attempts ∧
    ((endActuation e o s).slot j).wasLost = (s.slot j).wasLost ∧
    ((endActuation e o s).slot j).disable = (s.slot j).disable ∧
    ((endActuation e o s).slot j).confirmTimer = (s.slot j).confirmTimer ∧
    ((endActuation e o s).slot j).silenceTimer = (s.slot j).silenceTimer ∧
    ((endActuation e o s).slot j).restoreTimer = (s.slot j).restoreTimer := by
  unfold endActuation; (repeat' split) <;> simp <;> (try simp [State.slot])

@[simp] theorem takeStatus_slot (e n : Nat) (s : State) (j : Nat) :
    ((takeStatus e n s).slot j).state = (s.slot j).state ∧ ((takeStatus e n s).slot j).kit = (s.slot j).kit ∧
    ((takeStatus e n s).slot j).alliance = (s.slot j).alliance ∧ ((takeStatus e n s).slot j).team = (s.slot j).team ∧
    ((takeStatus e n s).slot j).permitted = (s.slot j).permitted ∧
    ((takeStatus e n s).slot j).lastAd = (s.slot j).lastAd ∧ ((takeStatus e n s).slot j).tier = (s.slot j).tier ∧
    ((takeStatus e n s).slot j).cap = (s.slot j).cap ∧ ((takeStatus e n s).slot j).attempts = (s.slot j).attempts ∧
    ((takeStatus e n s).slot j).wasLost = (s.slot j).wasLost ∧
    ((takeStatus e n s).slot j).disable = (s.slot j).disable ∧
    ((takeStatus e n s).slot j).confirmTimer = (s.slot j).confirmTimer ∧
    ((takeStatus e n s).slot j).silenceTimer = (s.slot j).silenceTimer ∧
    ((takeStatus e n s).slot j).restoreTimer = (s.slot j).restoreTimer := by
  unfold takeStatus; (repeat' split) <;> simp <;> (try simp [State.slot])

@[simp] theorem pollResult_slot (e : Nat) (r : BusResult) (s : State) (j : Nat) :
    ((pollResult e r s).slot j).state = (s.slot j).state ∧ ((pollResult e r s).slot j).kit = (s.slot j).kit ∧
    ((pollResult e r s).slot j).alliance = (s.slot j).alliance ∧ ((pollResult e r s).slot j).team = (s.slot j).team ∧
    ((pollResult e r s).slot j).permitted = (s.slot j).permitted ∧
    ((pollResult e r s).slot j).lastAd = (s.slot j).lastAd ∧ ((pollResult e r s).slot j).tier = (s.slot j).tier ∧
    ((pollResult e r s).slot j).cap = (s.slot j).cap ∧ ((pollResult e r s).slot j).attempts = (s.slot j).attempts ∧
    ((pollResult e r s).slot j).wasLost = (s.slot j).wasLost ∧
    ((pollResult e r s).slot j).disable = (s.slot j).disable ∧
    ((pollResult e r s).slot j).confirmTimer = (s.slot j).confirmTimer ∧
    ((pollResult e r s).slot j).silenceTimer = (s.slot j).silenceTimer ∧
    ((pollResult e r s).slot j).restoreTimer = (s.slot j).restoreTimer := by
  unfold pollResult; (repeat' split) <;> simp <;> (try simp [State.slot])

@[simp] theorem actuateResult_slot (e : Nat) (r : BusResult) (s : State) (j : Nat) :
    ((actuateResult e r s).slot j).state = (s.slot j).state ∧ ((actuateResult e r s).slot j).kit = (s.slot j).kit ∧
    ((actuateResult e r s).slot j).alliance = (s.slot j).alliance ∧
    ((actuateResult e r s).slot j).team = (s.slot j).team ∧
    ((actuateResult e r s).slot j).permitted = (s.slot j).permitted ∧
    ((actuateResult e r s).slot j).lastAd = (s.slot j).lastAd ∧
    ((actuateResult e r s).slot j).tier = (s.slot j).tier ∧ ((actuateResult e r s).slot j).cap = (s.slot j).cap ∧
    ((actuateResult e r s).slot j).attempts = (s.slot j).attempts ∧
    ((actuateResult e r s).slot j).wasLost = (s.slot j).wasLost ∧
    ((actuateResult e r s).slot j).disable = (s.slot j).disable ∧
    ((actuateResult e r s).slot j).confirmTimer = (s.slot j).confirmTimer ∧
    ((actuateResult e r s).slot j).silenceTimer = (s.slot j).silenceTimer ∧
    ((actuateResult e r s).slot j).restoreTimer = (s.slot j).restoreTimer := by
  unfold actuateResult; (repeat' split) <;> simp <;> (try simp [State.slot])

@[simp] theorem actOnResult_slot (q : BusRequest) (r : BusResult) (s : State) (j : Nat) :
    ((actOnResult q r s).slot j).state = (s.slot j).state ∧ ((actOnResult q r s).slot j).kit = (s.slot j).kit ∧
    ((actOnResult q r s).slot j).alliance = (s.slot j).alliance ∧
    ((actOnResult q r s).slot j).team = (s.slot j).team ∧
    ((actOnResult q r s).slot j).permitted = (s.slot j).permitted ∧
    ((actOnResult q r s).slot j).lastAd = (s.slot j).lastAd ∧ ((actOnResult q r s).slot j).tier = (s.slot j).tier ∧
    ((actOnResult q r s).slot j).cap = (s.slot j).cap ∧ ((actOnResult q r s).slot j).attempts = (s.slot j).attempts ∧
    ((actOnResult q r s).slot j).wasLost = (s.slot j).wasLost ∧
    ((actOnResult q r s).slot j).disable = (s.slot j).disable ∧
    ((actOnResult q r s).slot j).confirmTimer = (s.slot j).confirmTimer ∧
    ((actOnResult q r s).slot j).silenceTimer = (s.slot j).silenceTimer ∧
    ((actOnResult q r s).slot j).restoreTimer = (s.slot j).restoreTimer := by
  unfold actOnResult; (repeat' split) <;> simp <;> (try simp [State.slot])

@[simp] theorem endTransaction_slot (q : BusRequest) (r : BusResult) (s : State) (j : Nat) :
    ((endTransaction q r s).slot j).state = (s.slot j).state ∧ ((endTransaction q r s).slot j).kit = (s.slot j).kit ∧
    ((endTransaction q r s).slot j).alliance = (s.slot j).alliance ∧
    ((endTransaction q r s).slot j).team = (s.slot j).team ∧
    ((endTransaction q r s).slot j).permitted = (s.slot j).permitted ∧
    ((endTransaction q r s).slot j).lastAd = (s.slot j).lastAd ∧
    ((endTransaction q r s).slot j).tier = (s.slot j).tier ∧ ((endTransaction q r s).slot j).cap = (s.slot j).cap ∧
    ((endTransaction q r s).slot j).attempts = (s.slot j).attempts ∧
    ((endTransaction q r s).slot j).wasLost = (s.slot j).wasLost ∧
    ((endTransaction q r s).slot j).disable = (s.slot j).disable ∧
    ((endTransaction q r s).slot j).confirmTimer = (s.slot j).confirmTimer ∧
    ((endTransaction q r s).slot j).silenceTimer = (s.slot j).silenceTimer ∧
    ((endTransaction q r s).slot j).restoreTimer = (s.slot j).restoreTimer := by
  unfold endTransaction; (repeat' split) <;> simp <;> (try simp [State.slot])

@[simp] theorem takeResult_slot (r : BusRequest → BusResult) (s : State) (j : Nat) :
    ((takeResult r s).slot j).state = (s.slot j).state ∧ ((takeResult r s).slot j).kit = (s.slot j).kit ∧
    ((takeResult r s).slot j).alliance = (s.slot j).alliance ∧ ((takeResult r s).slot j).team = (s.slot j).team ∧
    ((takeResult r s).slot j).permitted = (s.slot j).permitted ∧
    ((takeResult r s).slot j).lastAd = (s.slot j).lastAd ∧ ((takeResult r s).slot j).tier = (s.slot j).tier ∧
    ((takeResult r s).slot j).cap = (s.slot j).cap ∧ ((takeResult r s).slot j).attempts = (s.slot j).attempts ∧
    ((takeResult r s).slot j).wasLost = (s.slot j).wasLost ∧ ((takeResult r s).slot j).disable = (s.slot j).disable ∧
    ((takeResult r s).slot j).confirmTimer = (s.slot j).confirmTimer ∧
    ((takeResult r s).slot j).silenceTimer = (s.slot j).silenceTimer ∧
    ((takeResult r s).slot j).restoreTimer = (s.slot j).restoreTimer := by
  unfold takeResult; (repeat' split) <;> simp <;> (try simp [State.slot])

@[simp] theorem discardActuate_slot (x : Entry) (s : State) (j : Nat) :
    ((discardActuate x s).slot j).state = (s.slot j).state ∧ ((discardActuate x s).slot j).kit = (s.slot j).kit ∧
    ((discardActuate x s).slot j).alliance = (s.slot j).alliance ∧
    ((discardActuate x s).slot j).team = (s.slot j).team ∧
    ((discardActuate x s).slot j).permitted = (s.slot j).permitted ∧
    ((discardActuate x s).slot j).lastAd = (s.slot j).lastAd ∧ ((discardActuate x s).slot j).tier = (s.slot j).tier ∧
    ((discardActuate x s).slot j).cap = (s.slot j).cap ∧
    ((discardActuate x s).slot j).attempts = (s.slot j).attempts ∧
    ((discardActuate x s).slot j).wasLost = (s.slot j).wasLost ∧
    ((discardActuate x s).slot j).disable = (s.slot j).disable ∧
    ((discardActuate x s).slot j).confirmTimer = (s.slot j).confirmTimer ∧
    ((discardActuate x s).slot j).silenceTimer = (s.slot j).silenceTimer ∧
    ((discardActuate x s).slot j).restoreTimer = (s.slot j).restoreTimer := by
  unfold discardActuate; (repeat' split) <;> simp <;> (try simp [State.slot])

theorem haltField_fold_slot (l : List Entry) (s : State) (j : Nat) :
    (((l.foldl (fun s x => discardActuate x s) s)).slot j).state = (s.slot j).state ∧
    (((l.foldl (fun s x => discardActuate x s) s)).slot j).kit = (s.slot j).kit ∧
    (((l.foldl (fun s x => discardActuate x s) s)).slot j).alliance = (s.slot j).alliance ∧
    (((l.foldl (fun s x => discardActuate x s) s)).slot j).team = (s.slot j).team ∧
    (((l.foldl (fun s x => discardActuate x s) s)).slot j).permitted = (s.slot j).permitted ∧
    (((l.foldl (fun s x => discardActuate x s) s)).slot j).lastAd = (s.slot j).lastAd ∧
    (((l.foldl (fun s x => discardActuate x s) s)).slot j).tier = (s.slot j).tier ∧
    (((l.foldl (fun s x => discardActuate x s) s)).slot j).cap = (s.slot j).cap ∧
    (((l.foldl (fun s x => discardActuate x s) s)).slot j).attempts = (s.slot j).attempts ∧
    (((l.foldl (fun s x => discardActuate x s) s)).slot j).wasLost = (s.slot j).wasLost ∧
    (((l.foldl (fun s x => discardActuate x s) s)).slot j).disable = (s.slot j).disable ∧
    (((l.foldl (fun s x => discardActuate x s) s)).slot j).confirmTimer = (s.slot j).confirmTimer ∧
    (((l.foldl (fun s x => discardActuate x s) s)).slot j).silenceTimer = (s.slot j).silenceTimer ∧
    (((l.foldl (fun s x => discardActuate x s) s)).slot j).restoreTimer = (s.slot j).restoreTimer := by
  induction l generalizing s with
  | nil => simp
  | cons a l ih => simp only [List.foldl, ih]; simp

@[simp] theorem haltField_slot (s : State) (j : Nat) :
    ((haltField s).slot j).state = (s.slot j).state ∧ ((haltField s).slot j).kit = (s.slot j).kit ∧
    ((haltField s).slot j).alliance = (s.slot j).alliance ∧ ((haltField s).slot j).team = (s.slot j).team ∧
    ((haltField s).slot j).permitted = (s.slot j).permitted ∧ ((haltField s).slot j).lastAd = (s.slot j).lastAd ∧
    ((haltField s).slot j).tier = (s.slot j).tier ∧ ((haltField s).slot j).cap = (s.slot j).cap ∧
    ((haltField s).slot j).attempts = (s.slot j).attempts ∧ ((haltField s).slot j).wasLost = (s.slot j).wasLost ∧
    ((haltField s).slot j).disable = (s.slot j).disable ∧
    ((haltField s).slot j).confirmTimer = (s.slot j).confirmTimer ∧
    ((haltField s).slot j).silenceTimer = (s.slot j).silenceTimer ∧
    ((haltField s).slot j).restoreTimer = (s.slot j).restoreTimer := by
  have h (l : List Entry) (s : State) : (l.foldl (fun s x => discardRaw x s) s).slot j = s.slot j := by
    simp [haltField_raws_frame]
  unfold haltField
  simp only [h, haltField_fold_slot]
  simp [State.slot]

@[simp] theorem enterStop_slot (s : State) (j : Nat) :
    ((enterStop s).slot j).state = (s.slot j).state ∧ ((enterStop s).slot j).kit = (s.slot j).kit ∧
    ((enterStop s).slot j).alliance = (s.slot j).alliance ∧ ((enterStop s).slot j).team = (s.slot j).team ∧
    ((enterStop s).slot j).permitted = (s.slot j).permitted ∧ ((enterStop s).slot j).lastAd = (s.slot j).lastAd ∧
    ((enterStop s).slot j).tier = (s.slot j).tier ∧ ((enterStop s).slot j).cap = (s.slot j).cap ∧
    ((enterStop s).slot j).attempts = (s.slot j).attempts ∧ ((enterStop s).slot j).wasLost = (s.slot j).wasLost ∧
    ((enterStop s).slot j).disable = (s.slot j).disable ∧
    ((enterStop s).slot j).confirmTimer = (s.slot j).confirmTimer ∧
    ((enterStop s).slot j).silenceTimer = (s.slot j).silenceTimer ∧
    ((enterStop s).slot j).restoreTimer = (s.slot j).restoreTimer := by
  unfold enterStop; (repeat' split) <;> simp <;> (try simp [State.slot])

@[simp] theorem causeArrives_slot (c : Cause) (s : State) (j : Nat) :
    ((causeArrives c s).slot j).state = (s.slot j).state ∧ ((causeArrives c s).slot j).kit = (s.slot j).kit ∧
    ((causeArrives c s).slot j).alliance = (s.slot j).alliance ∧ ((causeArrives c s).slot j).team = (s.slot j).team ∧
    ((causeArrives c s).slot j).permitted = (s.slot j).permitted ∧
    ((causeArrives c s).slot j).lastAd = (s.slot j).lastAd ∧ ((causeArrives c s).slot j).tier = (s.slot j).tier ∧
    ((causeArrives c s).slot j).cap = (s.slot j).cap ∧ ((causeArrives c s).slot j).attempts = (s.slot j).attempts ∧
    ((causeArrives c s).slot j).wasLost = (s.slot j).wasLost ∧
    ((causeArrives c s).slot j).disable = (s.slot j).disable ∧
    ((causeArrives c s).slot j).confirmTimer = (s.slot j).confirmTimer ∧
    ((causeArrives c s).slot j).silenceTimer = (s.slot j).silenceTimer ∧
    ((causeArrives c s).slot j).restoreTimer = (s.slot j).restoreTimer := by
  unfold causeArrives; (repeat' split) <;> simp <;> (try simp [State.slot])

@[simp] theorem enterFinished_slot (s : State) (j : Nat) :
    ((enterFinished s).slot j).state = (s.slot j).state ∧ ((enterFinished s).slot j).kit = (s.slot j).kit ∧
    ((enterFinished s).slot j).alliance = (s.slot j).alliance ∧ ((enterFinished s).slot j).team = (s.slot j).team ∧
    ((enterFinished s).slot j).permitted = (s.slot j).permitted ∧
    ((enterFinished s).slot j).lastAd = (s.slot j).lastAd ∧ ((enterFinished s).slot j).tier = (s.slot j).tier ∧
    ((enterFinished s).slot j).cap = (s.slot j).cap ∧ ((enterFinished s).slot j).attempts = (s.slot j).attempts ∧
    ((enterFinished s).slot j).wasLost = (s.slot j).wasLost ∧
    ((enterFinished s).slot j).disable = (s.slot j).disable ∧
    ((enterFinished s).slot j).confirmTimer = (s.slot j).confirmTimer ∧
    ((enterFinished s).slot j).silenceTimer = (s.slot j).silenceTimer ∧
    ((enterFinished s).slot j).restoreTimer = (s.slot j).restoreTimer := by
  unfold enterFinished; (repeat' split) <;> simp <;> (try simp [State.slot])

@[simp] theorem enterGrace_slot (s : State) (j : Nat) :
    ((enterGrace s).slot j).state = (s.slot j).state ∧ ((enterGrace s).slot j).kit = (s.slot j).kit ∧
    ((enterGrace s).slot j).alliance = (s.slot j).alliance ∧ ((enterGrace s).slot j).team = (s.slot j).team ∧
    ((enterGrace s).slot j).permitted = (s.slot j).permitted ∧ ((enterGrace s).slot j).lastAd = (s.slot j).lastAd ∧
    ((enterGrace s).slot j).tier = (s.slot j).tier ∧ ((enterGrace s).slot j).cap = (s.slot j).cap ∧
    ((enterGrace s).slot j).attempts = (s.slot j).attempts ∧ ((enterGrace s).slot j).wasLost = (s.slot j).wasLost ∧
    ((enterGrace s).slot j).disable = (s.slot j).disable ∧
    ((enterGrace s).slot j).confirmTimer = (s.slot j).confirmTimer ∧
    ((enterGrace s).slot j).silenceTimer = (s.slot j).silenceTimer ∧
    ((enterGrace s).slot j).restoreTimer = (s.slot j).restoreTimer := by
  unfold enterGrace; (repeat' split) <;> simp <;> (try simp [State.slot])

@[simp] theorem endLastPeriod_slot (s : State) (j : Nat) :
    ((endLastPeriod s).slot j).state = (s.slot j).state ∧ ((endLastPeriod s).slot j).kit = (s.slot j).kit ∧
    ((endLastPeriod s).slot j).alliance = (s.slot j).alliance ∧ ((endLastPeriod s).slot j).team = (s.slot j).team ∧
    ((endLastPeriod s).slot j).permitted = (s.slot j).permitted ∧
    ((endLastPeriod s).slot j).lastAd = (s.slot j).lastAd ∧ ((endLastPeriod s).slot j).tier = (s.slot j).tier ∧
    ((endLastPeriod s).slot j).cap = (s.slot j).cap ∧ ((endLastPeriod s).slot j).attempts = (s.slot j).attempts ∧
    ((endLastPeriod s).slot j).wasLost = (s.slot j).wasLost ∧
    ((endLastPeriod s).slot j).disable = (s.slot j).disable ∧
    ((endLastPeriod s).slot j).confirmTimer = (s.slot j).confirmTimer ∧
    ((endLastPeriod s).slot j).silenceTimer = (s.slot j).silenceTimer ∧
    ((endLastPeriod s).slot j).restoreTimer = (s.slot j).restoreTimer := by
  unfold endLastPeriod; (repeat' split) <;> simp <;> (try simp [State.slot])

@[simp] theorem nextPeriod_slot (s : State) (j : Nat) :
    ((nextPeriod s).slot j).state = (s.slot j).state ∧ ((nextPeriod s).slot j).kit = (s.slot j).kit ∧
    ((nextPeriod s).slot j).alliance = (s.slot j).alliance ∧ ((nextPeriod s).slot j).team = (s.slot j).team ∧
    ((nextPeriod s).slot j).permitted = (s.slot j).permitted ∧ ((nextPeriod s).slot j).lastAd = (s.slot j).lastAd ∧
    ((nextPeriod s).slot j).tier = (s.slot j).tier ∧ ((nextPeriod s).slot j).cap = (s.slot j).cap ∧
    ((nextPeriod s).slot j).attempts = (s.slot j).attempts ∧ ((nextPeriod s).slot j).wasLost = (s.slot j).wasLost ∧
    ((nextPeriod s).slot j).disable = (s.slot j).disable ∧
    ((nextPeriod s).slot j).confirmTimer = (s.slot j).confirmTimer ∧
    ((nextPeriod s).slot j).silenceTimer = (s.slot j).silenceTimer ∧
    ((nextPeriod s).slot j).restoreTimer = (s.slot j).restoreTimer := by
  unfold nextPeriod; (repeat' split) <;> simp <;> (try simp [State.slot])

@[simp] theorem resumeClock_slot (s : State) (j : Nat) :
    ((resumeClock s).slot j).state = (s.slot j).state ∧ ((resumeClock s).slot j).kit = (s.slot j).kit ∧
    ((resumeClock s).slot j).alliance = (s.slot j).alliance ∧ ((resumeClock s).slot j).team = (s.slot j).team ∧
    ((resumeClock s).slot j).permitted = (s.slot j).permitted ∧ ((resumeClock s).slot j).lastAd = (s.slot j).lastAd ∧
    ((resumeClock s).slot j).tier = (s.slot j).tier ∧ ((resumeClock s).slot j).cap = (s.slot j).cap ∧
    ((resumeClock s).slot j).attempts = (s.slot j).attempts ∧ ((resumeClock s).slot j).wasLost = (s.slot j).wasLost ∧
    ((resumeClock s).slot j).disable = (s.slot j).disable ∧
    ((resumeClock s).slot j).confirmTimer = (s.slot j).confirmTimer ∧
    ((resumeClock s).slot j).silenceTimer = (s.slot j).silenceTimer ∧
    ((resumeClock s).slot j).restoreTimer = (s.slot j).restoreTimer := by
  unfold resumeClock; (repeat' split) <;> simp <;> (try simp [State.slot])

@[simp] theorem expirePeriod_slot (s : State) (j : Nat) :
    ((expirePeriod s).slot j).state = (s.slot j).state ∧ ((expirePeriod s).slot j).kit = (s.slot j).kit ∧
    ((expirePeriod s).slot j).alliance = (s.slot j).alliance ∧ ((expirePeriod s).slot j).team = (s.slot j).team ∧
    ((expirePeriod s).slot j).permitted = (s.slot j).permitted ∧
    ((expirePeriod s).slot j).lastAd = (s.slot j).lastAd ∧ ((expirePeriod s).slot j).tier = (s.slot j).tier ∧
    ((expirePeriod s).slot j).cap = (s.slot j).cap ∧ ((expirePeriod s).slot j).attempts = (s.slot j).attempts ∧
    ((expirePeriod s).slot j).wasLost = (s.slot j).wasLost ∧ ((expirePeriod s).slot j).disable = (s.slot j).disable ∧
    ((expirePeriod s).slot j).confirmTimer = (s.slot j).confirmTimer ∧
    ((expirePeriod s).slot j).silenceTimer = (s.slot j).silenceTimer ∧
    ((expirePeriod s).slot j).restoreTimer = (s.slot j).restoreTimer := by
  unfold expirePeriod; dsimp only; (repeat' split) <;> simp <;> (try simp [State.slot])

end Sys2Proof.Machine
end

