-- ==== Sys2Proof/Tests/Slice0.lean ====
section
/-! SUPPORT. The model's own tests: ill-formed commands, one or two tests for each command on small states, from the
manual's worked examples and tables, and for each obligation that has hypotheses a witness that meets them. -/

set_option maxRecDepth 8000

namespace Sys2Proof.Tests

open Sys2Proof Sys2Proof.Machine

-- Ill-formed commands

/-- Each check of WellFormed refuses a term that fails it alone. -/
theorem test_illFormed_refused :
    (Instr.unknownRequest 0x37).wf = false
      ∧ (Instr.loadPlan 8 0 (List.replicate 24 ⟨1, 10, 8, 0⟩)).wf = false
      ∧ (Instr.passThrough 1 (List.replicate 120 0)).wf = false
      ∧ (Instr.consoleMailPut 1 (List.replicate 120 0)).wf = false := by decide

/-- A slot field above 24, an empty or a long message. -/
theorem test_illFormed_frames_refused :
    (Instr.hello 25 0 0 0).wf = false ∧ (Instr.confirm 25 0 1).wf = false ∧ (Instr.presence 25 0).wf = false
      ∧ (Instr.bye 25 0).wf = false ∧ (Instr.claim 25 0 1).wf = false ∧ (Instr.release 25 0 1).wf = false
      ∧ (Instr.robotActuate 25 0 1 1).wf = false ∧ (Instr.robotMailPut 25 0 [1]).wf = false
      ∧ (Instr.robotMailPut 1 0 []).wf = false ∧ (Instr.robotMailPut 1 0 (List.replicate 49 0)).wf = false
      ∧ (Instr.robotMailRead 25 0 0).wf = false := by decide

/-- A timer of slot 0 or 25, of element 0 or 33. -/
theorem test_illFormed_timers_refused :
    (Instr.confirmTimerExpiry 0).wf = false ∧ (Instr.silenceTimerExpiry 25).wf = false
      ∧ (Instr.restoreTimerExpiry 0).wf = false ∧ (Instr.disableTimerExpiry 25).wf = false
      ∧ (Instr.holdTimerExpiry 0).wf = false ∧ (Instr.cooldownExpiry 33).wf = false
      ∧ (Instr.towerSecond 0).wf = false ∧ (Instr.actuationTimerExpiry 33).wf = false
      ∧ (Instr.pulseTimerExpiry 0).wf = false := by decide

-- Small states

/-- The state after a command. -/
def after (c : Instr) (s : State) : State :=
  match exec c s with
  | .next t => t
  | .fault _ => s
  | .refused _ => s

/-- The outcome and the fields of the reply that a command brought. -/
def answered (c : Instr) (s : State) : Option (OutcomeCode × List Byte) :=
  (after c s).console.held.map fun r => (r.outcome, r.fields)

/-- The answer code and the detail of the last answer that a robot's frame brought, in the reply queue or at the port. -/
def toRobot (c : Instr) (s : State) : Option (AnswerCode × Nat) :=
  match ((after c s).link.port.toList ++ (after c s).link.replies).getLast?.map DownFrame.body with
  | some (.answer _ _ code detail) => some (code, detail)
  | _ => none

/-- A field whose reset stop has been released, with every flag clear and nothing waiting on a link. -/
def calm : State :=
  { State.reset with
    stop := { stopped := false, pin := false, brk := false, console := false, reset := false, stopIn := false }
    bus := { resetBus with haltPending := false }
    link := { resetLink with beaconDue := false }
    attention := { flags := 0, enables := 0 } }

def goalRed : ElementDef := { undefinedElement with kind := .goal, side := some 1, baseValue := 4, controlBonus := 8, minTier := 1, timeout := 1 }
def goalNeutral : ElementDef := { goalRed with side := none, baseValue := 5, controlBonus := 12 }
def gate : ElementDef :=
  { undefinedElement with kind := .gate, controlBonus := 8, minTier := 2, holdLimit := 100, cooldown := 30, timeout := 40 }
def tower : ElementDef := { undefinedElement with kind := .tower, baseValue := 2, controlBonus := 12, minTier := 1, timeout := 1 }
def dispenser : ElementDef :=
  { undefinedElement with kind := .dispenser, controlBonus := 8, minTier := 1, quota := 6, timeout := 60 }

/-- The plan that chapter 7's example ends with. -/
def plan : Plan :=
  { periods := [{ kind := .driver, duration := 1200, factor := 8, holdAtEnd := false },
                { kind := .endgame, duration := 300, factor := 12, holdAtEnd := false }],
    grace := 30 }

/-- The elements of the examples: goals 2 and 6, gates 3 and 5, tower 7, dispensers 12 and 20. -/
def field : State :=
  let s := ((((((calm.setDef 2 goalRed).setDef 6 goalNeutral).setDef 3 gate).setDef 5 gate).setDef 7 tower).setDef 12
    dispenser).setDef 20 dispenser
  { s with clock := { s.clock with plan := some plan }, score := freshScores s.table.defs }

/-- An admitted robot; its kit id is its slot number. -/
def robot (n a tier : Nat) : Slot :=
  { vacantSlot with
    state := .admitted
    kit := BitVec.ofNat 32 n
    alliance := a
    team := 1
    permitted := 0xF
    lastAd := some 0xF
    tier := some tier
    cap := some 60
    silenceTimer := some 500000 }

/-- A registered robot that has not announced itself. -/
def expected (n a : Nat) : Slot :=
  { robot n a 1 with state := .expected, lastAd := none, tier := none, cap := none, silenceTimer := none }

/-- STAGING with slots 2 and 14 (Red) and 8 and 19 (Blue) admitted and slot 7 (Blue) expected. -/
def staging : State :=
  let s := ((((field.setSlot 2 (robot 2 1 3)).setSlot 8 (robot 8 2 2)).setSlot 14 (robot 14 1 2)).setSlot 19
    (robot 19 2 1)).setSlot 7 (expected 7 2)
  { s with clock := { s.clock with phase := .staging } }

/-- The DRIVER period with 73.35 s left. -/
def play : State := { staging with clock := { staging.clock with phase := .running, index := 1, remaining := 73350000 } }

/-- A holder with its wait list, and the counts that they bring. -/
def held (h : Nat) (waiters : List Nat) (left : Nat) : Claim :=
  { holder := some h, holdTimer := some left, waiters := waiters, barred := none }

/-- Slot 2 holds gate 5, and slots 8 and 14 wait for it: 9.0 s after the grant at 10.0 s of chapter 4's example. -/
def contested : State :=
  (((play.setClaim 5 (held 2 [8, 14] 1000000)).setSlot 2 { robot 2 1 3 with holdCount := 1 }).setSlot 8
    { robot 8 2 2 with waitCount := 1 }).setSlot 14 { robot 14 1 2 with waitCount := 1 }

/-- A transaction stands on the bus. -/
def onBus (r : BusRequest) (window : Timer) (s : State) : State :=
  { s with bus := { s.bus with current := some { request := r, window := window } } }

/-- An actuation in flight. -/
def actInFlight (e : Nat) (o : Origin) (s : State) : State :=
  s.setAct e { state := .inFlight, origin := some o, charge := none, timer := some 6000000 }

/-- The phase is set. -/
def inPhase (p : Phase) (s : State) : State := { s with clock := { s.clock with phase := p } }

/-- The last microsecond of the grace. -/
def inGrace : State :=
  { staging with clock :=
    { staging.clock with phase := .grace, index := 2, graceTimer := some 1 } }

-- Start-up, pins and the console line

theorem test_powerOn_takes_the_good_copy :
    (after .powerOn { play with store := { play.store with
      standing := { settings := { factorySettings with consoleRate := 57600 }, defs := noDefinitions },
      standingGood := true } }).console.lineRate = 57600 := by decide

theorem test_powerOn_without_a_good_copy_defaults :
    (after .powerOn play).settings = factorySettings ∧ (after .powerOn play).attention.flags = 0x100000 := by decide

/-- Chapters 5 and 9: the first transaction after a start-up is a HALT, and the first downlink frame a beacon. -/
theorem test_powerOn_sends_the_halt_and_a_beacon :
    (after .powerOn play).bus.current = some { request := .halt, window := none }
      ∧ (after .powerOn play).link.port.isSome = true ∧ (after .powerOn play).link.beaconDue = false := by decide

theorem test_resetPin_holds_the_part_stopped :
    (after .resetPin play).resetAsserted = true ∧ (after .resetPin play).stopOut = true
      ∧ (after .resetPin play).clock.phase = .idle := by decide

theorem test_resetPinRelease_latches_pin :
    (after .resetPinRelease (after .stopInPressed (after .resetPin calm))).stop.pin = true := by decide

/-- Chapter 1's example: 73.35 s are left at the stop, and READ CLOCK rounds them up to 734. -/
theorem test_stopInPressed_holds_the_clock :
    (after .stopInPressed play).clock.mark = .paused ∧ (after .stopInPressed play).remainingReported = 734
      ∧ (after .stopInPressed play).stop.pin = true := by decide

theorem test_stopInLetGo_keeps_the_cause :
    (after .stopInLetGo (after .stopInPressed play)).stop
      = { stopped := true, pin := true, brk := false, console := false, reset := false, stopIn := false } := by decide

theorem test_breakDetected_latches_break :
    (after .breakDetected play).stop.brk = true ∧ (after .breakDetected play).clock.phase = .held := by decide

theorem test_breakEnd_keeps_the_cause :
    (after .breakEnd (after .breakDetected play)).console.breakInProgress = false
      ∧ (after .breakEnd (after .breakDetected play)).stop.brk = true := by decide

/-- The check value of CRC-16 with polynomial 1021h and initial value FFFFh for the digits 1 to 9 is 29B1h. -/
theorem test_crc_of_the_nine_digits : crc16 [0x31, 0x32, 0x33, 0x34, 0x35, 0x36, 0x37, 0x38, 0x39] = 0x29B1 := by decide

/-- A5h goes out least significant bit first between its start bit and its stop bit. -/
theorem test_character_bits :
    character 0xA5 = [false, true, false, true, false, false, true, false, true, true]
      ∧ characterCommand (character 0xA5) = some (.consoleByte 0xA5) := by decide

/-- Chapter 10's example: a second A5h is a new lead. -/
theorem test_consoleByte_second_lead :
    (after (.consoleByte 0xA5) (after (.consoleByte 0xA5) calm)).console.receiver = .framing := by decide

theorem test_framingError_discards :
    (after .framingError (after (.consoleByte 0) (after (.consoleByte 0xA5) calm))).console.receiver = .seeking := by
  decide

/-- Chapter 10's example: REVOKE CLAIM broken off after its first operand. -/
theorem test_gapTimerExpiry_discards :
    (after .gapTimerExpiry { calm with console :=
      { calm.console with receiver := .receiving 3 [0x49, 5], gapTimer := some 1 } }).console
      = { calm.console with receiver := .seeking, gapTimer := none } := by decide

/-- Chapter 10's example: the kind of a damaged record is not trusted, and no score changes. -/
theorem test_frameError_answered_with_80h :
    (after .frameError play).console.held = some { kind := 0x80, outcome := .frameError, fields := [] }
      ∧ (after .frameError play).score = play.score := by decide

theorem test_unknownRequest_kind :
    ((after (.unknownRequest 0x06) calm).console.held.map Reply.kind) = some 0x86
      ∧ ((after (.unknownRequest 0xB7) calm).console.held.map Reply.kind) = some 0x80 := by decide

theorem test_consoleOverrun_sets_the_flag :
    (after .consoleOverrun (after .readClock calm)).flagSet .consoleOverrun = true := by decide

theorem test_replyEnd_empties_the_place : (after .replyEnd (after .readClock calm)).console.held = none := by decide

theorem test_restart_starts_up_at_the_end_of_the_reply :
    answered .restart play = some (.ok, [])
      ∧ (after .replyEnd (after .restart play)).stop.reset = true
      ∧ (after .replyEnd (after .restart play)).elemDef 5 = gate := by decide

-- Identification, settings, store and attention

/-- Vendor code 1C3Bh, part code 24, format revision 1 (R181). -/
theorem test_identify : answered .identify play = some (.ok, [0x3B, 0x1C, 24, 1]) := by decide

theorem test_setSetting_pulseTime_adjusted :
    answered (.setSetting 16 50) calm = some (.okAdjusted, [16, 100, 0, 0, 0])
      ∧ (after (.setSetting 16 50) calm).settings.pulseTime = 100 := by decide

theorem test_getSetting_consoleRate : answered (.getSetting 1) calm = some (.ok, [1, 0x00, 0xC2, 0x01, 0]) := by decide

theorem test_storeSettings_accepted_then_busy :
    answered .storeSettings calm = some (.accepted, [])
      ∧ answered .storeSettings (after .replyEnd (after .storeSettings calm)) = some (.busy, []) := by
  constructor <;> rfl

theorem test_storeDone_makes_the_copy_stand :
    (after .storeDone { field with store := { field.store with
      writing := some { copy := { settings := factorySettings, defs := field.table.defs }, left := 1 } } }).store
      = { writing := none, standing := { settings := factorySettings, defs := field.table.defs },
          standingGood := true } := by decide

theorem test_readEvents_gives_both_sets :
    answered .readEvents State.reset = some (.ok, [0, 0, 0x10, 0, 0, 0]) := by decide

theorem test_clearEvents_clears_its_set :
    answered (.clearEvents 0x100001) State.reset = some (.ok, [0, 0, 0])
      ∧ answered (.clearEvents 0x400000) State.reset = some (.badArg, []) := by decide

theorem test_setEventEnables_raises_attn :
    (after (.setEventEnables 0x100000) State.reset).attn = true := by decide

-- Elements

theorem test_defineElement_in_range :
    answered (.defineElement 5 ⟨2, 0, 0, 8, 2, 100, 30, 9, 40, 0, 0, 0⟩) calm = some (.ok, [])
      ∧ (after (.defineElement 5 ⟨2, 0, 0, 8, 2, 100, 30, 9, 40, 0, 0, 0⟩) calm).elemDef 5 = gate := by decide

theorem test_defineElement_side_of_no_alliance :
    answered (.defineElement 5 ⟨1, 3, 0, 8, 2, 100, 30, 9, 40, 0, 0, 0⟩) calm = some (.badArg, []) := by decide

/-- The definition of the gate, then its run-time fields, OPEN, at rest, held by slot 2 with 1.0 s left (R196). -/
theorem test_readElement_gate :
    answered (.readElement 5) contested = some (.ok,
      [2, 0, 0, 8, 2, 100, 0, 30, 0, 0, 40, 0, 0, 0, 0] ++ [0, 0, 0, 0, 0, 0, 0, 0] ++ [2, 10, 0, 2, 8, 14, 0, 0]
        ++ [0, 0, 0]) := by decide

theorem test_setElementMode_refusing :
    (after (.setElementMode 5 1 0) play).mode 5 = .refusing
      ∧ answered (.setElementMode 5 2 0) play = some (.badArg, []) := by decide

theorem test_withdraw_empties_the_claim :
    (after (.withdraw 5) contested).claim 5 = emptyClaim ∧ (after (.withdraw 5) contested).mode 5 = .withdrawn
      ∧ ((after (.withdraw 5) contested).slot 8).waitCount = 0 := by decide

theorem test_withdraw_waits_for_the_actuation :
    answered (.withdraw 12) (actInFlight 12 .console play) = some (.accepted, [])
      ∧ ((after (.withdraw 12) (actInFlight 12 .console play)).run 12).withdrawPending = true := by decide

theorem test_restoreElement_opens :
    (after (.restoreElement 5) (after .replyEnd (after (.withdraw 5) play))).mode 5 = .opened := by decide

theorem test_readFaults_length : (answered .readFaults play).map (·.2.length) = some 103 := by decide

theorem test_clearFaults_clears_the_jam :
    ((after (.clearFaults 5) (play.setRun 5 { play.run 5 with jammed := true, faultTally := 3, lastFault := some .jam })).run
      5) = play.run 5 := by decide

-- Roster

/-- Chapter 2's example: kit id 2315530 in slot 7 for Blue, team 4407. -/
theorem test_register_slot :
    answered (.register 7 2315530 2 4407) calm = some (.ok, [])
      ∧ ((after (.register 7 2315530 2 4407) calm).slot 7).permitted = 0xF
      ∧ ((after (.register 7 2315530 2 4407) calm).slot 7).restoreTimer = some 4000000 := by decide

theorem test_register_same_kit_refused : answered (.register 9 2 1 1) staging = some (.badArg, []) := by decide

theorem test_unregister_empties : (after (.unregister 8) staging).slot 8 = vacantSlot := by decide

/-- ADMITTED 3, kit id 8, Blue, team 1, tiers {1,2,3,4} twice, tier 2, cap 60 (R196). -/
theorem test_readSlot :
    answered (.readSlot 8) play = some (.ok,
      [3, 8, 0, 0, 0, 2, 1, 0, 0x0F, 0x0F, 2, 60, 0, 0, 0, 0, 0, 0]) := by decide

theorem test_readStrangers :
    answered .readStrangers { calm with roster := { calm.roster with strangers := [0x01020304] } }
      = some (.ok, [1, 4, 3, 2, 1] ++ List.replicate 12 0) := by decide

/-- Chapter 4's second example: the drop at slot 5 hands element 3 to slot 9, which leaves the list of element 7. -/
theorem test_disableRobot_drops_in_order :
    let s := ((((((calm.setSlot 5 { robot 5 1 2 with holdCount := 2 }).setSlot 9
      { robot 9 1 2 with holdCount := 1, waitCount := 2 }).setSlot 16 { robot 16 1 2 with waitCount := 1 }).setClaim 3
      { held 5 [9] 0 with holdTimer := none }).setClaim 7 { held 5 [9, 16] 0 with holdTimer := none }).setClaim 12
      { held 9 [] 0 with holdTimer := none })
    let t := after (.disableRobot 5 0) s
    (t.claim 3).holder = some 9 ∧ (t.claim 7).holder = some 16 ∧ (t.claim 7).waiters = []
      ∧ (t.slot 9).holdCount = 2 ∧ (t.slot 9).waitCount = 0 ∧ (t.slot 5).state = .disabled := by decide

theorem test_disableRobot_timed :
    ((after (.disableRobot 2 6001) play).slot 2).disable = some (.timed 600000000)
      ∧ answered (.disableRobot 7 10) play = some (.badState, []) := by decide

theorem test_enableRobot :
    ((after (.enableRobot 2) (after .replyEnd (after (.disableRobot 2 0) play))).slot 2).state = .admitted := by decide

theorem test_restoreTiers :
    ((after (.restoreTiers 8) (play.setSlot 8 { robot 8 2 2 with permitted := 0xB, attempts := 2 })).slot 8)
      = robot 8 2 2 := by decide

-- The match

/-- Chapter 1's plan. -/
theorem test_loadPlan :
    answered (.loadPlan 4 30 [⟨1, 150, 16, 1⟩, ⟨4, 50, 0, 0⟩, ⟨2, 1200, 8, 0⟩, ⟨3, 300, 12, 0⟩]) calm = some (.ok, [])
      ∧ (after (.loadPlan 4 30 [⟨1, 150, 16, 1⟩, ⟨4, 50, 0, 0⟩, ⟨2, 1200, 8, 0⟩, ⟨3, 300, 12, 0⟩]) calm).periodCount = 4 := by
  decide

theorem test_loadPlan_of_intervals_refused :
    answered (.loadPlan 1 0 [⟨4, 50, 0, 0⟩]) calm = some (.badArg, []) := by decide

theorem test_stage : (after .stage field).clock.phase = .staging ∧ answered .stage calm = some (.noPlan, []) := by decide

theorem test_start : (after .start staging).remainingReported = 1200 ∧ (after .start staging).driveTime = true := by decide

theorem test_pause_keeps_the_time : (after .pause play).clock.remaining = 73350000 ∧ (after .pause play).driveTime = false := by
  decide

theorem test_resume_runs_on : (after .resume (after .replyEnd (after .pause play))).clock.phase = .running := by decide

theorem test_abortMatch : (after .abortMatch play).clock.phase = .finished ∧ (after .abortMatch play).clock.index = 1 := by
  decide

theorem test_closeMatch :
    ((after .closeMatch staging).slot 2).state = .expected ∧ (after .closeMatch staging).clock.plan = some plan := by decide

/-- RUNNING, period 1, DRIVER, 734 left, no mark, 2 periods. -/
theorem test_readClock : answered .readClock play = some (.ok, [2, 1, 2, 0xDE, 0x02, 0, 2]) := by decide

/-- Chapter 1's example: PERIOD_END still set brings LAPSE. -/
theorem test_periodExpiry_lapse :
    let t := after .periodExpiry (after .periodExpiry play)
    t.clock.phase = .grace ∧ t.remainingReported = 30 ∧ t.flagSet .lapse = true := by decide

theorem test_graceExpiry :
    (after .graceExpiry inGrace).clock.phase = .finished ∧ (after .graceExpiry inGrace).flagSet .matchOver = true := by
  decide

-- The field stop

theorem test_fieldStop : (after .fieldStop play).stop.console = true ∧ (after .fieldStop play).clock.phase = .held := by
  decide

/-- Chapter 9: the first frame after a start-up shows the stop flag set, also where a RELEASE STOP is the first request. -/
theorem test_first_beacon_shows_the_stop :
    (after .releaseStop State.reset).link.port = State.reset.link.port
      ∧ (after .releaseStop State.reset).link.beaconDue = true
      ∧ (after .releaseStop State.reset).stop.stopped = false := by decide

/-- Chapter 8's example: the release is held by the pushbutton, and clears every cause once it is let go. -/
theorem test_releaseStop :
    let s := after .replyEnd (after .fieldStop (after .stopInPressed play))
    answered .releaseStop s = some (.stopHeld, [])
      ∧ (after .releaseStop (after .stopInLetGo s)).stop.stopped = false := by decide

/-- STOPPED with PIN and CONSOLE latched, STOP_IN asserted. -/
theorem test_readStop :
    answered .readStop (after .replyEnd (after .fieldStop (after .stopInPressed play))) = some (.ok, [1, 5, 1, 0]) := by
  decide

-- Claims

/-- Chapter 4's example: two waiters. -/
theorem test_readClaims :
    (answered (.readClaims 5) contested).map (fun r => r.2.take 13)
      = some [5, 8, 2, 10, 0, 2, 8, 14, 0, 0, 0, 0, 0] := by decide

theorem test_revokeClaim :
    answered (.revokeClaim 5 1 2) contested = some (.ok, [2, 8])
      ∧ (after (.revokeClaim 5 1 2) contested).flagSet .revoked = false
      ∧ answered (.revokeClaim 5 1 8) contested = some (.notFound, []) := by decide

theorem test_claim_granted :
    toRobot (.claim 2 2 5) play = some (.granted, 100) ∧ ((after (.claim 2 2 5) play).claim 5).holder = some 2 := by decide

theorem test_claim_queued_and_tier_low :
    toRobot (.claim 8 8 5) (play.setClaim 5 (held 2 [] 9600000)) = some (.queued, 1)
      ∧ toRobot (.claim 19 19 5) contested = some (.tierLow, 0) := by decide

theorem test_release_hands_over :
    toRobot (.release 2 2 5) contested = some (.released, 0)
      ∧ ((after (.release 2 2 5) contested).claim 5).holder = some 8
      ∧ ((after (.release 2 2 5) contested).claim 5).waiters = [14] := by decide

/-- Chapter 4's example at 40.0 s: slot 2 is revoked and barred for 3.0 s, and slot 8 holds the gate. -/
theorem test_holdTimerExpiry :
    (after (.holdTimerExpiry 5) contested).claim 5
      = { holder := some 8, holdTimer := some 10000000, waiters := [14], barred := some { slot := 2, left := 3000000 } }
      ∧ (after (.holdTimerExpiry 5) contested).flagSet .revoked = true := by decide

theorem test_cooldownExpiry :
    ((after (.cooldownExpiry 5) (play.setClaim 5 { emptyClaim with barred := some ⟨2, 1⟩ })).claim 5).barred = none := by
  decide

/-- A tower second of slot 8, Blue: 2 × 12 × 8 = 192, and (192 + 32) / 64 = 3.5, whose whole part is 3. -/
theorem test_towerSecond :
    ((after (.towerSecond 7) (play.setClaim 7 (held 8 [] 5))).alliance 2).score = 3 := by decide

/-- Chapter 7: in HELD the accumulator stands still, and no second comes. -/
theorem test_towerSecond_stands_still :
    ((after (.towerSecond 7) (inPhase .held (play.setClaim 7 (held 8 [] 5)))).alliance 2).score = 0 := by decide

-- The field bus and the lights

theorem test_consoleActuate :
    answered (.consoleActuate 12 0) play = some (.accepted, [1])
      ∧ answered (.consoleActuate 12 0) { play with stop := { play.stop with stopped := true } }
        = some (.stopHeld, []) := by decide

/-- Chapter 5's example: 8 objects are lowered to the quota of 6. -/
theorem test_robotActuate_lowered_to_the_quota :
    toRobot (.robotActuate 14 14 20 8) (play.setClaim 20 (held 14 [] 5)) = some (.accepted, 6)
      ∧ (after (.robotActuate 14 14 20 8) (play.setClaim 20 (held 14 [] 5))).quotaLeft 20 1 = 0 := by decide

theorem test_robotActuate_not_held : toRobot (.robotActuate 2 2 5 1) play = some (.notHeld, 0) := by decide

theorem test_passThrough :
    answered (.passThrough 30 [1, 2]) play = some (.accepted, [])
      ∧ (after (.passThrough 30 [1, 2]) play).bus.pass = .pending
      ∧ answered (.passThrough 30 (List.replicate 9 0)) play = some (.badArg, []) := by decide

theorem test_passResult :
    answered .passResult (play.setPass (.done [7, 8])) = some (.ok, [0, 2, 7, 8])
      ∧ answered .passResult play = some (.notFound, []) := by decide

theorem test_busFrameSent_opens_the_window :
    (after .busFrameSent (onBus (.poll 6) none play)).bus.current = some { request := .poll 6, window := some 3000 } := by
  decide

/-- Chapter 7's example: three objects of 5 points at a bonus of 12 and a factor of 8 are 23 points for Blue. -/
theorem test_busAnswer_credits :
    let s := (onBus (.poll 6) (some 1) (play.setClaim 6 (held 8 [] 5))).setElemScore 6
      { freshScore goalNeutral with baseline := some 19 }
    ((after (.busAnswer (answerBytes 6 0x81 [22, 0, 0])) s).alliance 2).score = 23 := by decide

/-- Chapter 5's example: the poll of element 12 shows HALTED. -/
theorem test_busAnswer_halted :
    let s := onBus (.poll 12) (some 1) (actInFlight 12 (.slot 8) play)
    ((after (.busAnswer (answerBytes 12 0x81 [0, 4, 0])) s).run 12).lastOutcome = some .halted := by decide

theorem test_answerWindowExpiry_third_miss :
    let s := (onBus (.poll 6) (some 1) play).setRun 6 { play.run 6 with presence := .present, missCount := 2 }
    ((after .answerWindowExpiry s).run 6).presence = .absent ∧ (after .answerWindowExpiry s).flagSet .presence = true := by
  decide

theorem test_actuationTimerExpiry_jams :
    let t := after (.actuationTimerExpiry 5) (actInFlight 5 .console play)
    (t.run 5).jammed = true ∧ (t.act 5).state = .none ∧ t.flagSet .consoleActDone = true := by decide

theorem test_pulseTimerExpiry :
    ((after (.pulseTimerExpiry 6) (play.setLight 6 { play.light 6 with pulse := some 1 })).light 6).pulse = none := by
  decide

-- Scores

theorem test_readScores :
    (answered .readScores (play.setAlliance 2 ⟨23, 5, 0⟩)).map (fun r => r.2.take 15)
      = some [2, 2, 1, 0, 0, 0, 0, 0, 0, 23, 0, 5, 0, 0, 0] := by decide

/-- Goal 6 with baseline 27 and tallies 5, 1 and 4 (chapter 7's example). -/
theorem test_readTallies :
    (answered (.readTallies 6) (play.setElemScore 6
        { freshScore goalNeutral with baseline := some 27, credited := 5, unattributed := 1, uncounted := 4 })).map
      (fun r => r.2.take 10) = some [6, 8, 1, 27, 5, 0, 1, 0, 4, 0] := by decide

/-- R139's example: penalized 20 at a score of 12. -/
theorem test_penalize :
    (after (.penalize 2 20) (play.setAlliance 2 ⟨12, 0, 0⟩)).alliance 2 = ⟨0, 20, 8⟩ := by decide

/-- An amount of 0 becomes 1; the penalty points and the clamp loss stay (R140). -/
theorem test_award_adjusted :
    answered (.award 2 0) (play.setAlliance 2 ⟨12, 20, 8⟩) = some (.okAdjusted, [13, 0])
      ∧ (after (.award 2 0) (play.setAlliance 2 ⟨12, 20, 8⟩)).alliance 2 = ⟨13, 20, 8⟩ := by decide

-- Mail (chapter 9's example, with a message of 5 bytes)

def boxed (o : MailOrigin) (pending : Bool) : State :=
  play.setBox 8 (some { origin := o, bytes := [82, 69, 65, 68, 89], pending := pending })

theorem test_consoleMailPut :
    answered (.consoleMailPut 8 [1, 2]) play = some (.ok, [])
      ∧ answered (.consoleMailPut 8 [1, 2]) (boxed .robot true) = some (.boxFull, []) := by decide

theorem test_consoleMailRead_in_two_parts :
    ((after (.consoleMailRead 8 0 3) (boxed .robot true)).box 8).map Message.pending = some true
      ∧ answered (.consoleMailRead 8 3 2) (boxed .robot true) = some (.ok, [1, 5, 3, 2, 0, 68, 89]) := by decide

/-- Box 8 holds a pending robot message of 5 bytes. -/
theorem test_mailStatus :
    (answered .mailStatus (boxed .robot true)).map (fun r => r.2.drop 14) = some ([7, 5] ++ List.replicate 32 0) := by decide

theorem test_robotMailPut :
    toRobot (.robotMailPut 8 8 [1]) (boxed .console true) = some (.boxFull, 0)
      ∧ (after (.robotMailPut 8 8 [1]) play).flagSet .mailIn = true := by decide

theorem test_robotMailRead :
    (after (.robotMailRead 8 8 2) (boxed .console true)).flagSet .mailTaken = true
      ∧ toRobot (.robotMailRead 8 8 5) (boxed .console true) = some (.badOffset, 0) := by decide

-- The robot link

/-- Two frames of slot 9 wait, and a third is dropped for its share (chapter 9's example). -/
theorem test_uplinkArrival_share :
    let f : UplinkFrame := { slot := 9, tag := 9, body := .claim 5 }
    (after (.uplinkArrival (uplinkBytes f)) (after (.uplinkArrival (uplinkBytes f))
      (after (.uplinkArrival (uplinkBytes f)) play))).link.uplink = [f, f] := by decide

/-- Chapter 2's example: {2,3,4} cut to {1,2,3} is offered tier 3 with cap 80. -/
theorem test_hello_offer :
    let s := { staging with settings := { factorySettings with allowedTiers := 7 } }
    ((after (.hello 7 7 7 0x0E) s).slot 7).tier = some 3 ∧ ((after (.hello 7 7 7 0x0E) s).slot 7).cap = some 80 := by decide

theorem test_hello_stranger :
    toRobot (.hello 0 99 99 0x0F) staging = some (.unknownKit, 0)
      ∧ (after (.hello 0 99 99 0x0F) staging).roster.strangers = [99] := by decide

/-- A slot that has been offered tier 3. -/
def offered (attempts : Nat) : Slot :=
  { expected 7 2 with
    state := .offered
    lastAd := some 0xE
    tier := some 3
    cap := some 80
    attempts := attempts
    confirmTimer := some 1 }

theorem test_confirm :
    toRobot (.confirm 7 7 3) (staging.setSlot 7 (offered 0)) = some (.confirmed, 0)
      ∧ toRobot (.confirm 7 7 2) (staging.setSlot 7 (offered 0)) = some (.tierMismatch, 0) := by decide

theorem test_presence_restarts_silence :
    ((after (.presence 2 2) play).slot 2).silenceTimer = some 1000000 := by decide

theorem test_bye : ((after (.bye 2 2) play).slot 2).state = .expected := by decide

/-- Chapter 2's example: the third lapse takes tier 3 away. -/
theorem test_confirmTimerExpiry_downshift :
    let t := after (.confirmTimerExpiry 7) { staging.setSlot 7 (offered 2) with
      settings := { factorySettings with allowedTiers := 7 } }
    (t.slot 7).permitted = 0xB ∧ (t.slot 7).attempts = 0 ∧ t.flagSet .downshift = true := by decide

theorem test_silenceTimerExpiry :
    ((after (.silenceTimerExpiry 2) contested).slot 2).state = .lost
      ∧ ((after (.silenceTimerExpiry 2) contested).claim 5).holder = some 8 := by decide

theorem test_restoreTimerExpiry :
    ((after (.restoreTimerExpiry 7) (staging.setSlot 7
      { expected 7 2 with permitted := 0xB, restoreTimer := some 1 })).slot 7).permitted = 0xF := by decide

theorem test_disableTimerExpiry :
    ((after (.disableTimerExpiry 2) (play.setSlot 2
      { robot 2 1 3 with state := .disabled, disable := some (.timed 1) })).slot 2).state = .admitted := by decide

theorem test_downlinkFrameSent_sends_the_beacon :
    let s := { play with link := { play.link with port := some { slot := 2, tag := 2, body := .answer 5 5 .granted 100 },
                                                  beaconDue := true } }
    ((after .downlinkFrameSent s).link.port.map DownFrame.slot) = some 0 := by decide

/-- A beacon's payload is 73 bytes long (R193). -/
theorem test_beaconIntervalExpiry :
    ((after .beaconIntervalExpiry { play with link := { play.link with beaconTimer := some 1 } }).link.port.map
      fun f => (downPayload f.body).length) = some 73 := by decide

-- The step

theorem test_step_takes_the_front :
    step { calm with pending := [.stopInPressed, .identify] }
      = .next { after .stopInPressed calm with pending := [.identify] } := by rfl

-- Witnesses: each obligation's hypotheses are met together, clause by clause, at the ends of their ranges

/-- A property of the numbers of a table, and of every number beyond it, holds of all. -/
theorem all_numbers (N : Nat) {p : Nat → Prop} (h : ∀ n ∈ List.range (N + 1), p n) (h' : ∀ n, N < n → p n) : ∀ n, p n := by
  intro n
  by_cases hn : N < n
  · exact h' n hn
  · exact h n (List.mem_range.mpr (by omega))

theorem up_to (N : Nat) {p : Nat → Prop} (h : ∀ n ∈ List.range (N + 1), p n) : ∀ n, 1 ≤ n → n ≤ N → p n :=
  fun n _ hn => h n (List.mem_range.mpr (by omega))

theorem claim_beyond (s : State) (e : Nat) (h : 32 < e) : s.claim e = emptyClaim := at1_outside _ _ _ (by omega)
theorem slot_beyond (s : State) (n : Nat) (h : 24 < n) : s.slot n = vacantSlot := at1_outside _ _ _ (by omega)

/-- The claims law, checked on the 32 elements and the 24 slots. -/
def checkClaims (s : State) : Bool :=
  ((List.range 33).all fun e =>
      (s.claim e).holder.all (fun n => (s.slot n).state = .admitted && !(s.claim e).waiters.contains n)
        && (s.claim e).waiters.all (fun n => (s.slot n).state = .admitted)
        && decide (s.claim e).waiters.Nodup && (s.claim e).waiters.length ≤ 4)
    && (List.range 25).all fun n =>
      (s.slot n).holdCount = s.holds n && (s.slot n).waitCount = s.waits n && s.holds n ≤ 2 && s.waits n ≤ 2
        && (s.holds n != 2 || s.waits n = 0)

theorem lawful_of_check (s : State) (h : checkClaims s = true) : lawfulClaims s := by
  simp only [checkClaims, Bool.and_eq_true, List.all_eq_true, decide_eq_true_eq] at h
  obtain ⟨h1, h2⟩ := h
  have hc : claimLaw s := by
    refine all_numbers 32 (fun e he => ?_) (fun e he => ?_)
    · obtain ⟨⟨⟨ha, hb⟩, hn⟩, hl⟩ := h1 e he
      refine ⟨fun n hh => ?_, fun n hw => hb n hw, hn, hl⟩
      rw [hh] at ha
      simpa using ha
    · rw [claim_beyond s e he]
      simp [emptyClaim]
  refine ⟨hc, all_numbers 24 (fun n hn => ?_) (fun n hn => ?_)⟩
  · obtain ⟨⟨⟨⟨ha, hb⟩, hh⟩, hw⟩, hx⟩ := h2 n hn
    refine ⟨ha, hb, hh, hw, fun hq => ?_⟩
    simpa [hq] using hx
  · have hv := slot_beyond s n hn
    have h0 : s.holds n = 0 := by
      simp only [State.holds, List.length_eq_zero_iff, List.filter_eq_nil_iff]
      intro e _ hh
      have := ((hc e).1 n (by simpa using hh)).1
      simp [hv, vacantSlot] at this
    have h0' : s.waits n = 0 := by
      simp only [State.waits, List.length_eq_zero_iff, List.filter_eq_nil_iff]
      intro e _ hh
      have := (hc e).2.1 n (by simpa using hh)
      simp [hv, vacantSlot] at this
    simp [hv, h0, h0', vacantSlot]

/-- The play law, checked on the 32 elements. -/
theorem playLaw_of_check (s : State)
    (h : ∀ e ∈ List.range 33, ((s.clock.phase = .running ∨ s.clock.phase = .held ∨ (s.claim e).holder = none)
      ∧ ((s.run e).withdrawn = false ∨ (s.claim e).holder = none)
      ∧ ((s.claim e).holder ≠ none ∨ (s.claim e).waiters = []))) : playLaw s := by
  refine all_numbers 32 (fun e he => ?_) (fun e he => ?_)
  · obtain ⟨h1, h2, h3⟩ := h e he
    refine ⟨fun a b => ?_, fun a => ?_, fun a => ?_⟩
    · rcases h1 with h1 | h1 | h1
      · exact absurd h1 a
      · exact absurd h1 b
      · exact h1
    · rcases h2 with h2 | h2
      · rw [a] at h2
        exact absurd h2 (by decide)
      · exact h2
    · rcases h3 with h3 | h3
      · exact absurd a h3
      · exact h3
  · rw [claim_beyond s e he]
    simp [emptyClaim]

theorem lawful_play : lawfulClaims play := lawful_of_check _ (by decide)
theorem lawful_contested : lawfulClaims contested := lawful_of_check _ (by decide)
theorem playLaw_play : playLaw play := playLaw_of_check _ (by decide)

/-- A frame can be taken from an empty uplink queue. -/
theorem taken_fresh (f : UplinkFrame) (s : State) (h : s.link.uplink = []) (hf : frameOk f = true) : takenFrom f s s :=
  .inl ⟨h, hf, rfl⟩

/-- The bus is in use and the contested gate, a held tower and a timed disable stand in drive time. -/
def busyPlay : State :=
  onBus (.poll 6) (some 3000) ((contested.setClaim 7 (held 8 [] 900000)).setSlot 19
    { robot 19 2 1 with state := .disabled, disable := some (.timed 500000) })

theorem witness_StepRunsFrontCommand :
    { calm with pending := [.identify, .stage] }.pending = .identify :: [.stage] := rfl

/-- The hold at gate 5 has run out and the accumulator of tower 7 has reached 1000 ms. -/
def expiring : State :=
  onBus (.poll 6) (some 3000) (((contested.setClaim 5 (held 2 [8, 14] 0)).setClaim 7 (held 8 [] 5)).setElemScore 7
    { play.elemScore 7 with accumulator := 1000000 })

/-- At the end of a period a timed disable and a cooldown have run out too. -/
def ending : State :=
  ({ expiring with clock := { expiring.clock with remaining := 0 } }.setClaim 5
    { emptyClaim with barred := some ⟨2, 0⟩ }).setSlot 19 { robot 19 2 1 with state := .disabled, disable := some (.timed 0) }

/-- Every timer that counts in real time has run out at once. -/
def runOut : State :=
  let s := (((onBus (.poll 6) (some 0) play).setSlot 1 { robot 1 1 1 with state := .offered, confirmTimer := some 0 }).setSlot 2
    { robot 2 1 1 with silenceTimer := some 0 }).setSlot 24 { robot 24 1 1 with state := .lost, restoreTimer := some 0 }
  let s := (s.setAct 20 { restAct with state := .inFlight, timer := some 0 }).setLight 32 { resetLight with pulse := some 0 }
  { s with clock := { s.clock with phase := .grace, graceTimer := some 0 }, link := { s.link with beaconTimer := some 0 }
           console := { s.console with gapTimer := some 0, receiver := .framing }
           store := { s.store with writing := some { copy := s.store.standing, left := 0 } } }

theorem witness_IdleStepAdvancesTheRunningTimes :
    (calm.awake ∧ calm.pending = [] ∧ calm.busHasWork = false ∧ calm.portHasWork = false ∧ calm.link.uplink = []
      ∧ dueExpiries calm = [] ∧ calm.driveTime = false)
    ∧ (busyPlay.awake ∧ busyPlay.pending = [] ∧ busyPlay.busHasWork = false ∧ busyPlay.portHasWork = false
      ∧ busyPlay.link.uplink = [] ∧ dueExpiries busyPlay = [] ∧ busyPlay.driveTime = true
      ∧ (busyPlay.slot 19).disable = some (.timed 500000)
      ∧ busyPlay.bus.current = some { request := .poll 6, window := some 3000 }
      ∧ (busyPlay.elemDef 7).kind = .tower ∧ (busyPlay.claim 7).holder.isSome = true)
    ∧ (expiring.awake ∧ expiring.pending = [] ∧ expiring.busHasWork = false ∧ expiring.portHasWork = false
      ∧ expiring.link.uplink = [] ∧ dueExpiries expiring = [.holdTimerExpiry 5, .towerSecond 7])
    ∧ dueExpiries ending = [.cooldownExpiry 5, .towerSecond 7, .disableTimerExpiry 19, .periodExpiry]
    ∧ dueExpiries runOut = [.actuationTimerExpiry 20, .pulseTimerExpiry 32, .confirmTimerExpiry 1, .silenceTimerExpiry 2,
      .restoreTimerExpiry 24, .graceExpiry, .answerWindowExpiry, .beaconIntervalExpiry, .gapTimerExpiry, .storeDone]
    ∧ (runOut.awake ∧ runOut.pending = [] ∧ runOut.busHasWork = false ∧ runOut.portHasWork = false
      ∧ runOut.link.uplink = []) :=
  ⟨⟨rfl, by decide⟩, ⟨rfl, by decide⟩, ⟨rfl, by decide⟩, by decide, by decide, ⟨rfl, by decide⟩⟩

theorem witness_ResetHeldTakesOnlyPinsAndPower :
    (after .resetPin play).resetAsserted = true ∧ pinCommand .readClock = false := by decide

theorem witness_SurplusBadAndUnknownRecords :
    (let s := after .readClock calm
     s.awake ∧ s.console.held.isSome = true ∧ (requestKind .readStop).isSome = true)
    ∧ (calm.ready ∧ catalogueKinds.contains (0x06 : Byte).toNat = false
      ∧ catalogueKinds.contains (0x80 : Byte).toNat = false) :=
  ⟨⟨rfl, by decide⟩, ⟨rfl, rfl⟩, by decide⟩

theorem witness_EveryRequestIsAnsweredAndARefusalChangesNothing :
    calm.ready ∧ requestKind .stage = some 0x31 ∧ (answered .stage calm).map (fun r => carriedOut r.1) = some false
      ∧ requestKind .identify = some 0x01 :=
  ⟨⟨rfl, rfl⟩, by decide⟩

theorem witness_ReadingsReplyAndChangeNothingElse :
    contested.ready ∧ 1 ≤ (1 : Byte).toNat ∧ (32 : Byte).toNat ≤ 32 ∧ Instr.readClaims 32 ∈ ([.identify, .getSetting 32, .readElement 32, .readFaults, .readSlot 32,
      .readStrangers, .readClock, .readStop, .readClaims 32, .passResult, .readScores, .readTallies 32, .mailStatus,
      .readEvents] : List Instr) :=
  ⟨⟨rfl, rfl⟩, by decide⟩

theorem witness_ReadingsGiveTheirFields :
    contested.ready ∧ 16 < (17 : Byte).toNat ∧ 32 < (33 : Byte).toNat ∧ 1 ≤ (1 : Byte).toNat ∧ (24 : Byte).toNat ≤ 24
      ∧ 24 < (25 : Byte).toNat ∧ contested.clock.phase = .running
      ∧ ((16 : Byte), 300) ∈ [((1 : Byte), contested.settings.consoleRate), (16, contested.settings.pulseTime)]
      ∧ (inGrace.ready ∧ inGrace.clock.phase = .grace ∧ inGrace.clock.graceTimer = some 1)
      ∧ (staging.ready ∧ staging.clock.phase = .staging) :=
  ⟨⟨rfl, rfl⟩, by decide, by decide, by decide, by decide, by decide, by decide, by decide, ⟨⟨rfl, rfl⟩, by decide⟩,
    ⟨rfl, rfl⟩, by decide⟩

theorem witness_SentRecordsAreServedAsTheirRequests :
    staging.ready ∧ staging.console.breakInProgress = false ∧ staging.console.receiver = .seeking
      ∧ (List.replicate 120 (0xA5 : Byte)).length ≤ 120 :=
  ⟨⟨rfl, rfl⟩, by decide⟩

theorem witness_ReceiverFramesBytes :
    (calm.awake ∧ calm.console.breakInProgress = false ∧ calm.console.receiver = .seeking ∧ (0x3F : Byte) ≠ 0xA5)
    ∧ (let s := after (.consoleByte 0xA5) calm
       s.awake ∧ s.console.breakInProgress = false ∧ s.console.receiver = .framing ∧ (120 : Byte).toNat ≤ 120
        ∧ 120 < (121 : Byte).toNat ∧ (121 : Byte) ≠ 0xA5 ∧ s.console.receiver ≠ .seeking)
    ∧ (let s := after (.consoleByte 0) (after (.consoleByte 0xA5) calm)
       s.awake ∧ s.console.breakInProgress = false ∧ s.console.receiver = .receiving 0 []
        ∧ ([] : List Byte).length + 1 < 0 + 3) :=
  ⟨⟨rfl, by decide⟩, ⟨rfl, by decide⟩, rfl, by decide⟩

theorem witness_ReplyEndEmptiesThePlaceAndRestartStartsUp :
    play.ready
    ∧ (let s := after .readClock play
       s.awake ∧ s.console.held.isSome = true ∧ s.console.restarting = false)
    ∧ (let s := after .restart play
       s.awake ∧ s.console.held.isSome = true ∧ s.console.restarting = true) :=
  ⟨⟨rfl, rfl⟩, ⟨rfl, by decide⟩, rfl, by decide⟩

theorem witness_SetSettingWritesInRangeAndReachesTheRoster :
    (calm.ready ∧ play.ready ∧ (115200 : Word).toNat ∈ [57600, 115200, 230400, 460800] ∧ 16 < (17 : Byte).toNat
      ∧ play.clock.phase ≠ .idle ∧ 15 < (16 : Word).toNat ∧ (15 : Word).toNat ≤ 15 ∧ play.clock.phase ≠ .staging
      ∧ (57601 : Word).toNat ∉ [57600, 115200, 230400, 460800] ∧ (7 : Byte).toNat = 4 + 3 ∧ 1 < (2 : Word).toNat)
    ∧ (let s := field.setSlot 24 (expected 24 4)
       s.ready ∧ s.clock.phase = .idle ∧ ∃ n, 1 ≤ n ∧ n ≤ 24 ∧ (s.slot n).state ≠ .empty
        ∧ max 2 (min 4 (3 : Word).toNat) < (s.slot n).alliance)
    ∧ (field.ready ∧ field.clock.phase = .idle
      ∧ (∀ n, 1 ≤ n → n ≤ 24 → (field.slot n).state ≠ .empty → (field.slot n).alliance ≤ 2)
      ∧ ∀ e ∈ List.range 33, (field.elemDef e).side.all (· ≤ 2) = true)
    ∧ (staging.ready ∧ staging.clock.phase = .staging ∧ 1 ≤ (3 : Word).toNat ∧ (3 : Word).toNat ≤ 15
      ∧ BitVec.ofNat 4 (3 : Word).toNat ≠ staging.settings.allowedTiers
      ∧ (staging.slot 2).state = .admitted ∧ hasTier (BitVec.ofNat 4 (3 : Word).toNat) ((staging.slot 2).tier.getD 0) = false
      ∧ hasTier (BitVec.ofNat 4 (3 : Word).toNat) ((staging.slot 8).tier.getD 0) = true ∧ lawfulClaims staging) :=
  ⟨⟨⟨rfl, rfl⟩, ⟨rfl, rfl⟩, by decide⟩, ⟨⟨rfl, rfl⟩, by decide, 24, by decide⟩,
    ⟨⟨rfl, rfl⟩, by decide, up_to 24 (by decide), by decide⟩,
    ⟨rfl, rfl⟩, by decide, by decide, by decide, by decide, by decide, by decide, by decide, lawful_of_check _ (by decide)⟩

/-- A write of the present settings and definitions that is about to complete. -/
def writing : State :=
  { field with store :=
    { field.store with writing := some { copy := { settings := field.settings, defs := field.table.defs }, left := 1 } } }

theorem witness_StoreWritesACopyAndCompletes :
    (calm.ready ∧ calm.store.writing = none) ∧ (writing.ready ∧ writing.store.writing.isSome = true)
    ∧ writing.awake :=
  ⟨⟨⟨rfl, rfl⟩, by decide⟩, ⟨⟨rfl, rfl⟩, by decide⟩, rfl⟩

theorem witness_AttentionRequestsReadClearAndEnable :
    State.reset.ready ∧ (0x400000 : BitVec 24).getLsbD 22 = true ∧ (0x800000 : BitVec 24).getLsbD 23 = true
      ∧ (0x3FFFFF : BitVec 24).getLsbD 22 = false ∧ (0x3FFFFF : BitVec 24).getLsbD 23 = false :=
  ⟨⟨rfl, rfl⟩, by decide⟩

theorem witness_StartUpTakesTheStandingCopyOrTheDefaults :
    (let s := after .storeDone writing
     s.store.standingGood = true ∧ s.store.writing = none ∧ s.resetAsserted = false)
    ∧ play.store.standingGood = false ∧ writing.store.writing.isSome = true
    ∧ (after .resetPin play).resetAsserted = true := by decide

theorem witness_LoadPlanStoresThePlanInRange :
    (calm.ready ∧ staging.ready ∧ 8 < (List.replicate 9 (⟨1, 10, 8, 0⟩ : PeriodFields)).length
      ∧ staging.clock.phase ≠ .idle ∧ calm.clock.phase = .idle)
    ∧ (∃ f ∈ [(⟨5, 10, 8, 0⟩ : PeriodFields)], f.kind = 0 ∨ 4 < f.kind.toNat ∨ 1 < f.holdAtEnd.toNat)
    ∧ (∀ f ∈ [(⟨4, 10, 8, 0⟩ : PeriodFields)], f.kind = 4)
    ∧ ((8 : Byte) ≠ 0 ∧ (8 : Byte).toNat ≤ 8 ∧ (List.replicate 8 (⟨1, 0, 17, 1⟩ : PeriodFields)).length = (8 : Byte).toNat
      ∧ (∀ f ∈ List.replicate 8 (⟨1, 0, 17, 1⟩ : PeriodFields), 1 ≤ f.kind.toNat ∧ f.kind.toNat ≤ 4 ∧ f.holdAtEnd.toNat ≤ 1)
      ∧ ∃ f ∈ List.replicate 8 (⟨1, 0, 17, 1⟩ : PeriodFields), f.kind.toNat ≤ 3) :=
  ⟨⟨⟨rfl, rfl⟩, ⟨rfl, rfl⟩, by decide⟩, by decide, by decide, by decide⟩

theorem witness_StageSetsUpTheMatch :
    (staging.ready ∧ staging.clock.phase ≠ .idle) ∧ (calm.ready ∧ calm.clock.phase = .idle ∧ calm.clock.plan = none)
    ∧ (field.ready ∧ field.clock.phase = .idle ∧ field.clock.plan.isSome = true) :=
  ⟨⟨⟨rfl, rfl⟩, by decide⟩, ⟨⟨rfl, rfl⟩, by decide⟩, ⟨rfl, rfl⟩, by decide⟩

/-- HELD at the end of a period of the given index. -/
def atEnd (index : Nat) (p : Plan) : State :=
  { play with clock :=
    { play.clock with plan := some p, phase := .held, index := index, remaining := 0, mark := .atEnd } }

/-- A field that the pushbutton holds. -/
def pressed (s : State) : State := { s with stop := { s.stop with stopped := true, pin := true, stopIn := true } }

theorem witness_StartPauseAndResume :
    (calm.ready ∧ calm.clock.phase ≠ .staging ∧ calm.clock.phase ≠ .running ∧ calm.clock.phase ≠ .held)
    ∧ ((pressed staging).ready ∧ (pressed staging).clock.phase = .staging ∧ (pressed staging).stop.stopped = true)
    ∧ (staging.ready ∧ staging.clock.phase = .staging ∧ staging.stop.stopped = false ∧ staging.clock.plan = some plan
      ∧ plan.periods = ⟨.driver, 1200, 8, false⟩ :: [⟨.endgame, 300, 12, false⟩])
    ∧ (play.ready ∧ play.clock.phase = .running)
    ∧ (let s := pressed (atEnd 1 plan)
       s.ready ∧ s.clock.phase = .held ∧ s.stop.stopped = true)
    ∧ (let s := after .replyEnd (after .pause play)
       s.ready ∧ s.clock.phase = .held ∧ s.stop.stopped = false ∧ s.clock.mark = .paused)
    ∧ (let s := atEnd 1 plan
       s.ready ∧ s.clock.phase = .held ∧ s.stop.stopped = false ∧ s.clock.mark = .atEnd ∧ s.clock.plan = some plan
        ∧ plan.periods[s.clock.index]? = some ⟨.endgame, 300, 12, false⟩)
    ∧ (let s := atEnd 2 plan
       s.ready ∧ s.clock.phase = .held ∧ s.stop.stopped = false ∧ s.clock.mark = .atEnd ∧ s.clock.plan = some plan
        ∧ plan.periods.length ≤ s.clock.index) :=
  ⟨⟨⟨rfl, rfl⟩, by decide⟩, ⟨⟨rfl, rfl⟩, by decide⟩, ⟨⟨rfl, rfl⟩, by decide⟩, ⟨⟨rfl, rfl⟩, by decide⟩,
    ⟨⟨rfl, rfl⟩, by decide⟩, ⟨⟨rfl, rfl⟩, by decide⟩, ⟨⟨rfl, rfl⟩, by decide⟩, ⟨⟨rfl, rfl⟩, by decide⟩⟩

/-- A plan whose one period is held at its end, and one that has no grace. -/
def planHeld : Plan := { periods := [⟨.auto, 150, 16, true⟩], grace := 0 }
def planBare : Plan := { periods := [⟨.auto, 150, 16, false⟩], grace := 0 }
def playing (p : Plan) : State := { play with clock := { play.clock with plan := some p } }

theorem witness_PeriodExpiryHoldsLoadsOrEnds :
    ((playing planHeld).awake ∧ (playing planHeld).clock.phase = .running ∧ (playing planHeld).clock.plan = some planHeld
      ∧ 1 ≤ (playing planHeld).clock.index ∧ planHeld.periods[(playing planHeld).clock.index - 1]? = some ⟨.auto, 150, 16, true⟩)
    ∧ (play.awake ∧ play.clock.phase = .running ∧ play.clock.plan = some plan ∧ 1 ≤ play.clock.index
      ∧ plan.periods[play.clock.index - 1]? = some ⟨.driver, 1200, 8, false⟩
      ∧ plan.periods[play.clock.index]? = some ⟨.endgame, 300, 12, false⟩)
    ∧ ((playing planBare).awake ∧ (playing planBare).clock.phase = .running ∧ (playing planBare).clock.plan = some planBare
      ∧ planBare.periods[(playing planBare).clock.index - 1]? = some ⟨.auto, 150, 16, false⟩
      ∧ planBare.periods.length = (playing planBare).clock.index) :=
  ⟨⟨rfl, by decide⟩, ⟨rfl, by decide⟩, rfl, by decide⟩

theorem witness_AbortGraceExpiryAndCloseMatch :
    (calm.ready ∧ calm.clock.phase = .idle) ∧ (play.ready ∧ play.clock.phase ≠ .idle ∧ play.clock.phase ≠ .finished)
    ∧ (inGrace.awake ∧ inGrace.clock.phase = .grace) ∧ (staging.ready ∧ staging.clock.phase = .staging)
    ∧ (play.clock.phase ≠ .staging ∧ play.clock.phase ≠ .finished) :=
  ⟨⟨⟨rfl, rfl⟩, by decide⟩, ⟨⟨rfl, rfl⟩, by decide⟩, ⟨rfl, by decide⟩, ⟨⟨rfl, rfl⟩, by decide⟩, by decide⟩

/-- Two actuations, one charged, and a RAW wait in the command queue. -/
def queuedPlay : State :=
  after (.passThrough 30 [1]) (after .replyEnd (after (.consoleActuate 3 1)
    (after (.robotActuate 14 14 20 8) (onBus (.poll 9) (some 3000) (play.setClaim 20 (held 14 [] 5))))))

/-- Chapter 5's example: the stop aborts the queued actuation of dispenser 20, and its pending withdrawal takes effect. -/
theorem test_stop_lets_a_pending_withdrawal_take_effect :
    let s := after .stopInPressed (after (.withdraw 20) (after .replyEnd queuedPlay))
    (s.run 20).withdrawn = true ∧ (s.claim 20).holder = none ∧ s.flagSet .withdrawn = true := by decide

theorem witness_EachCauseEntersTheFieldStop :
    queuedPlay.stop.stopped = false ∧ (after .replyEnd queuedPlay).ready ∧ queuedPlay.awake
      ∧ queuedPlay.stop.stopIn = false ∧ queuedPlay.console.breakInProgress = false
      ∧ (∃ x ∈ queuedPlay.bus.queue, x.isActuateFor 20 = true) ∧ (∀ x ∈ queuedPlay.bus.queue, x.isActuateFor 5 = false)
      ∧ (queuedPlay.act 20).charge = some { alliance := 1, count := 6 } ∧ queuedPlay.bus.queue.any Entry.isRaw = true
      ∧ (queuedPlay.run 20).withdrawPending = false
      ∧ ((after (.withdraw 20) (after .replyEnd queuedPlay)).run 20).withdrawPending = true :=
  ⟨by decide, ⟨rfl, rfl⟩, rfl, by decide⟩

theorem witness_CausesOnAStoppedFieldOnlyLatch :
    (State.reset.ready ∧ State.reset.stop.stopped = true ∧ State.reset.awake ∧ State.reset.stop.stopIn = false
      ∧ State.reset.console.breakInProgress = false)
    ∧ (pressed play).stop.stopIn = true ∧ (after .breakDetected play).console.breakInProgress = true :=
  ⟨⟨⟨rfl, rfl⟩, rfl, rfl, by decide⟩, by decide⟩

theorem witness_ReleaseStopClearsAllCauses :
    (calm.ready ∧ calm.stop.stopped = false)
    ∧ ((pressed play).ready ∧ (pressed play).stop.stopped = true ∧ (pressed play).stop.stopIn = true)
    ∧ (State.reset.ready ∧ State.reset.stop.stopped = true ∧ State.reset.stop.stopIn = false
      ∧ State.reset.console.breakInProgress = false) :=
  ⟨⟨⟨rfl, rfl⟩, by decide⟩, ⟨⟨rfl, rfl⟩, by decide⟩, ⟨rfl, rfl⟩, by decide⟩

theorem witness_DefineElementChecksAndWrites :
    (play.ready ∧ play.clock.phase ≠ .idle)
    ∧ (calm.ready ∧ calm.clock.phase = .idle ∧ 32 < (33 : Byte).toNat ∧ 4 < (5 : Byte).toNat
      ∧ calm.settings.allianceCount < (3 : Byte).toNat ∧ 1 < (2 : Byte).toNat)
    ∧ (let s := actInFlight 32 .console field
       s.ready ∧ s.clock.phase = .idle ∧ 1 ≤ (32 : Byte).toNat ∧ (32 : Byte).toNat ≤ 32
        ∧ (s.act (32 : Byte).toNat).state ≠ .none ∧ (0 : Byte).toNat ≤ s.settings.allianceCount)
    ∧ (field.ready ∧ field.clock.phase = .idle ∧ (field.act (32 : Byte).toNat).state = .none
      ∧ elementKindOf 4 = some .tower ∧ (0 : Byte).toNat ≤ 4 ∧ (1 : Byte).toNat ≤ 1 ∧ elementKindOf 0 = some .none) :=
  ⟨⟨⟨rfl, rfl⟩, by decide⟩, ⟨⟨rfl, rfl⟩, by decide⟩, ⟨⟨rfl, rfl⟩, by decide⟩, ⟨rfl, rfl⟩, by decide⟩

theorem witness_SetElementModeWritesTheLiveFlags : play.ready ∧ play.defined 5 = true ∧ play.defined 32 = false :=
  ⟨⟨rfl, rfl⟩, by decide⟩

/-- Gate 5 withdrawn, and dispenser 12 with its withdrawal pending behind an actuation. -/
def withdrawing : State :=
  after .replyEnd (after (.withdraw 12) (after .replyEnd (after (.withdraw 5) (actInFlight 12 .console contested))))

theorem witness_WithdrawTakesEffectOrWaits :
    (contested.ready ∧ 32 < (33 : Byte).toNat ∧ contested.defined (32 : Byte).toNat = false
      ∧ contested.defined (5 : Byte).toNat = true ∧ (contested.run (5 : Byte).toNat).withdrawn = false
      ∧ (contested.run (5 : Byte).toNat).withdrawPending = false ∧ (contested.act (5 : Byte).toNat).state = .none)
    ∧ (withdrawing.ready ∧ (withdrawing.run (5 : Byte).toNat).withdrawn = true
      ∧ (withdrawing.run (12 : Byte).toNat).withdrawn = false ∧ (withdrawing.run (12 : Byte).toNat).withdrawPending = true)
    ∧ (((actInFlight 12 .console contested).act (12 : Byte).toNat).state ≠ .none) :=
  ⟨⟨⟨rfl, rfl⟩, by decide⟩, ⟨⟨rfl, rfl⟩, by decide⟩, by decide⟩

theorem witness_RestoreElementAndClearFaults :
    withdrawing.ready ∧ 32 < (33 : Byte).toNat ∧ withdrawing.defined (32 : Byte).toNat = false
      ∧ withdrawing.defined (5 : Byte).toNat = true
      ∧ (withdrawing.run (5 : Byte).toNat).withdrawPending ≠ (withdrawing.run (5 : Byte).toNat).withdrawn
      ∧ (withdrawing.run (12 : Byte).toNat).withdrawPending ≠ (withdrawing.run (12 : Byte).toNat).withdrawn
      ∧ (withdrawing.run (3 : Byte).toNat).withdrawPending = false ∧ (withdrawing.run (3 : Byte).toNat).withdrawn = false :=
  ⟨⟨rfl, rfl⟩, by decide⟩

theorem witness_RegisterAndUnregisterASlot :
    (play.ready ∧ play.clock.phase ≠ .idle ∧ play.clock.phase ≠ .staging)
    ∧ (staging.ready ∧ staging.clock.phase = .staging ∧ 24 < (25 : Byte).toNat
      ∧ staging.settings.allianceCount < (3 : Byte).toNat ∧ (24 : Byte).toNat ≤ 24
      ∧ (2 : Byte).toNat ≤ staging.settings.allianceCount ∧ (staging.slot (2 : Byte).toNat).state ≠ .empty
      ∧ (staging.slot (24 : Byte).toNat).state = .empty)
    ∧ (∃ n, 1 ≤ n ∧ n ≤ 24 ∧ (staging.slot n).state ≠ .empty ∧ (staging.slot n).kit = 2)
    ∧ (∀ n, 1 ≤ n → n ≤ 24 → (staging.slot n).state ≠ .empty → (staging.slot n).kit ≠ 99)
    ∧ lawfulClaims staging :=
  ⟨⟨⟨rfl, rfl⟩, by decide⟩, ⟨⟨rfl, rfl⟩, by decide⟩, ⟨2, by decide⟩, up_to 24 (by decide), lawful_of_check _ (by decide)⟩

theorem witness_DisableAndEnableARobot :
    (contested.ready ∧ 24 < (25 : Byte).toNat ∧ (contested.slot (24 : Byte).toNat).state = .empty
      ∧ (contested.slot (7 : Byte).toNat).state = .expected ∧ (contested.slot (2 : Byte).toNat).state = .admitted)
    ∧ lawfulClaims contested
    ∧ (busyPlay.ready ∧ (busyPlay.slot (19 : Byte).toNat).state = .disabled ∧ busyPlay.awake
      ∧ busyPlay.clock.phase = .running ∧ (busyPlay.slot 19).disable = some (.timed 500000)) :=
  ⟨⟨⟨rfl, rfl⟩, by decide⟩, lawful_contested, ⟨rfl, rfl⟩, by decide, rfl, by decide⟩

theorem witness_RestoreTiersPermitsEveryTier :
    staging.ready ∧ (staging.slot (24 : Byte).toNat).state = .empty ∧ (staging.slot (8 : Byte).toNat).state ≠ .empty :=
  ⟨⟨rfl, rfl⟩, by decide⟩

theorem witness_HelloFromStrangersAndClosedPhases :
    (field.awake ∧ takenFrom { slot := (24 : Byte).toNat, tag := 99, body := .hello 99 0xFF } field field
      ∧ (98 : Half) ≠ kitTag 99 ∧ (99 : Half) = kitTag 99 ∧ field.clock.phase = .idle)
    ∧ (staging.awake ∧ takenFrom { slot := (0 : Byte).toNat, tag := 99, body := .hello 99 0xFF } staging staging
      ∧ staging.clock.phase = .staging
      ∧ ∀ n, 1 ≤ n → n ≤ 24 → (staging.slot n).state ≠ .empty → (staging.slot n).kit ≠ 99) :=
  ⟨⟨rfl, taken_fresh _ _ rfl rfl, by decide⟩, rfl, taken_fresh _ _ rfl rfl, by decide, up_to 24 (by decide)⟩

/-- A bit of a tier mask beyond its width is clear. -/
theorem mask_beyond (m : TierMask) (t : Nat) (h : ∀ i ∈ List.range 4, t ≤ i → m.getLsbD i = false) :
    ∀ i, t ≤ i → m.getLsbD i = false := by
  intro i hi
  by_cases h4 : i < 4
  · exact h i (List.mem_range.mpr h4) hi
  · exact BitVec.getLsbD_of_ge _ _ (by omega)

theorem witness_HelloIsOfferedTheHighestCommonTierOrReboots :
    (staging.awake ∧ takenFrom { slot := (0 : Byte).toNat, tag := kitTag 7, body := .hello 7 0x0E } staging staging
      ∧ staging.slotOfKit 7 = some 7 ∧ staging.clock.phase = .staging
      ∧ (let m : TierMask := (0x0E : Byte).setWidth 4 &&& (staging.slot 7).permitted &&& staging.settings.allowedTiers
         (staging.slot 7).state = .expected ∧ m.getLsbD (4 - 1) = true ∧ ∀ i, 4 ≤ i → m.getLsbD i = false))
    ∧ ((0xF0 : Byte).setWidth 4 &&& (staging.slot 7).permitted &&& staging.settings.allowedTiers = 0)
    ∧ (let s := staging.setSlot 7 (offered 0)
       s.awake ∧ takenFrom { slot := (7 : Byte).toNat, tag := kitTag 7, body := .hello 7 0x0E } s s
        ∧ s.slotOfKit 7 = some 7 ∧ (s.slot 7).state = .offered ∧ (s.slot 7).tier = some 3 ∧ (s.slot 7).cap = some 80)
    ∧ (contested.awake ∧ takenFrom { slot := (2 : Byte).toNat, tag := kitTag 2, body := .hello 2 0x0E } contested contested
      ∧ contested.slotOfKit 2 = some 2 ∧ contested.clock.phase = .running ∧ (contested.slot 2).state = .admitted
      ∧ lawfulClaims contested) :=
  ⟨⟨rfl, taken_fresh _ _ rfl rfl, by decide, by decide, by decide, by decide, mask_beyond _ _ (by decide)⟩, by decide,
    ⟨rfl, taken_fresh _ _ rfl rfl, by decide⟩,
    ⟨rfl, taken_fresh _ _ rfl rfl, by decide, by decide, by decide, lawful_contested⟩⟩

theorem witness_ConfirmAdmitsTheSlot :
    (let s := staging.setSlot 7 (offered 0)
     s.awake ∧ takenFrom { slot := (7 : Byte).toNat, tag := 7, body := .confirm (3 : Byte).toNat } s s
      ∧ acceptedFrom (7 : Byte).toNat 7 s ∧ (s.slot (7 : Byte).toNat).state = .offered
      ∧ (s.slot (7 : Byte).toNat).tier = some (3 : Byte).toNat ∧ (s.slot (7 : Byte).toNat).tier ≠ some (4 : Byte).toNat)
    ∧ (staging.awake ∧ takenFrom { slot := (2 : Byte).toNat, tag := 2, body := .confirm (3 : Byte).toNat } staging staging
      ∧ acceptedFrom (2 : Byte).toNat 2 staging ∧ (staging.slot (2 : Byte).toNat).state ≠ .offered) :=
  ⟨⟨rfl, taken_fresh _ _ rfl rfl, ⟨by decide, by decide, by decide⟩, by decide⟩,
    rfl, taken_fresh _ _ rfl rfl, ⟨by decide, by decide, by decide⟩, by decide⟩

theorem witness_ByeAndPresence :
    (contested.awake ∧ takenFrom { slot := (2 : Byte).toNat, tag := 2, body := .bye } contested contested
      ∧ takenFrom { slot := (2 : Byte).toNat, tag := 2, body := .presence } contested contested
      ∧ acceptedFrom (2 : Byte).toNat 2 contested ∧ (contested.slot (2 : Byte).toNat).state = .admitted
      ∧ lawfulClaims contested)
    ∧ (takenFrom { slot := (7 : Byte).toNat, tag := 7, body := .bye } contested contested
      ∧ acceptedFrom (7 : Byte).toNat 7 contested ∧ (contested.slot (7 : Byte).toNat).state = .expected)
    ∧ (takenFrom { slot := (24 : Byte).toNat, tag := 24, body := .presence } contested contested
      ∧ ¬acceptedFrom (24 : Byte).toNat 24 contested
      ∧ (Instr.robotMailPut 24 24 [1], UplinkBody.mailPut [1])
          ∈ [(Instr.presence 24 24, UplinkBody.presence), (.robotMailPut 24 24 [1], .mailPut [1])]
      ∧ takenFrom { slot := (24 : Byte).toNat, tag := 24, body := .mailPut [1] } contested contested) :=
  ⟨⟨rfl, taken_fresh _ _ rfl rfl, taken_fresh _ _ rfl rfl, ⟨by decide, by decide, by decide⟩, by decide, lawful_contested⟩,
    ⟨taken_fresh _ _ rfl rfl, ⟨by decide, by decide, by decide⟩, by decide⟩, taken_fresh _ _ rfl rfl,
    fun h => absurd h.2.1 (by decide), by decide, taken_fresh _ _ rfl rfl⟩

theorem witness_SlotTimersRunOut :
    (let s := staging.setSlot 7 (offered 2)
     s.awake ∧ (s.slot 7).state = .offered ∧ (s.slot 7).confirmTimer.isSome = true ∧ (s.slot 7).tier = some 3
      ∧ (let m := (s.slot 7).lastAd.getD 0 &&& (s.slot 7).permitted &&& s.settings.allowedTiers
         s.settings.downshiftEnable = true ∧ s.settings.downshiftThreshold ≤ min 15 ((s.slot 7).attempts + 1)
          ∧ ∃ k, 1 ≤ k ∧ k < 3 ∧ k ≤ 4 ∧ m.getLsbD (k - 1) = true))
    ∧ (let s := staging.setSlot 7 (offered 1)
       (s.slot 7).state = .offered ∧ ¬s.settings.downshiftThreshold ≤ min 15 ((s.slot 7).attempts + 1))
    ∧ (contested.awake ∧ (contested.slot 2).state = .admitted ∧ (contested.slot 2).silenceTimer.isSome = true
      ∧ lawfulClaims contested)
    ∧ ((staging.setSlot 24 { expected 24 2 with restoreTimer := some 1 }).slot 24).restoreTimer.isSome = true :=
  ⟨⟨rfl, by decide, by decide, by decide, by decide, by decide, 2, by decide⟩, by decide,
    ⟨rfl, by decide, by decide, lawful_contested⟩, by decide⟩

theorem witness_ClaimAndActuateShareTheirFirstChecks :
    (play.awake ∧ acceptedFrom (8 : Byte).toNat 8 play ∧ ¬openTo (8 : Byte).toNat (33 : Byte).toNat play
      ∧ takenFrom { slot := (8 : Byte).toNat, tag := 8, body := .claim (33 : Byte).toNat } play play
      ∧ takenFrom { slot := (8 : Byte).toNat, tag := 8, body := .actuate (33 : Byte).toNat (1 : Byte).toNat } play play)
    ∧ (let s := after .replyEnd (after .pause contested)
       s.awake ∧ acceptedFrom (14 : Byte).toNat 14 s ∧ ¬openTo (14 : Byte).toNat (5 : Byte).toNat s
        ∧ takenFrom { slot := (14 : Byte).toNat, tag := 14, body := .claim (5 : Byte).toNat } s s)
    ∧ (withdrawing.awake ∧ ¬openTo (8 : Byte).toNat (12 : Byte).toNat withdrawing
      ∧ ¬openTo (8 : Byte).toNat (5 : Byte).toNat withdrawing) :=
  ⟨⟨rfl, ⟨by decide, by decide, by decide⟩, fun h => absurd h.2.1 (by decide), taken_fresh _ _ rfl rfl, taken_fresh _ _ rfl rfl⟩,
    ⟨rfl, ⟨by decide, by decide, by decide⟩, fun h => absurd h.2.2.2.2.2.2 (by decide), taken_fresh _ _ rfl rfl⟩, rfl,
    fun h => absurd h.2.2.2.2.1 (by decide), fun h => absurd h.2.2.2.1 (by decide)⟩

theorem open_gate (n : Nat) (h : n ∈ [2, 8, 14, 19]) : openTo n 5 play := by
  refine ⟨by decide, by decide, by decide, by decide, by decide, ?_, by decide⟩
  revert n
  decide

theorem witness_ClaimOfAFreeElementIsGranted :
    play.awake ∧ lawfulClaims play ∧ playLaw play
      ∧ takenFrom { slot := (2 : Byte).toNat, tag := 2, body := .claim (5 : Byte).toNat } play play
      ∧ acceptedFrom (2 : Byte).toNat 2 play ∧ openTo (2 : Byte).toNat (5 : Byte).toNat play
      ∧ (play.elemDef (5 : Byte).toNat).kind ≠ .goal ∧ (play.elemDef (5 : Byte).toNat).side = none
      ∧ (play.slot (2 : Byte).toNat).tier = some 3 ∧ (play.elemDef (5 : Byte).toNat).minTier ≤ 3
      ∧ (play.claim (5 : Byte).toNat).barred = none ∧ (play.claim (5 : Byte).toNat).holder = none
      ∧ (play.slot (2 : Byte).toNat).holdCount < 2 :=
  ⟨rfl, lawful_play, playLaw_play, taken_fresh _ _ rfl rfl, ⟨by decide, by decide, by decide⟩, open_gate 2 (by decide),
    by decide⟩

theorem open_contested (n : Nat) (h : n ∈ [2, 8, 14, 19]) : openTo n 5 contested := by
  refine ⟨by decide, by decide, by decide, by decide, by decide, ?_, by decide⟩
  revert n
  decide

/-- Four slots wait for gate 5. -/
def crowded : State := contested.setClaim 5 (held 2 [8, 14, 20, 21] 1000000)

/-- Slot 2 holds two elements, and goal 2 and a gate of Blue stand on the field. -/
def full : State :=
  ((play.setSlot 2 { robot 2 1 3 with holdCount := 2 }).setDef 32 { gate with side := some 2 }).setClaim 3
    { emptyClaim with barred := some ⟨2, 500001⟩ }

theorem witness_ClaimOfAHeldElementIsQueuedOrTurnedAway :
    (let s := contested.setSlot 19 (robot 19 2 4)
     s.awake ∧ takenFrom { slot := (19 : Byte).toNat, tag := 19, body := .claim (5 : Byte).toNat } s s
      ∧ acceptedFrom (19 : Byte).toNat 19 s ∧ openTo (19 : Byte).toNat (5 : Byte).toNat s
      ∧ (s.elemDef (5 : Byte).toNat).side = none ∧ (s.slot (19 : Byte).toNat).tier = some 4
      ∧ (s.elemDef (5 : Byte).toNat).minTier ≤ 4 ∧ (s.claim (5 : Byte).toNat).barred = none
      ∧ (s.claim (5 : Byte).toNat).holder = some 2 ∧ (19 : Byte).toNat ∉ (s.claim (5 : Byte).toNat).waiters
      ∧ (s.slot (19 : Byte).toNat).holdCount < 2 ∧ (s.slot (19 : Byte).toNat).waitCount < 2
      ∧ (s.claim (5 : Byte).toNat).waiters.length < 4)
    ∧ (contested.awake ∧ openTo (19 : Byte).toNat (5 : Byte).toNat contested
      ∧ (contested.slot (19 : Byte).toNat).tier = some 1 ∧ 1 < (contested.elemDef (5 : Byte).toNat).minTier
      ∧ (contested.claim (5 : Byte).toNat).holder = some (2 : Byte).toNat
      ∧ (contested.claim (5 : Byte).toNat).holder ≠ some (14 : Byte).toNat
      ∧ (14 : Byte).toNat ∈ (contested.claim (5 : Byte).toNat).waiters)
    ∧ (full.awake ∧ takenFrom { slot := (2 : Byte).toNat, tag := 2, body := .claim (2 : Byte).toNat } full full
      ∧ acceptedFrom (2 : Byte).toNat 2 full
      ∧ (full.elemDef (2 : Byte).toNat).kind = .goal ∧ (full.elemDef (2 : Byte).toNat).side.isSome = true
      ∧ (full.elemDef (32 : Byte).toNat).side = some 2 ∧ 2 ≠ (full.slot (2 : Byte).toNat).alliance
      ∧ (full.claim (3 : Byte).toNat).barred = some { slot := (2 : Byte).toNat, left := 500001 }
      ∧ 2 ≤ (full.slot (2 : Byte).toNat).holdCount ∧ (full.claim (5 : Byte).toNat).holder ≠ some (2 : Byte).toNat)
    ∧ (4 ≤ (crowded.claim (5 : Byte).toNat).waiters.length ∧ (crowded.claim (5 : Byte).toNat).holder ≠ none
      ∧ (19 : Byte).toNat ∉ (crowded.claim (5 : Byte).toNat).waiters) :=
  ⟨⟨rfl, taken_fresh _ _ rfl rfl, ⟨by decide, by decide, by decide⟩,
      ⟨by decide, by decide, by decide, by decide, by decide, by decide, by decide⟩, by decide⟩,
    ⟨rfl, open_contested 19 (by decide), by decide⟩,
    ⟨rfl, taken_fresh _ _ rfl rfl, ⟨by decide, by decide, by decide⟩, by decide⟩, by decide⟩

theorem witness_ReleaseHandsTheElementOver :
    (contested.awake ∧ lawfulClaims contested
      ∧ takenFrom { slot := (2 : Byte).toNat, tag := 2, body := .release (5 : Byte).toNat } contested contested
      ∧ acceptedFrom (2 : Byte).toNat 2 contested ∧ contested.defined (5 : Byte).toNat = true
      ∧ contested.mode (5 : Byte).toNat = .opened ∧ contested.clock.phase = .running
      ∧ (contested.claim (5 : Byte).toNat).holder = some (2 : Byte).toNat)
    ∧ (contested.defined (32 : Byte).toNat = false
      ∧ takenFrom { slot := (8 : Byte).toNat, tag := 8, body := .release (5 : Byte).toNat } contested contested
      ∧ acceptedFrom (8 : Byte).toNat 8 contested
      ∧ (contested.claim (5 : Byte).toNat).holder ≠ some (8 : Byte).toNat
      ∧ (8 : Byte).toNat ∈ (contested.claim (5 : Byte).toNat).waiters
      ∧ (19 : Byte).toNat ∉ (contested.claim (5 : Byte).toNat).waiters)
    ∧ (staging.awake ∧ lawfulClaims staging ∧ staging.mode (5 : Byte).toNat = .opened ∧ staging.clock.phase ≠ .running
      ∧ staging.clock.phase ≠ .held)
    ∧ withdrawing.mode (5 : Byte).toNat = .withdrawn :=
  ⟨⟨rfl, lawful_contested, taken_fresh _ _ rfl rfl, ⟨by decide, by decide, by decide⟩, by decide⟩,
    ⟨by decide, taken_fresh _ _ rfl rfl, ⟨by decide, by decide, by decide⟩, by decide⟩,
    ⟨rfl, lawful_of_check _ (by decide), by decide⟩, by decide⟩

theorem witness_HoldExpiryRevokesAndBars :
    contested.awake ∧ contested.driveTime = true ∧ lawfulClaims contested ∧ contested.defined 5 = true
      ∧ (contested.claim 5).holder = some 2 ∧ (contested.claim 5).waiters.head? = some 8
      ∧ (contested.claim 5).holdTimer.isSome = true :=
  ⟨rfl, by decide, lawful_contested, by decide⟩

theorem witness_RevokeClaimTakesTheElement :
    contested.ready ∧ lawfulClaims contested ∧ 32 < (33 : Byte).toNat ∧ 24 < (25 : Byte).toNat ∧ 1 < (2 : Byte).toNat
      ∧ contested.defined (32 : Byte).toNat = false ∧ contested.defined (5 : Byte).toNat = true
      ∧ (contested.claim (3 : Byte).toNat).holder = none ∧ (contested.claim (5 : Byte).toNat).holder ≠ some (24 : Byte).toNat
      ∧ (contested.claim (5 : Byte).toNat).holder = some 2 :=
  ⟨⟨rfl, rfl⟩, lawful_contested, by decide⟩

theorem witness_ConsoleActuateAndPassThrough : play.ready ∧ calm.ready ∧ (play.elemDef (12 : Byte).toNat).kind = .dispenser :=
  ⟨⟨rfl, rfl⟩, ⟨rfl, rfl⟩, by decide⟩

theorem witness_RobotActuateIsChargedAndQueued :
    let s := play.setClaim 20 (held 14 [] 5)
    s.awake ∧ takenFrom { slot := (14 : Byte).toNat, tag := 14, body := .actuate (20 : Byte).toNat (8 : Byte).toNat } s s
      ∧ acceptedFrom (14 : Byte).toNat 14 s ∧ openTo (14 : Byte).toNat (20 : Byte).toNat s
      ∧ (s.elemDef 20).kind = .dispenser ∧ (s.claim 20).holder = some 14 ∧ s.quotaLeft 20 (s.slot 14).alliance = 6 :=
  ⟨rfl, taken_fresh _ _ rfl rfl, ⟨by decide, by decide, by decide⟩,
    ⟨by decide, by decide, by decide, by decide, by decide, by decide, by decide⟩, by decide⟩

theorem defined_beyond (s : State) (e : Nat) (h : 32 < e) : s.defined e = false := by
  unfold State.defined State.elemDef
  rw [at1_outside _ _ _ (by omega)]
  rfl

theorem light_beyond (s : State) (e : Nat) (h : 32 < e) : (s.light e).owed = false := by
  unfold State.light
  rw [at1_outside _ _ _ (by omega)]
  rfl

/-- A free bus with two entries waiting, and with light 5 owed. -/
def freeBus (count : Nat) : State :=
  { queuedPlay with bus := { queuedPlay.bus with current := none, commandCount := count } }
def owing : State := (freeBus 3).setLight 5 { (freeBus 3).light 5 with owed := true }

/-- A freed place waits while the queue holds a number of entries and light 5 is owed. -/
def waiting (entries : Nat) : State :=
  let s := onBus (.poll 6) (some 3000) ((owing.setQueue (List.replicate entries (lightEntry 9 .off))))
  { s with bus := { s.bus with freed := 1 } }

/-- R121: the place that another request has left is the owed light's, and behind a queue that it has filled the light stays
owed. -/
theorem test_settle_takes_a_waiting_place :
    ((settle (waiting 15)).light 5).owed = false ∧ (settle (waiting 15)).bus.queue.length = 16
      ∧ ((settle (waiting 16)).light 5).owed = true ∧ (settle (waiting 16)).bus.queue.length = 16
      ∧ (settle (waiting 16)).bus.freed = 0 := by decide

theorem witness_ArbitersChooseInTheirOrder :
    (queuedPlay.bus.current.isSome = true) ∧ (State.resetValues.bus.current = none ∧ State.resetValues.bus.haltPending = true)
    ∧ ((freeBus 3).bus.current = none ∧ (freeBus 3).bus.haltPending = false ∧ (freeBus 3).bus.queue ≠ []
      ∧ (freeBus 3).bus.commandCount < 4 ∧ (∀ e, ((freeBus 3).light e).owed = false))
    ∧ ((owing.light 5).owed = true ∧ (∀ k, k < 5 → (owing.light k).owed = false) ∧ owing.bus.queue.length - 1 < 16)
    ∧ ((freeBus 4).bus.current = none ∧ 4 ≤ (freeBus 4).bus.commandCount ∧ (freeBus 4).defined 2 = true
      ∧ (freeBus 4).bus.lastPolled < 2 ∧ ∀ k, (freeBus 4).bus.lastPolled < k → k < 2 → (freeBus 4).defined k = false)
    ∧ (let s := { freeBus 4 with bus := { (freeBus 4).bus with lastPolled := 20 } }
       s.defined 2 = true ∧ (∀ k, s.bus.lastPolled < k → s.defined k = false) ∧ ∀ k, k < 2 → s.defined k = false)
    ∧ ((waiting 15).resetAsserted = false ∧ (waiting 15).pending = [] ∧ (waiting 15).bus.freed ≠ 0)
    ∧ (State.resetValues.link.port = none ∧ State.resetValues.link.beaconDue = true)
    ∧ (calm.bus.haltPending = false ∧ calm.bus.queue = [] ∧ (∀ e, calm.defined e = false) ∧ calm.link.beaconDue = false
      ∧ calm.link.replies = []) :=
  ⟨by decide, by decide,
    ⟨by decide, by decide, by decide, by decide, all_numbers 32 (by decide) fun e he => light_beyond _ e he⟩,
    by decide,
    ⟨by decide, by decide, by decide, by decide, all_numbers 32 (by decide) fun _ he _ _ => defined_beyond _ _ he⟩,
    ⟨by decide, all_numbers 32 (by decide) fun _ he _ => defined_beyond _ _ he, by decide⟩, by decide, by decide,
    by decide, by decide, all_numbers 32 (by decide) fun _ he => defined_beyond _ _ he, by decide⟩

theorem witness_GoodAnswersActByTheirTransaction :
    (let s := onBus .halt none play
     s.awake ∧ s.bus.current = some { request := .halt, window := none })
    ∧ (let s := onBus (.poll 20) (some 1) (actInFlight 20 .console play)
       s.awake ∧ s.bus.current = some { request := .poll 20, window := some 1 } ∧ s.defined 20 = true ∧ 4 ≤ 4 ∧ 3 ≤ 3
        ∧ (s.act 20).state = .inFlight)
    ∧ (let s := onBus (.actuate 20 8) (some 1) play
       s.awake ∧ s.bus.current = some { request := .actuate 20 8, window := some 1 } ∧ s.defined 20 = true)
    ∧ (let s := onBus (.poll 20) (some 1) ((actInFlight 20 .console play).setRun 20 { play.run 20 with withdrawPending := true })
       s.awake ∧ s.defined 20 = true ∧ (s.act 20).state = .inFlight ∧ 2 ≤ 2 ∧ (s.run 20).withdrawPending = true)
    ∧ (let s := onBus (.light 20 (.lit .fast .white)) (some 1) play
       s.bus.current = some { request := .light 20 (.lit .fast .white), window := some 1 } ∧ s.defined 20 = true)
    ∧ ((onBus (.raw 32 [1]) (some 1) play).bus.current = some { request := .raw 32 [1], window := some 1 }
      ∧ (List.replicate 8 (0 : Byte)).length ≤ 8)
    ∧ (.poll 20 : BusRequest) ≠ .halt :=
  ⟨⟨rfl, by decide⟩, ⟨rfl, by decide⟩, ⟨rfl, by decide⟩, ⟨rfl, by decide⟩, by decide, by decide, by decide⟩

/-- Bytes that fail the check are the third miss in a row of an ACTUATE with a withdrawal pending: CHECK, then ABSENT. -/
def thirdMiss : State :=
  (onBus (.actuate 20 8) (some 1) (play.setAct 20 { restAct with state := .queued, origin := some .console })).setRun 20
    { play.run 20 with missCount := 2, withdrawPending := true }

/-- R60 to R62: the capture keeps the graver of the two faults with its repeat mark, and the tally counts both. -/
theorem test_third_failed_check_records_check_and_absent :
    let s := after (.busAnswer [0xC3]) thirdMiss
    (s.run 20).presence = .absent ∧ (s.run 20).faultTally = (thirdMiss.run 20).faultTally + 2
      ∧ s.table.capture.map (·.kind) = some .absent ∧ s.table.repeated = true ∧ (s.run 20).withdrawn = true := by decide

theorem witness_MissedAnswersAndTimersRunOut :
    (let s := thirdMiss
     s.awake ∧ s.bus.current = some { request := .actuate 20 8, window := some 1 } ∧ busAddress (.actuate 20 8) = 20
      ∧ s.defined 20 = true ∧ (s.run 20).presence ≠ .absent ∧ 2 ≤ (s.run 20).missCount
      ∧ goodAnswerOf (.actuate 20 8) [0xC3] = none ∧ (s.act 20).origin = some .console)
    ∧ (let s := (onBus (.raw 20 [1]) (some 1) play).setRun 20 { play.run 20 with missCount := 3, presence := .absent }
       s.awake ∧ s.bus.current = some { request := .raw 20 [1], window := some 1 } ∧ busAddress (.raw 20 [1]) = 20
        ∧ s.defined 20 = true ∧ (s.run 20).presence = .absent ∧ goodAnswerOf (.raw 20 [1]) [] = none)
    ∧ (let s := onBus (.raw 32 [1]) (some 1) play
       s.awake ∧ busAddress (.raw 32 [1]) = 32 ∧ s.defined 32 = false ∧ (s.run 32).presence ≠ .absent
        ∧ (s.run 32).missCount < 2 ∧ busAddress (.light 32 .off) = 32)
    ∧ (let s := onBus (.light 20 .off) (some 1) play
       s.awake ∧ s.bus.current = some { request := .light 20 .off, window := some 1 } ∧ s.lightQueued 20 = false
        ∧ (s.setQueue [lightEntry 20 .off]).lightQueued 20 = true)
    ∧ (play.defined 5 = true ∧ (play.light 5).issued ≠ some (play.display 5)
      ∧ (∀ y ∈ play.bus.queue, y.isLightFor 5 = false) ∧ play.bus.queue.length < 16 ∧ play.defined 32 = false
      ∧ (lightEntry 5 .off).isLightFor 5 = true ∧ (List.replicate 16 (lightEntry 6 .off)).length = 16
      ∧ (lightEntry 6 .off).isLightFor 5 = false
      ∧ ((play.setLight 5 { play.light 5 with issued := some .off }).light 5).issued = some (play.display 5))
    ∧ (calm.awake ∧ calm.bus.current = none)
    ∧ (let s := actInFlight 5 .console play
       s.awake ∧ s.defined 5 = true ∧ (s.act 5).state = .inFlight ∧ (s.act 5).timer.isSome = true)
    ∧ ((play.setLight 6 { play.light 6 with pulse := some 1 }).light 6).pulse.isSome = true :=
  ⟨⟨rfl, by decide⟩, ⟨rfl, by decide⟩, ⟨rfl, by decide⟩, ⟨rfl, by decide⟩, by decide, ⟨rfl, by decide⟩, ⟨rfl, by decide⟩,
    by decide⟩

theorem witness_PenalizeAndAwardSettleTheScore :
    (staging.ready ∧ staging.clock.phase = .staging) ∧ (play.ready ∧ play.clock.phase ≠ .idle ∧ play.clock.phase ≠ .staging
      ∧ play.settings.allianceCount < (3 : Byte).toNat ∧ (2 : Byte).toNat ≤ play.settings.allianceCount
      ∧ play.settings.allianceCount ≤ 4) :=
  ⟨⟨⟨rfl, rfl⟩, by decide⟩, ⟨rfl, rfl⟩, by decide⟩

theorem witness_ArrivalsAndTowerSecondsAreCredited :
    (let s := (onBus (.poll 6) (some 1) (play.setClaim 6 (held 8 [] 5))).setElemScore 6
       { freshScore goalNeutral with baseline := some 255 }
     s.awake ∧ s.currentPeriod = some ⟨.driver, 1200, 8, false⟩
      ∧ s.bus.current = some { request := .poll 6, window := some 1 } ∧ (s.elemDef 6).kind = .goal
      ∧ (s.elemScore 6).baseline = some 255 ∧ (2 : Nat) ≠ 255 ∧ (s.act 6).state = .none ∧ s.clock.phase = .running
      ∧ (s.run 6).withdrawn = false ∧ (s.elemDef 6).side = none ∧ s.holderAlliance 6 = some 2)
    ∧ ((play.elemDef 2).side = some 1)
    ∧ (let s := play.setClaim 7 (held 8 [] 5)
       s.awake ∧ s.currentPeriod = some ⟨.driver, 1200, 8, false⟩ ∧ (s.elemDef 7).kind = .tower
        ∧ s.holderAlliance 7 = some 2 ∧ s.driveTime = true)
    ∧ (let s := inPhase .held expiring
       s.driveTime = false ∧ 1000000 ≤ (s.elemScore 7).accumulator ∧ s.holderAlliance 7 = some 2)
    ∧ (let s := (onBus (.poll 6) (some 1) play).setElemScore 6 { freshScore goalNeutral with baseline := some 255 }
       s.awake ∧ s.bus.current = some { request := .poll 6, window := some 1 } ∧ (s.elemDef 6).kind = .goal
        ∧ (s.act 6).state ≠ .inFlight ∧ (s.elemScore 6).baseline = some 255 ∧ (s.elemDef 6).side = none
        ∧ (s.claim 6).holder = none ∧ (inPhase .finished s).clock.phase = .finished
        ∧ (play.elemScore 6).baseline = none) :=
  ⟨⟨rfl, by decide⟩, by decide, ⟨rfl, by decide⟩, by decide, rfl, by decide⟩

theorem witness_ConsoleWritesAndReadsTheBox :
    (boxed .robot true).ready ∧ 24 < (25 : Byte).toNat ∧ (boxed .robot true).box (24 : Byte).toNat = none
      ∧ ((boxed .robot true).box (8 : Byte).toNat).map (fun m => m.bytes.length) = some 5 ∧ (4 : Byte).toNat < 5
      ∧ 5 ≤ (5 : Byte).toNat :=
  ⟨⟨rfl, rfl⟩, by decide⟩

theorem witness_RobotWritesAndReadsTheBox :
    let s := boxed .console true
    s.awake ∧ acceptedFrom (8 : Byte).toNat 8 s
      ∧ takenFrom { slot := (8 : Byte).toNat, tag := 8, body := .mailPut (List.replicate 48 1) } s s
      ∧ takenFrom { slot := (8 : Byte).toNat, tag := 8, body := .mailRead (4 : Byte).toNat } s s
      ∧ (s.slot (8 : Byte).toNat).state = .admitted ∧ (s.slot (7 : Byte).toNat).state ≠ .admitted
      ∧ (s.slot (7 : Byte).toNat).state ≠ .disabled ∧ s.box (7 : Byte).toNat = none
      ∧ (s.box (8 : Byte).toNat).map (fun m => m.bytes.length) = some 5 ∧ s.ready :=
  ⟨rfl, ⟨by decide, by decide, by decide⟩, taken_fresh _ _ rfl rfl, taken_fresh _ _ rfl rfl, by decide, by decide, by decide,
    by decide, by decide, rfl, rfl⟩

theorem witness_UplinkFramesReadBackAsSent :
    (let f : UplinkFrame := { slot := 24, tag := 0xFFFF, body := .actuate 255 255 }
     frameOk f = true ∧ bodyFits f.body = true)
    ∧ (let f : UplinkFrame := { slot := 0, tag := 0, body := .mailPut (List.replicate 48 0xFF) }
       frameOk f = true ∧ bodyFits f.body = true) := by decide

theorem witness_UplinkArrivalAndDownlinkPort :
    (calm.awake ∧ uplinkFrameOf [0x5A] = none)
    ∧ (let s := { play with link := { play.link with port := some ⟨2, 2, .answer 5 5 .granted 100⟩, beaconDue := true } }
       s.awake ∧ s.link.port.isSome = true ∧ s.link.beaconDue = true)
    ∧ (let s := { play with link := { play.link with
         port := some ⟨2, 2, .answer 5 5 .granted 100⟩, replies := [⟨8, 8, .answer 5 5 .queued 1⟩] } }
       s.link.port.isSome = true ∧ s.link.beaconDue = false ∧ s.link.replies = ⟨8, 8, .answer 5 5 .queued 1⟩ :: [])
    ∧ (let s := { play with link := { play.link with beaconTimer := some 1 } }
       s.link.beaconTimer.isSome = true ∧ s.link.port.isSome = false) :=
  ⟨⟨rfl, by decide⟩, ⟨rfl, by decide⟩, ⟨by decide, by decide, rfl⟩, by decide⟩

/-- A step that a law's obligation speaks of: gate 5 is released in play. -/
theorem witness_ClaimLawKeptByEveryStep :
    lawfulClaims { contested with pending := [.release 2 2 5] }
      ∧ step { contested with pending := [.release 2 2 5] } = .next (after (.release 2 2 5) contested) :=
  ⟨lawful_contested, rfl⟩

theorem witness_PlayAndWithdrawalLawsKeptByEveryStep :
    playLaw contested ∧ withdrawalLaw play :=
  ⟨playLaw_of_check _ (by decide), all_numbers 32 (by decide) fun e he => by
    have h : play.run e = freshRun undefinedElement := at1_outside _ _ _ (by omega)
    rw [h]
    exact ⟨by decide, fun hp => absurd hp (by decide)⟩⟩

theorem witness_StopAndClockLawsKeptByEveryStep : stopLaw play ∧ clockLaw play := by
  refine ⟨⟨by decide, by decide, by decide⟩, by decide, by decide, by decide, by decide, by decide, by decide, by decide, ?_⟩
  intro p hp
  have : p = plan := by simpa [play, staging, field] using hp.symm
  subst this
  unfold planInRange
  decide

theorem witness_RosterLawKeptByEveryStep : rosterLaw play :=
  all_numbers 24 (by decide) fun n hn => by
    rw [slot_beyond play n hn]
    decide

theorem witness_LightLawKeptByEveryStep : lightLaw play :=
  all_numbers 32 (by decide) fun e he => by
    refine ⟨fun h => ?_, ?_⟩
    · rw [light_beyond play e he] at h
      exact absurd h (by decide)
    · have : play.bus.queue = [] := rfl
      rw [this]
      exact Nat.zero_le 1

theorem act_beyond (s : State) (e : Nat) (h : 32 < e) : s.act e = restAct := at1_outside _ _ _ (by omega)

/-- Dispenser 20 is queued with its charge, gate 3 is queued, and a RAW waits. -/
theorem witness_BusLawKeptByEveryStep : busLaw queuedPlay := by
  refine ⟨all_numbers 32 (by decide) fun e he => ?_, by decide⟩
  rw [act_beyond queuedPlay e he]
  have hq : queuedPlay.bus.queue.map Entry.element = [20, 3, 30] := by decide
  have hn : (queuedPlay.bus.queue.filter (·.isActuateFor e)) = [] := by
    rw [List.filter_eq_nil_iff]
    intro x hx hx'
    have hm : x.element ∈ queuedPlay.bus.queue.map Entry.element := List.mem_map_of_mem hx
    rw [hq] at hm
    simp only [Entry.isActuateFor, Bool.and_eq_true, beq_iff_eq] at hx'
    simp at hm
    omega
  rw [hn]
  have hb : actuateOnBus queuedPlay.bus e = false := rfl
  rw [hb]
  decide

theorem witness_QueuesAndScoresStayWithinTheirPlaces : queueLaw play ∧ scoreLaw play := by
  refine ⟨⟨by decide, by decide, by decide, by decide, fun n => ?_, by decide⟩, all_numbers 4 (by decide) fun a ha => ?_⟩
  · have : play.link.uplink = [] := rfl
    rw [this]
    exact Nat.zero_le 2
  · have h : play.alliance a = zeroAlliance := at1_outside _ _ _ (by omega)
    rw [h]
    decide

theorem sides_of_check (c : Nat) (defs : Vector ElementDef 32)
    (h : ∀ e ∈ List.range 33, (at1 defs e undefinedElement).side.all (· ≤ c) = true) : sidesWithin c defs := by
  intro e a _ hs
  by_cases he : e < 33
  · have := h e (List.mem_range.mpr he)
    rw [hs] at this
    simpa using this
  · rw [at1_outside _ _ _ (by omega)] at hs
    have hn : undefinedElement.side = none := rfl
    rw [hn] at hs
    exact absurd hs (by simp)

theorem factory_in_range : settingsInRange factorySettings := by
  refine ⟨by decide, by decide, by decide, by decide, fun t h1 h4 => ?_, by decide⟩
  have h : t = 1 ∨ t = 2 ∨ t = 3 ∨ t = 4 := by omega
  rcases h with rfl | rfl | rfl | rfl <;> decide

theorem no_write : play.store.writing = none := rfl

theorem witness_SettingsStayInRange : settingsLaw play ∧ allianceLaw play := by
  refine ⟨⟨factory_in_range, factory_in_range, fun w hw => absurd (no_write.symm.trans hw) (by simp)⟩, all_numbers 24 (by decide) fun n hn => ?_,
    sides_of_check _ _ (by decide), sides_of_check _ _ (by decide), fun w hw => absurd (no_write.symm.trans hw) (by simp)⟩
  rw [slot_beyond play n hn]
  decide

end Sys2Proof.Tests
end

section
/-! PROOFS. RESTORE TIERS: how a served console request answers, the slot numbers it refuses, and what it leaves (R34). -/

namespace Sys2Proof.Machine

/-- With RESET released and the holding place EMPTY, a record is served in the state with the receiver done, and the
kind of its reply is the kind plus 80h (R172, R174, R176). -/
theorem consoleRequest_of_ready {s : State} (hs : s.ready) {kind : Nat} (hk : kind < 0x80) (serve : State → Served) :
    consoleRequest kind serve s = replied kind (serve (receiverDone s)).outcome (serve (receiverDone s)).fields
      (serve (receiverDone s)).state := by
  obtain ⟨hreset, hheld⟩ := hs
  simp [consoleRequest, whenAwake, offerRecord, replied, replyKind, hreset, hheld, hk]

/-- The slot numbers that are refused BAD_ARG (R180). -/
theorem slotInRange_eq_false_iff (x : Byte) : slotInRange x.toNat = false ↔ x = 0 ∨ 24 < x.toNat := by
  have hzero : x = 0 ↔ x.toNat = 0 := by bv_omega
  simp only [slotInRange, Bool.and_eq_false_iff, decide_eq_false_iff_not, hzero]
  omega

theorem serveRestoreTiers_of_outOfRange {n : Nat} {s : State} (hn : slotInRange n = false) :
    serveRestoreTiers n s = refuse .badArg s := by
  simp [serveRestoreTiers, hn]

theorem serveRestoreTiers_of_empty {n : Nat} {s : State} (hn : slotInRange n = true) (he : (s.slot n).state = .empty) :
    serveRestoreTiers n s = refuse .badState s := by
  simp [serveRestoreTiers, hn, he]

theorem serveRestoreTiers_of_registered {n : Nat} {s : State} (hn : slotInRange n = true)
    (he : (s.slot n).state ≠ .empty) :
    serveRestoreTiers n s = carryOut (s.setSlot n { s.slot n with permitted := allTiers, attempts := 0 }) := by
  simp [serveRestoreTiers, hn, he, State.modSlot]

theorem exec_restoreTiers_of_ready {s : State} (hs : s.ready) (x : Byte) :
    exec (.restoreTiers x) s = .next (replied 0x26 (serveRestoreTiers x.toNat (receiverDone s)).outcome
      (serveRestoreTiers x.toNat (receiverDone s)).fields (serveRestoreTiers x.toNat (receiverDone s)).state) :=
  congrArg Host.Outcome.next (consoleRequest_of_ready hs (by decide) _)

/-- Settles O30, by the branches of the request: the number out of range, the slot EMPTY, the slot registered. -/
theorem restoreTiersPermitsEveryTier : Obligations.RestoreTiersPermitsEveryTier := by
  intro s x hs
  have hslot : (receiverDone s).slot x.toNat = s.slot x.toNat := (receiverDone_reads s).1 _
  rw [exec_restoreTiers_of_ready hs]
  by_cases hout : x = 0 ∨ 24 < x.toNat
  · rw [if_pos hout, serveRestoreTiers_of_outOfRange ((slotInRange_eq_false_iff x).mpr hout)]
    rfl
  · have hin : slotInRange x.toNat = true := by
      rwa [← slotInRange_eq_false_iff, Bool.not_eq_false] at hout
    rw [if_neg hout]
    by_cases hempty : (s.slot x.toNat).state = .empty
    · rw [if_pos hempty, serveRestoreTiers_of_empty hin (hslot ▸ hempty)]
      rfl
    · rw [if_neg hempty, serveRestoreTiers_of_registered hin (hslot ▸ hempty), hslot]
      rfl

end Sys2Proof.Machine
end

section
/-! PROOFS. The recomputation of a light and the leaving of wait lists: what each writes, as an equation on the records
that it reads and writes (R66, R67, R117, R119). -/

namespace Sys2Proof.Machine

theorem claim_outside {e : Nat} (he : ¬(1 ≤ e ∧ e ≤ 32)) (s : State) : s.claim e = emptyClaim := at1_outside _ _ _ he

theorem slot_outside {n : Nat} (hn : ¬(1 ≤ n ∧ n ≤ 24)) (s : State) : s.slot n = vacantSlot := at1_outside _ _ _ hn

/-- A number outside 1..32 reads as an undefined element (R45). -/
theorem element_range_of_defined {s : State} {e : Nat} (hd : s.defined e = true) : 1 ≤ e ∧ e ≤ 32 := by
  by_contra hout
  have hnone : s.elemDef e = undefinedElement := at1_outside _ _ _ hout
  rw [State.defined, hnone] at hd
  exact absurd hd (by decide)

/-- A number outside 1..24 reads as an EMPTY slot, so a registered slot has a number in range. -/
theorem slot_range_of_registered {s : State} {n : Nat} (hn : (s.slot n).state ≠ .empty) : 1 ≤ n ∧ n ≤ 24 := by
  by_contra hout
  rw [slot_outside hout] at hn
  exact hn rfl

-- The light of an element

/-- A light record keeps what an issuing leaves alone: the display it was given, the pulse and the last credit. -/
theorem issueLight_light_same {e : Nat} (he : 1 ≤ e ∧ e ≤ 32) (l : Light) (s : State) :
    ((issueLight e l s).light e).computed = l.computed ∧ ((issueLight e l s).light e).pulse = l.pulse
      ∧ ((issueLight e l s).light e).lastCredited = l.lastCredited := by
  unfold issueLight
  split_ifs <;> simp [light_setLight, he]

theorem issueLight_light_other {e k : Nat} (hk : k ≠ e) (l : Light) (s : State) :
    (issueLight e l s).light k = s.light k := by
  unfold issueLight
  split_ifs <;> simp [light_setLight, hk]

theorem recompute_light_other {e k : Nat} (hk : k ≠ e) (s : State) : (recompute e s).light k = s.light k := by
  unfold recompute
  split
  · exact issueLight_light_other hk _ s
  · rfl

/-- The computed display reads these records and no others (R117). -/
theorem display_congr {e : Nat} {s v : State} (hdef : v.elemDef e = s.elemDef e) (hrun : v.run e = s.run e)
    (hclaim : v.claim e = s.claim e) (hpulse : (v.light e).pulse = (s.light e).pulse)
    (hcredit : (v.light e).lastCredited = (s.light e).lastCredited)
    (halliance : ∀ n, (v.slot n).alliance = (s.slot n).alliance) : v.display e = s.display e := by
  have hholder : v.holderAlliance e = s.holderAlliance e := by simp only [State.holderAlliance, hclaim, halliance]
  unfold State.display State.defined displayInPlay
  rw [hdef, hrun, hclaim, hpulse, hcredit, hholder]

/-- The light record of an element agrees with the state it shows (R116, R119). -/
def showsState (e : Nat) (s : State) : Prop := (s.light e).computed = s.display e

theorem showsState_recompute {e : Nat} {s : State} (hd : s.defined e = true) : showsState e (recompute e s) := by
  have hlight : recompute e s = issueLight e { s.light e with computed := s.display e } s := by simp [recompute, hd]
  obtain ⟨hcomputed, hpulse, hcredit⟩ :=
    issueLight_light_same (element_range_of_defined hd) { s.light e with computed := s.display e } s
  have hdisplay : (recompute e s).display e = s.display e :=
    display_congr (by simp) (by simp) (by simp) (by rw [hlight, hpulse]) (by rw [hlight, hcredit]) (by simp)
  rw [showsState, hdisplay, hlight, hcomputed]

-- One wait list, and all of them

/-- A slot that leaves a list is erased from it, also where it does not stand in it (R66). -/
theorem leaveList_claim_same (n e : Nat) (s : State) :
    (leaveList n e s).claim e = { s.claim e with waiters := (s.claim e).waiters.erase n } := by
  unfold leaveList
  split
  · next hmem =>
    have he : 1 ≤ e ∧ e ≤ 32 := by
      by_contra hout
      rw [claim_outside hout] at hmem
      exact absurd hmem (by simp [emptyClaim])
    simp [claim_setClaim, he]
  · next hmem =>
    rw [List.erase_of_not_mem (by simpa using hmem)]

theorem leaveList_claim_other {e k : Nat} (hk : k ≠ e) (n : Nat) (s : State) :
    (leaveList n e s).claim k = s.claim k := by
  unfold leaveList
  split
  · simp [claim_setClaim, hk]
  · rfl

theorem leaveList_slot_other {n k : Nat} (hk : k ≠ n) (e : Nat) (s : State) :
    (leaveList n e s).slot k = s.slot k := by
  unfold leaveList
  split
  · simp [countWait, slot_modSlot, hk]
  · rfl

/-- Of the slot that leaves, only the wait count changes (R67). -/
theorem leaveList_slot_same (n e : Nat) (s : State) (w : Nat) :
    { (leaveList n e s).slot n with waitCount := w } = { s.slot n with waitCount := w } := by
  unfold leaveList
  split
  · by_cases hn : 1 ≤ n ∧ n ≤ 24 <;> simp [countWait, slot_modSlot, hn]
  · rfl

/-- The light of an element in whose list the slot does not stand is not touched (R119). -/
theorem leaveList_light {n k : Nat} {s : State} (hk : n ∉ (s.claim k).waiters) (e : Nat) :
    (leaveList n e s).light k = s.light k := by
  unfold leaveList
  split
  · next hmem =>
    have hne : k ≠ e := fun h => hk (by simpa [h] using hmem)
    simp [recompute_light_other hne]
  · rfl

theorem leaveLists_claim (n : Nat) (l : List Nat) (hl : l.Nodup) (s : State) (k : Nat) :
    (l.foldl (fun s e => leaveList n e s) s).claim k
      = if k ∈ l then { s.claim k with waiters := (s.claim k).waiters.erase n } else s.claim k := by
  induction l generalizing s with
  | nil => simp
  | cons e l ih =>
    obtain ⟨hhead, htail⟩ := List.nodup_cons.mp hl
    rw [List.foldl_cons, ih htail]
    by_cases hk : k = e
    · subst hk
      simp [hhead, leaveList_claim_same]
    · simp [hk, leaveList_claim_other hk]

/-- A slot that leaves every list is erased from each, since no element but 1..32 has a claim state (R66, R67). -/
theorem leaveAllLists_claim (n k : Nat) (s : State) :
    (leaveAllLists n s).claim k = { s.claim k with waiters := (s.claim k).waiters.erase n } := by
  simp only [leaveAllLists, modSlot_reads, leaveLists_claim n elementNumbers (by decide)]
  split
  · rfl
  · next hk =>
    have hout : ¬(1 ≤ k ∧ k ≤ 32) := by
      simp only [elementNumbers, List.mem_range'_1] at hk
      omega
    simp [claim_outside hout, emptyClaim]

theorem leaveAllLists_slot_other {n k : Nat} (hk : k ≠ n) (s : State) : (leaveAllLists n s).slot k = s.slot k := by
  simp only [leaveAllLists, slot_modSlot, hk, false_and, if_false]
  exact foldl_keep (fun s => s.slot k) _ (fun s e => leaveList_slot_other hk e s) _ _

/-- Of the slot that leaves every list, only the wait count changes, to 0 (R67). -/
theorem leaveAllLists_slot_same (n : Nat) (s : State) :
    (leaveAllLists n s).slot n = { s.slot n with waitCount := 0 } := by
  by_cases hn : 1 ≤ n ∧ n ≤ 24
  · simp only [leaveAllLists, slot_modSlot, hn, and_self, if_true]
    exact foldl_keep (fun s => { s.slot n with waitCount := 0 }) _ (fun s e => leaveList_slot_same n e s 0) _ _
  · simp only [slot_outside hn]
    rfl

theorem leaveAllLists_light {n k : Nat} {s : State} (hk : n ∉ (s.claim k).waiters) :
    (leaveAllLists n s).light k = s.light k := by
  have hfold := foldl_inv (fun t => n ∉ (t.claim k).waiters ∧ t.light k = s.light k) (fun s e => leaveList n e s)
    (fun t e ⟨hnot, hlight⟩ => ⟨by
      by_cases he : k = e
      · subst he
        rw [leaveList_claim_same]
        exact fun h => hnot (List.mem_of_mem_erase h)
      · rwa [leaveList_claim_other he], (leaveList_light hnot e).trans hlight⟩) elementNumbers s ⟨hk, rfl⟩
  simp only [leaveAllLists, modSlot_reads, hfold]

end Sys2Proof.Machine
end

section
/-! PROOFS. The handover of an element: what becoming the holder writes, and that a handover brings about all of R79. -/

namespace Sys2Proof.Machine

-- Becoming the holder (R73, R79)

/-- The holding of an element begins, before the waits of the new holder are looked at: steps 1 and 3 of R79. -/
def beginHold (n e : Nat) (s : State) : State :=
  recompute e (clearAccumulator e (countHold n true
    (s.setClaim e { s.claim e with holder := some n, holdTimer := freshHold (s.elemDef e) })))

theorem beginHold_claim_same {e : Nat} (he : 1 ≤ e ∧ e ≤ 32) (n : Nat) (s : State) :
    (beginHold n e s).claim e = { s.claim e with holder := some n, holdTimer := freshHold (s.elemDef e) } := by
  simp [beginHold, claim_setClaim, he]

theorem beginHold_claim_other {e k : Nat} (hk : k ≠ e) (n : Nat) (s : State) :
    (beginHold n e s).claim k = s.claim k := by
  simp [beginHold, claim_setClaim, hk]

theorem beginHold_slot_same {n : Nat} (hn : 1 ≤ n ∧ n ≤ 24) (e : Nat) (s : State) :
    (beginHold n e s).slot n = { s.slot n with holdCount := (s.slot n).holdCount + 1 } := by
  simp [beginHold, countHold, slot_modSlot, hn]

theorem beginHold_slot_other {n k : Nat} (hk : k ≠ n) (e : Nat) (s : State) :
    (beginHold n e s).slot k = s.slot k := by
  simp [beginHold, countHold, slot_modSlot, hk]

theorem beginHold_accumulator {e : Nat} (he : 1 ≤ e ∧ e ≤ 32) (n : Nat) (s : State) :
    ((beginHold n e s).elemScore e).accumulator = 0 := by
  simp [beginHold, clearAccumulator, elemScore_setElemScore, he]

theorem beginHold_showsState {e : Nat} {s : State} (hd : s.defined e = true) (n : Nat) :
    showsState e (beginHold n e s) :=
  showsState_recompute (by simpa using hd)

/-- With its second hold a slot leaves every wait list (R67, R79 step 4). -/
theorem becomeHolder_eq {n : Nat} (hn : 1 ≤ n ∧ n ≤ 24) (e : Nat) (s : State) :
    becomeHolder n e s
      = if (s.slot n).holdCount = 1 then leaveAllLists n (beginHold n e s) else beginHold n e s := by
  have hcount : ((beginHold n e s).slot n).holdCount = 2 ↔ (s.slot n).holdCount = 1 := by
    simp [beginHold_slot_same hn]
  exact if_congr hcount rfl rfl

theorem becomeHolder_claim_same {n e : Nat} {s : State} (hn : 1 ≤ n ∧ n ≤ 24) (he : 1 ≤ e ∧ e ≤ 32)
    (hnot : n ∉ (s.claim e).waiters) : (becomeHolder n e s).claim e
      = { s.claim e with holder := some n, holdTimer := freshHold (s.elemDef e) } := by
  rw [becomeHolder_eq hn]
  split
  · simp [leaveAllLists_claim, beginHold_claim_same he, List.erase_of_not_mem hnot]
  · exact beginHold_claim_same he n s

theorem becomeHolder_claim_other {n e k : Nat} (hn : 1 ≤ n ∧ n ≤ 24) (hk : k ≠ e) (s : State) :
    (becomeHolder n e s).claim k = { s.claim k with
      waiters := if (s.slot n).holdCount = 1 then (s.claim k).waiters.erase n else (s.claim k).waiters } := by
  rw [becomeHolder_eq hn]
  split
  · simp [leaveAllLists_claim, beginHold_claim_other hk]
  · exact beginHold_claim_other hk n s

theorem becomeHolder_slot_same {n : Nat} (hn : 1 ≤ n ∧ n ≤ 24) (e : Nat) (s : State) :
    (becomeHolder n e s).slot n = { s.slot n with
      holdCount := (s.slot n).holdCount + 1,
      waitCount := if (s.slot n).holdCount = 1 then 0 else (s.slot n).waitCount } := by
  rw [becomeHolder_eq hn]
  split
  · simp [leaveAllLists_slot_same, beginHold_slot_same hn]
  · exact beginHold_slot_same hn e s

theorem becomeHolder_slot_other {n k : Nat} (hn : 1 ≤ n ∧ n ≤ 24) (hk : k ≠ n) (e : Nat) (s : State) :
    (becomeHolder n e s).slot k = s.slot k := by
  rw [becomeHolder_eq hn]
  split
  · rw [leaveAllLists_slot_other hk, beginHold_slot_other hk]
  · exact beginHold_slot_other hk e s

theorem becomeHolder_accumulator {n e : Nat} (hn : 1 ≤ n ∧ n ≤ 24) (he : 1 ≤ e ∧ e ≤ 32) (s : State) :
    ((becomeHolder n e s).elemScore e).accumulator = 0 := by
  rw [becomeHolder_eq hn]
  split
  · simpa using beginHold_accumulator he n s
  · exact beginHold_accumulator he n s

/-- The lists that the new holder leaves are of other elements, so this element's light keeps showing its state. -/
theorem becomeHolder_showsState {n e : Nat} {s : State} (hn : 1 ≤ n ∧ n ≤ 24) (hd : s.defined e = true)
    (hnot : n ∉ (s.claim e).waiters) : showsState e (becomeHolder n e s) := by
  have hbegun : showsState e (beginHold n e s) := beginHold_showsState hd n
  rw [becomeHolder_eq hn]
  split
  · have hclaim := beginHold_claim_same (element_range_of_defined hd) n s
    have hnot' : n ∉ ((beginHold n e s).claim e).waiters := by rwa [hclaim]
    have hlight := leaveAllLists_light hnot'
    have hdisplay : (leaveAllLists n (beginHold n e s)).display e = (beginHold n e s).display e :=
      display_congr (by simp) (by simp) (by simp [leaveAllLists_claim, List.erase_of_not_mem hnot']) (by rw [hlight])
        (by rw [hlight]) (by simp)
    rw [showsState, hlight, hdisplay]
    exact hbegun
  · exact hbegun

-- The handover of an element without a holder (R79)

theorem handover_of_noWaiter {e : Nat} {s : State} (hw : (s.claim e).waiters = []) :
    handover e s = recompute e (clearAccumulator e s) := by
  simp [handover, hw]

/-- The head of the wait list has left it, and its wait count is one less: step 2 of R79. -/
def popWaiter (n e : Nat) (rest : List Nat) (s : State) : State :=
  countWait n false (s.setClaim e { s.claim e with waiters := rest })

theorem handover_of_waiter {n e : Nat} {rest : List Nat} {s : State} (hw : (s.claim e).waiters = n :: rest) :
    handover e s = becomeHolder n e (popWaiter n e rest s) := by
  simp [handover, popWaiter, hw]

theorem popWaiter_claim_same {e : Nat} (he : 1 ≤ e ∧ e ≤ 32) (n : Nat) (rest : List Nat) (s : State) :
    (popWaiter n e rest s).claim e = { s.claim e with waiters := rest } := by
  simp [popWaiter, claim_setClaim, he]

theorem popWaiter_claim_other {e k : Nat} (hk : k ≠ e) (n : Nat) (rest : List Nat) (s : State) :
    (popWaiter n e rest s).claim k = s.claim k := by
  simp [popWaiter, claim_setClaim, hk]

theorem popWaiter_slot_same {n : Nat} (hn : 1 ≤ n ∧ n ≤ 24) (e : Nat) (rest : List Nat) (s : State) :
    (popWaiter n e rest s).slot n = { s.slot n with waitCount := (s.slot n).waitCount - 1 } := by
  simp [popWaiter, countWait, slot_modSlot, hn]

theorem popWaiter_slot_other {n k : Nat} (hk : k ≠ n) (e : Nat) (rest : List Nat) (s : State) :
    (popWaiter n e rest s).slot k = s.slot k := by
  simp [popWaiter, countWait, slot_modSlot, hk]

/-- An element that can be handed over (R79): it is defined and has lost its holder and its hold timer, the slots that
wait for it are slots of the roster, and no slot stands twice in a list. -/
structure FreeElement (e : Nat) (s : State) : Prop where
  defined : s.defined e = true
  holder : (s.claim e).holder = none
  holdTimer : (s.claim e).holdTimer = none
  nodup : ∀ k, (s.claim k).waiters.Nodup
  waiters : ∀ n ∈ (s.claim e).waiters, 1 ≤ n ∧ n ≤ 24

theorem claim_eq_of_free {c : Claim} (hholder : c.holder = none) (htimer : c.holdTimer = none)
    (hwaiters : c.waiters = []) : c = { c with holder := none, holdTimer := none, waiters := [] } := by
  cases c
  simp_all only

theorem handover_claim_same {e : Nat} {s : State} (hs : FreeElement e s) :
    (handover e s).claim e = { s.claim e with
      holder := (s.claim e).waiters.head?, waiters := (s.claim e).waiters.tail,
      holdTimer := if (s.claim e).waiters = [] then none else freshHold (s.elemDef e) } := by
  have he := element_range_of_defined hs.defined
  cases hw : (s.claim e).waiters with
  | nil =>
    simpa [handover_of_noWaiter hw] using claim_eq_of_free hs.holder hs.holdTimer hw
  | cons n rest =>
    have hn := hs.waiters n (by simp [hw])
    have hnot : n ∉ rest := (List.nodup_cons.mp (hw ▸ hs.nodup e)).1
    have hclaim := popWaiter_claim_same he n rest s
    rw [handover_of_waiter hw, becomeHolder_claim_same hn he (by rwa [hclaim]), hclaim]
    simp [popWaiter]

theorem handover_accumulator {e : Nat} {s : State} (hs : FreeElement e s) :
    ((handover e s).elemScore e).accumulator = 0 := by
  have he := element_range_of_defined hs.defined
  cases hw : (s.claim e).waiters with
  | nil => simp [handover_of_noWaiter hw, clearAccumulator, elemScore_setElemScore, he]
  | cons n rest =>
    rw [handover_of_waiter hw]
    exact becomeHolder_accumulator (hs.waiters n (by simp [hw])) he _

theorem handover_showsState {e : Nat} {s : State} (hs : FreeElement e s) : showsState e (handover e s) := by
  cases hw : (s.claim e).waiters with
  | nil =>
    rw [handover_of_noWaiter hw]
    exact showsState_recompute (by simpa using hs.defined)
  | cons n rest =>
    have hnot : n ∉ rest := (List.nodup_cons.mp (hw ▸ hs.nodup e)).1
    rw [handover_of_waiter hw]
    exact becomeHolder_showsState (hs.waiters n (by simp [hw])) (by simpa [popWaiter] using hs.defined)
      (by rwa [popWaiter_claim_same (element_range_of_defined hs.defined)])

theorem handover_claim_of_noWaiter {e : Nat} {s : State} (hw : (s.claim e).waiters = []) (k : Nat) :
    (handover e s).claim k = s.claim k := by
  simp [handover_of_noWaiter hw]

/-- With a waiter, the lists of other elements change by the waits that its second hold ends (R79, step 4). -/
theorem handover_claim_of_waiter {n e k : Nat} {rest : List Nat} {s : State} (hn : 1 ≤ n ∧ n ≤ 24)
    (hw : (s.claim e).waiters = n :: rest) (hk : k ≠ e) : (handover e s).claim k = { s.claim k with
      waiters := if (s.slot n).holdCount = 1 then (s.claim k).waiters.erase n else (s.claim k).waiters } := by
  rw [handover_of_waiter hw, becomeHolder_claim_other hn hk, popWaiter_claim_other hk, popWaiter_slot_same hn]

theorem handover_claim_other {e k : Nat} {s : State} (hs : FreeElement e s) (hk : k ≠ e) :
    ((handover e s).claim k).holder = (s.claim k).holder ∧ ((handover e s).claim k).holdTimer = (s.claim k).holdTimer
      ∧ ((handover e s).claim k).barred = (s.claim k).barred := by
  cases hw : (s.claim e).waiters with
  | nil => simp [handover_claim_of_noWaiter hw]
  | cons n rest => simp [handover_claim_of_waiter (hs.waiters n (by simp [hw])) hw hk]

/-- Only the slot at the head of the wait list changes. -/
theorem handover_slot_other {e k : Nat} {s : State} (hs : FreeElement e s) (hk : (s.claim e).waiters.head? ≠ some k) :
    (handover e s).slot k = s.slot k := by
  cases hw : (s.claim e).waiters with
  | nil => simp [handover_of_noWaiter hw]
  | cons n rest =>
    have hne : k ≠ n := fun h => hk (by simp [hw, h])
    rw [handover_of_waiter hw, becomeHolder_slot_other (hs.waiters n (by simp [hw])) hne, popWaiter_slot_other hne]

theorem handover_headHolds {n e : Nat} {s : State} (hs : FreeElement e s) (hhead : (s.claim e).waiters.head? = some n) :
    headHolds e n s (handover e s) := by
  obtain ⟨rest, hw⟩ := List.head?_eq_some_iff.mp hhead
  have hn := hs.waiters n (by simp [hw])
  refine ⟨?_, ?_, fun k hk => by rw [handover_claim_of_waiter hn hw hk]⟩
  · rw [handover_of_waiter hw, becomeHolder_slot_same hn, popWaiter_slot_same hn]
  · intro hone k
    by_cases hk : k = e
    · rw [hk, handover_claim_same hs, hw]
      exact (List.nodup_cons.mp (hw ▸ hs.nodup e)).1
    · rw [handover_claim_of_waiter hn hw hk, if_pos hone]
      exact (hs.nodup k).not_mem_erase

theorem handedOver_handover {e : Nat} {s : State} (hs : FreeElement e s) : handedOver e s (handover e s) := by
  have hclaim := handover_claim_same hs
  refine ⟨by rw [hclaim], by rw [hclaim], ?_, handover_accumulator hs, handover_showsState hs,
    fun k hk => handover_claim_other hs hk, fun n hhead => handover_headHolds hs hhead,
    fun hw k _ => by rw [handover_claim_of_noWaiter hw], fun k _ hk => handover_slot_other hs hk, by simp, by simp,
    by simp, by simp, by simp⟩
  by_cases hw : (s.claim e).waiters = [] <;> simp [hclaim, hw, freshHold, tenths]

-- A state in which an element has lost its holder, and the handover that follows

/-- An element has lost its holder and its hold timer, and its wait list, every other claim state and every slot but the
former holder's stand as they were; that slot's hold count is one less (R81, R84, R87). The bar is left open. -/
structure HolderLost (e h : Nat) (s w : State) : Prop where
  holder : (w.claim e).holder = none
  holdTimer : (w.claim e).holdTimer = none
  waiters : (w.claim e).waiters = (s.claim e).waiters
  others : ∀ k, k ≠ e → w.claim k = s.claim k
  slot_same : w.slot h = { s.slot h with holdCount := (s.slot h).holdCount - 1 }
  slot_other : ∀ k, k ≠ h → w.slot k = s.slot k
  alliances : w.score.alliances = s.score.alliances
  clock : w.clock = s.clock
  table : w.table = s.table
  acts : w.bus.acts = s.bus.acts

theorem holderLost_dropHolder {e h : Nat} {s : State} (he : 1 ≤ e ∧ e ≤ 32) (hh : 1 ≤ h ∧ h ≤ 24)
    (hholder : (s.claim e).holder = some h) : HolderLost e h s (dropHolder e s) := by
  have hdrop : dropHolder e s =
      countHold h false (s.setClaim e { s.claim e with holder := none, holdTimer := none }) := by
    simp [dropHolder, hholder]
  constructor <;> simp +contextual [hdrop, countHold, claim_setClaim, slot_modSlot, he, hh]

/-- A bar is set where the element has a cooldown, and replaces the one in place (R81, step 2). -/
theorem bar_claim_same {e : Nat} (he : 1 ≤ e ∧ e ≤ 32) (n : Nat) (s : State) :
    (bar n e s).claim e = { s.claim e with
      barred := if (s.elemDef e).cooldown = 0 then (s.claim e).barred
        else some { slot := n, left := tenths (s.elemDef e).cooldown } } := by
  unfold bar
  split
  · rfl
  · simp [claim_setClaim, he]

theorem bar_claim_other {e k : Nat} (hk : k ≠ e) (n : Nat) (s : State) : (bar n e s).claim k = s.claim k := by
  unfold bar
  split
  · rfl
  · simp [claim_setClaim, hk]

theorem holderLost_bar {e h : Nat} {s w : State} (he : 1 ≤ e ∧ e ≤ 32) (hw : HolderLost e h s w) (n : Nat) :
    HolderLost e h s (bar n e w) where
  holder := by simp [bar_claim_same he, hw.holder]
  holdTimer := by simp [bar_claim_same he, hw.holdTimer]
  waiters := by simp [bar_claim_same he, hw.waiters]
  others k hk := by rw [bar_claim_other hk, hw.others k hk]
  slot_same := by simpa using hw.slot_same
  slot_other k hk := by simpa using hw.slot_other k hk
  alliances := by simpa using hw.alliances
  clock := by simpa using hw.clock
  table := by simpa using hw.table
  acts := by simpa using hw.acts

theorem HolderLost.slot_state {e h : Nat} {s w : State} (hw : HolderLost e h s w) (n : Nat) :
    (w.slot n).state = (s.slot n).state := by
  by_cases hn : n = h
  · rw [hn, hw.slot_same]
  · rw [hw.slot_other n hn]

/-- Under the law of holders and waiters, what has lost its holder can be handed over (R66). -/
theorem HolderLost.freeElement {e h : Nat} {s w : State} (hw : HolderLost e h s w) (hlaw : claimLaw s)
    (hd : s.defined e = true) : FreeElement e w where
  defined := by simpa only [State.defined, State.elemDef, hw.table] using hd
  holder := hw.holder
  holdTimer := hw.holdTimer
  nodup k := by
    obtain ⟨_, _, hnodup, _⟩ := hlaw k
    by_cases hk : k = e
    · rwa [hk, hw.waiters, ← hk]
    · rwa [hw.others k hk]
  waiters n hn := by
    obtain ⟨_, hadmitted, _, _⟩ := hlaw e
    rw [hw.waiters] at hn
    exact slot_range_of_registered (s := s) (by simp [hadmitted n hn])

theorem headHolds_of_holderLost {e h n : Nat} {s w v : State} (hw : HolderLost e h s w) (hn : n ≠ h)
    (hv : headHolds e n w v) : headHolds e n s v := by
  obtain ⟨hslot, hleft, hlists⟩ := hv
  rw [hw.slot_other n hn] at hslot hleft hlists
  exact ⟨hslot, hleft, fun k hk => by rw [hlists k hk, hw.others k hk]⟩

/-- A handover from a state in which the holder has just been lost is one from the state before (R79). -/
theorem handedOver_of_holderLost {e h : Nat} {s w v : State} (hw : HolderLost e h s w)
    (hholder : (s.claim e).holder = some h) (hnot : h ∉ (s.claim e).waiters) (hv : handedOver e w v) :
    handedOver e s v := by
  obtain ⟨hnew, hwaiters, htimer, hacc, hlight, hothers, hhead, hnone, hslots, hstates, halliances, hclock, htable,
    hacts⟩ := hv
  have hdef : w.elemDef e = s.elemDef e := by simp only [State.elemDef, hw.table]
  rw [hw.waiters] at hnew hwaiters htimer hhead hnone
  rw [hdef] at htimer
  refine ⟨hnew, hwaiters, htimer, hacc, hlight, fun k hk => hw.others k hk ▸ hothers k hk, fun n hn => ?_,
    fun hempty k hk => by rw [hnone hempty k hk, hw.others k hk], fun k hk hkhead => ?_,
    fun n => (hstates n).trans (hw.slot_state n), halliances.trans hw.alliances, hclock.trans hw.clock,
    htable.trans hw.table, hacts.trans hw.acts⟩
  · have hne : n ≠ h := fun heq => hnot (heq ▸ List.mem_of_head? hn)
    exact headHolds_of_holderLost hw hne (hhead n hn)
  · have hne : k ≠ h := fun heq => hk (heq ▸ hholder)
    rw [hslots k (by simp [hw.holder]) (by rwa [hw.waiters]), hw.slot_other k hne]

-- The revocation by the console (R84)

/-- The state of a revocation behind its steps 1 and 2, in front of the handover (R84). -/
def unheld (h e : Nat) (withBar : Bool) (s : State) : State :=
  if withBar then bar h e (dropHolder e s) else dropHolder e s

theorem revoke_eq_handover (h e : Nat) (withBar : Bool) (s : State) :
    revoke h e withBar s = handover e (unheld h e withBar s) := rfl

section
variable {s : State} {e h : Nat} (he : 1 ≤ e ∧ e ≤ 32) (hholder : (s.claim e).holder = some h) (withBar : Bool)
include he hholder

theorem holderLost_unheld (hh : 1 ≤ h ∧ h ≤ 24) : HolderLost e h s (unheld h e withBar s) := by
  have hlost := holderLost_dropHolder he hh hholder
  unfold unheld
  split
  · exact holderLost_bar he hlost h
  · exact hlost

theorem unheld_barred : ((unheld h e withBar s).claim e).barred =
    if withBar = false ∨ (s.elemDef e).cooldown = 0 then (s.claim e).barred
    else some { slot := h, left := tenths (s.elemDef e).cooldown } := by
  have hdrop : ((dropHolder e s).claim e).barred = (s.claim e).barred := by
    simp [dropHolder, hholder, claim_setClaim, he]
  cases withBar <;> simp [unheld, bar_claim_same he, hdrop]

end

/-- The revocation under the law of holders and waiters (R84): the handover, the bar and the former holder's count. -/
theorem revoke_takes_element {s : State} {e h : Nat} (hlaw : claimLaw s) (hd : s.defined e = true)
    (hholder : (s.claim e).holder = some h) (withBar : Bool) :
    handedOver e s (revoke h e withBar s)
      ∧ ((revoke h e withBar s).claim e).barred =
        (if withBar = false ∨ (s.elemDef e).cooldown = 0 then (s.claim e).barred
         else some { slot := h, left := tenths (s.elemDef e).cooldown })
      ∧ ((revoke h e withBar s).slot h).holdCount = (s.slot h).holdCount - 1 := by
  obtain ⟨hadmitted, _, _, _⟩ := hlaw e
  obtain ⟨hstate, hnot⟩ := hadmitted h hholder
  have he := element_range_of_defined hd
  have hh : 1 ≤ h ∧ h ≤ 24 := slot_range_of_registered (s := s) (by simp [hstate])
  have hlost := holderLost_unheld he hholder withBar hh
  have hfree := hlost.freeElement hlaw hd
  rw [revoke_eq_handover]
  refine ⟨handedOver_of_holderLost hlost hholder hnot (handedOver_handover hfree), ?_, ?_⟩
  · rw [handover_claim_same hfree]
    exact unheld_barred he hholder withBar
  · have hhead : ((unheld h e withBar s).claim e).waiters.head? ≠ some h := by
      rw [hlost.waiters]
      exact fun hhead => hnot (List.mem_of_head? hhead)
    rw [handover_slot_other hfree hhead, hlost.slot_same]

-- The checks of the request, in their order (R84)

theorem yesNo_eq_none_iff (b : Byte) : yesNo b = none ↔ 1 < b.toNat := by
  have hone : b = 1 ↔ b.toNat = 1 := by bv_omega
  have hzero : b = 0 ↔ b.toNat = 0 := by bv_omega
  simp only [yesNo, hone, hzero]
  split_ifs <;> simp <;> omega

theorem yesNo_of_le {b : Byte} (hb : b.toNat ≤ 1) : yesNo b = some (b != 0) := by
  have hcases : b = 0 ∨ b = 1 := by bv_omega
  rcases hcases with rfl | rfl <;> rfl

theorem elementInRange_iff (n : Nat) : elementInRange n = true ↔ 1 ≤ n ∧ n ≤ 32 := by
  simp [elementInRange]

theorem serveRevokeClaim_of_badArg {e x : Nat} {b : Byte} (h : ¬(1 ≤ e ∧ e ≤ 32) ∨ 24 < x ∨ 1 < b.toNat) (s : State) :
    serveRevokeClaim e b x s = refuse .badArg s := by
  by_cases hrange : (!elementInRange e || 24 < x) = true
  · rw [serveRevokeClaim, if_pos hrange]
  · have hb : 1 < b.toNat := by
      simp only [Bool.or_eq_true, Bool.not_eq_true', ← Bool.not_eq_true, elementInRange_iff,
        decide_eq_true_eq] at hrange
      omega
    rw [serveRevokeClaim, if_neg hrange, (yesNo_eq_none_iff b).mpr hb]

section
variable {s : State} {e x h : Nat} {b : Byte} (he : 1 ≤ e ∧ e ≤ 32) (hx : x ≤ 24) (hb : b.toNat ≤ 1)
include he hx hb

theorem serveRevokeClaim_of_undefined (hd : s.defined e = false) :
    serveRevokeClaim e b x s = refuse .badState s := by
  simp [serveRevokeClaim, elementInRange, he, hx, yesNo_of_le hb, hd]

theorem serveRevokeClaim_of_noHolder (hd : s.defined e = true) (hnone : (s.claim e).holder = none) :
    serveRevokeClaim e b x s = refuse .notFound s := by
  simp [serveRevokeClaim, elementInRange, he, hx, yesNo_of_le hb, hd, hnone]

theorem serveRevokeClaim_of_otherHolder (hd : s.defined e = true) (hholder : (s.claim e).holder = some h)
    (hzero : x ≠ 0) (hother : x ≠ h) : serveRevokeClaim e b x s = refuse .notFound s := by
  simp [serveRevokeClaim, elementInRange, he, hx, yesNo_of_le hb, hd, hholder, hzero, hother]

theorem serveRevokeClaim_of_holder (hd : s.defined e = true) (hholder : (s.claim e).holder = some h)
    (hexpected : x = 0 ∨ x = h) : serveRevokeClaim e b x s =
      { state := settle (revoke h e (b != 0) s), outcome := .ok,
        fields := [byte h, byte (orZero ((revoke h e (b != 0) s).claim e).holder)] } := by
  have hpass : ¬((x != 0 && x != h) = true) := by
    simp only [Bool.and_eq_true, bne_iff_ne]
    omega
  simp [serveRevokeClaim, elementInRange, he, hx, yesNo_of_le hb, hd, hholder, hpass, settled]

end

theorem exec_revokeClaim_of_ready {s : State} (hs : s.ready) (e b x : Byte) :
    exec (.revokeClaim e b x) s = .next (replied 0x49 (serveRevokeClaim e.toNat b x.toNat (receiverDone s)).outcome
      (serveRevokeClaim e.toNat b x.toNat (receiverDone s)).fields
      (serveRevokeClaim e.toNat b x.toNat (receiverDone s)).state) :=
  congrArg Host.Outcome.next (consoleRequest_of_ready hs (by decide) _)

theorem exec_revokeClaim_of_refused {s : State} (hs : s.ready) {e b x : Byte} {o : OutcomeCode}
    (h : serveRevokeClaim e.toNat b x.toNat (receiverDone s) = refuse o (receiverDone s)) :
    exec (.revokeClaim e b x) s = .next (replied 0x49 o [] (receiverDone s)) := by
  rw [exec_revokeClaim_of_ready hs, h]
  rfl

/-- The receiver is no part of what a handover speaks of. -/
theorem handedOver_receiverDone {e : Nat} {s v : State} : handedOver e (receiverDone s) v ↔ handedOver e s v := Iff.rfl

theorem exec_revokeClaim_of_holder {s : State} (hs : s.ready) {e b x : Byte} {h : Nat} (hx : x.toNat ≤ 24)
    (hb : b.toNat ≤ 1) (hlaw : claimLaw s) (hd : s.defined e.toNat = true)
    (hholder : (s.claim e.toNat).holder = some h) (hexpected : x.toNat = 0 ∨ x.toNat = h) :
    exec (.revokeClaim e b x) s = .next (replied 0x49 .ok
      [byte h, byte ((s.claim e.toNat).waiters.head?.getD 0)]
      (settle (revoke h e.toNat (b != 0) (receiverDone s)))) := by
  have hserve :=
    serveRevokeClaim_of_holder (s := receiverDone s) (element_range_of_defined hd) hx hb hd hholder hexpected
  obtain ⟨⟨hnew, _⟩, _⟩ := revoke_takes_element (s := receiverDone s) hlaw hd hholder (b != 0)
  rw [exec_revokeClaim_of_ready hs, hserve, hnew]
  rfl

/-- Settles O41, by the four checks of R84 in their order; an accepted request revokes in the state with the receiver
done. -/
theorem revokeClaimTakesTheElement : Obligations.RevokeClaimTakesTheElement := by
  intro s e b x hs
  have hx0 : x = 0 ↔ x.toNat = 0 := by bv_omega
  have he0 : e = 0 ↔ e.toNat = 0 := by bv_omega
  refine ⟨fun hbad => ?_, fun h1 h32 hx hb => ⟨fun hd => ?_, fun hd hmiss => ?_, fun h ⟨hlaw, _⟩ hd hholder hexp => ?_⟩⟩
  · rw [he0] at hbad
    exact exec_revokeClaim_of_refused hs (serveRevokeClaim_of_badArg (by omega) _)
  · exact exec_revokeClaim_of_refused hs (serveRevokeClaim_of_undefined ⟨h1, h32⟩ hx hb hd)
  · refine exec_revokeClaim_of_refused hs ?_
    cases hholder : (s.claim e.toNat).holder with
    | none => exact serveRevokeClaim_of_noHolder ⟨h1, h32⟩ hx hb hd hholder
    | some h =>
      obtain ⟨hzero, hother⟩ : x ≠ 0 ∧ some h ≠ some x.toNat := by simpa [hholder] using hmiss
      exact serveRevokeClaim_of_otherHolder ⟨h1, h32⟩ hx hb hd hholder (by rwa [ne_eq, ← hx0])
        (fun heq => hother (heq ▸ rfl))
  · obtain ⟨hover, hbarred, hcount⟩ := revoke_takes_element (s := receiverDone s) hlaw hd hholder (b != 0)
    refine ⟨_, exec_revokeClaim_of_holder hs hx hb hlaw hd hholder (by rwa [← hx0]), handedOver_receiverDone.mp hover,
      ?_, hcount, by simp, by simp⟩
    simpa [tenths] using hbarred

end Sys2Proof.Machine
end

section
/-! PROOFS. The console's ACTUATE, PASS-THROUGH and PASS RESULT: their checks as the manual words them, and the answer
of each branch (R103, R112, R114). -/

namespace Sys2Proof.Machine

-- The checks of the requests

/-- The element numbers that are refused BAD_ARG (R180). -/
theorem elementInRange_eq_false_iff (x : Byte) : elementInRange x.toNat = false ↔ x = 0 ∨ 32 < x.toNat := by
  have hzero : x = 0 ↔ x.toNat = 0 := by bv_omega
  rw [← Bool.not_eq_true, elementInRange_iff, hzero]
  omega

theorem actuable_eq_false_iff (d : ElementDef) : actuable d = false ↔ d.kind ≠ .gate ∧ d.kind ≠ .dispenser := by
  unfold actuable
  cases d.kind <;> simp

theorem clampArgument_eq (d : ElementDef) (argument : Nat) :
    clampArgument d argument = if d.kind = .dispenser then max 1 (min 8 argument) else min 3 argument := by
  unfold clampArgument
  cases d.kind <;> rfl

-- A request that is served

theorem exec_consoleActuate_of_ready {s : State} (hs : s.ready) (e a : Byte) :
    exec (.consoleActuate e a) s = .next (replied 0x4A
      (serveConsoleActuate e.toNat a.toNat (receiverDone s)).outcome
      (serveConsoleActuate e.toNat a.toNat (receiverDone s)).fields
      (serveConsoleActuate e.toNat a.toNat (receiverDone s)).state) :=
  congrArg Host.Outcome.next (consoleRequest_of_ready hs (by decide) _)

theorem exec_passThrough_of_ready {s : State} (hs : s.ready) (e : Byte) (bytes : List Byte) :
    exec (.passThrough e bytes) s = .next (replied 0x4B (servePassThrough e.toNat bytes (receiverDone s)).outcome
      (servePassThrough e.toNat bytes (receiverDone s)).fields
      (servePassThrough e.toNat bytes (receiverDone s)).state) :=
  congrArg Host.Outcome.next (consoleRequest_of_ready hs (by decide) _)

theorem exec_passResult_of_ready {s : State} (hs : s.ready) :
    exec .passResult s = .next (replied 0x4C (servePassResult (receiverDone s)).outcome
      (servePassResult (receiverDone s)).fields (servePassResult (receiverDone s)).state) :=
  congrArg Host.Outcome.next (consoleRequest_of_ready hs (by decide) _)

/-- Settles O42: the checks of each request are brought into the manual's words and taken in their order, one goal for
each answer; the reply of PASS RESULT is read off the slot's contents. -/
theorem consoleActuateAndPassThrough : Obligations.ConsoleActuateAndPassThrough := by
  refine ⟨fun s e a c hs hc => ?_, fun s e bytes hs => ⟨?_, ?_⟩⟩
  · obtain ⟨-, hdef, -, hrun, -, -, hact, -⟩ := receiverDone_reads s
    have hbus := receiverDone_bus s
    have hstop := receiverDone_stop s
    rw [← clampArgument_eq] at hc
    simp only [exec_consoleActuate_of_ready hs, serveConsoleActuate, hdef, hrun, hact, hbus, hstop, ← hc, queuePlaces,
      Bool.not_eq_true', elementInRange_eq_false_iff, actuable_eq_false_iff, bne_iff_ne]
    split_ifs with hrange hkind hwithdrawn hunderWay hstopped hjammed hfull
    all_goals rfl
  · have hbus := receiverDone_bus s
    have hstop := receiverDone_stop s
    simp only [exec_passThrough_of_ready hs, servePassThrough, hbus, hstop, queuePlaces, Bool.or_eq_true,
      Bool.not_eq_true', decide_eq_true_eq, elementInRange_eq_false_iff, or_assoc]
    split_ifs with hrange hpending hstopped hfull
    all_goals rfl
  · rw [exec_passResult_of_ready hs, servePassResult, receiverDone_bus]
    cases s.bus.pass <;> rfl

end Sys2Proof.Machine
end

section
/-! PROOFS. PENALIZE and AWARD: what their arithmetic writes on the alliance record, the checks that they share, and the
reply with the score after the request (R124, R139, R140). -/

namespace Sys2Proof.Machine

-- The arithmetic of an alliance record (R124)

section
variable {s : State} {a n : Nat}

theorem takePoints_of_le (h : n ≤ (s.alliance a).score) :
    takePoints a n s = s.setAlliance a { s.alliance a with
      score := (s.alliance a).score - n, penalty := min 65535 ((s.alliance a).penalty + n) } :=
  if_pos h

theorem takePoints_of_gt (h : ¬n ≤ (s.alliance a).score) :
    takePoints a n s = (s.setAlliance a
      { score := 0, penalty := min 65535 ((s.alliance a).penalty + n),
        clampLoss := min 65535 ((s.alliance a).clampLoss + (n - (s.alliance a).score)) }).setFlag .scoreClamp :=
  if_neg h

theorem addPoints_of_le (h : (s.alliance a).score + n ≤ 65535) :
    addPoints a n s = s.setAlliance a { s.alliance a with score := (s.alliance a).score + n } :=
  if_pos h

theorem addPoints_of_gt (h : ¬(s.alliance a).score + n ≤ 65535) :
    addPoints a n s = (s.setAlliance a { s.alliance a with
      score := 65535,
      clampLoss := min 65535 ((s.alliance a).clampLoss + ((s.alliance a).score + n - 65535)) }).setFlag .scoreClamp :=
  if_neg h

theorem alliance_setAlliance_same (ha : 1 ≤ a ∧ a ≤ 4) (x : AllianceRecord) : (s.setAlliance a x).alliance a = x := by
  simp [alliance_setAlliance, ha]

end

-- The checks and the reply that the two requests share (R139, R140)

theorem settlingPhase_eq_false_iff (p : Phase) : settlingPhase p = false ↔ p = .idle ∨ p = .staging := by
  cases p <;> simp [settlingPhase]

/-- The outcome of a request whose value was brought into a range (R180). -/
theorem okIf_clampTo_bne {lo hi : Nat} (h : lo ≤ hi) (n : Nat) :
    okIf (clampTo lo hi n != n) = if lo ≤ n ∧ n ≤ hi then .ok else .okAdjusted := by
  have hsame : clampTo lo hi n = n ↔ lo ≤ n ∧ n ≤ hi := by
    unfold clampTo
    omega
  by_cases hin : lo ≤ n ∧ n ≤ hi
  · simp [okIf, hsame.mpr hin, hin]
  · simp [okIf, hsame, hin]

section
variable {s : State} {a : Nat} (change : Nat → Nat → State → State) (amount : Nat)

theorem serveSettlement_of_badState (hphase : s.clock.phase = .idle ∨ s.clock.phase = .staging) :
    serveSettlement change a amount s = refuse .badState s := by
  simp [serveSettlement, (settlingPhase_eq_false_iff _).mpr hphase]

variable (hphase : ¬(s.clock.phase = .idle ∨ s.clock.phase = .staging))
include hphase

theorem serveSettlement_of_badArg (ha : a = 0 ∨ s.settings.allianceCount < a) :
    serveSettlement change a amount s = refuse .badArg s := by
  rw [← settlingPhase_eq_false_iff] at hphase
  simp [serveSettlement, hphase, ha]

theorem serveSettlement_of_accepted (ha : 1 ≤ a ∧ a ≤ s.settings.allianceCount) :
    serveSettlement change a amount s =
      { state := change a (clampTo 1 1000 amount) s
        outcome := if 1 ≤ amount ∧ amount ≤ 1000 then .ok else .okAdjusted
        fields := twoBytes ((change a (clampTo 1 1000 amount) s).alliance a).score } := by
  have hzero : a ≠ 0 := by omega
  rw [← settlingPhase_eq_false_iff] at hphase
  rw [← okIf_clampTo_bne (by decide)]
  simp [serveSettlement, hphase, hzero, ha]

end

-- The requests on the console link

theorem exec_penalize_of_ready {s : State} (hs : s.ready) (a : Byte) (amount : Half) {r : Served}
    (hr : serveSettlement takePoints a.toNat amount.toNat (receiverDone s) = r) :
    exec (.penalize a amount) s = .next (replied 0x52 r.outcome r.fields r.state) := by
  subst hr
  exact congrArg Host.Outcome.next (consoleRequest_of_ready hs (by decide) _)

theorem exec_award_of_ready {s : State} (hs : s.ready) (a : Byte) (amount : Half) {r : Served}
    (hr : serveSettlement addPoints a.toNat amount.toNat (receiverDone s) = r) :
    exec (.award a amount) s = .next (replied 0x53 r.outcome r.fields r.state) := by
  subst hr
  exact congrArg Host.Outcome.next (consoleRequest_of_ready hs (by decide) _)

/-- Settles O47: the two shared refusals, then for each accepted request the case in which the score takes the whole
amount and the case in which it is clamped. -/
theorem penalizeAndAwardSettleTheScore : Obligations.PenalizeAndAwardSettleTheScore := by
  intro s a amount n p q r o hs hn hr ho hp hq hcount
  subst hr
  have hclamp : clampTo 1 1000 amount.toNat = n := hn.symm
  refine ⟨fun hphase => ?_, fun hidle hstaging hbad => ?_, fun hidle hstaging hlow hhigh => ?_⟩
  · exact ⟨exec_penalize_of_ready hs a amount (serveSettlement_of_badState _ _ hphase),
      exec_award_of_ready hs a amount (serveSettlement_of_badState _ _ hphase)⟩
  · have hphase : ¬(s.clock.phase = .idle ∨ s.clock.phase = .staging) := not_or.mpr ⟨hidle, hstaging⟩
    have hzero : a = 0 ↔ a.toNat = 0 := by bv_omega
    rw [hzero] at hbad
    exact ⟨exec_penalize_of_ready hs a amount (serveSettlement_of_badArg _ _ hphase hbad),
      exec_award_of_ready hs a amount (serveSettlement_of_badArg _ _ hphase hbad)⟩
  · have hphase : ¬(s.clock.phase = .idle ∨ s.clock.phase = .staging) := not_or.mpr ⟨hidle, hstaging⟩
    have hrange : 1 ≤ a.toNat ∧ a.toNat ≤ 4 := ⟨hlow, hhigh.trans hcount⟩
    constructor
    · rw [exec_penalize_of_ready hs a amount (serveSettlement_of_accepted _ _ hphase ⟨hlow, hhigh⟩), hclamp, ← ho]
      split_ifs with htaken
      · simp [takePoints_of_le, htaken, alliance_setAlliance_same hrange]
      · simp [takePoints_of_gt, htaken, hp, alliance_setAlliance_same hrange]
    · rw [exec_award_of_ready hs a amount (serveSettlement_of_accepted _ _ hphase ⟨hlow, hhigh⟩), hclamp, ← ho]
      split_ifs with htaken
      · simp [addPoints_of_le, htaken, alliance_setAlliance_same hrange]
      · simp [addPoints_of_gt, htaken, hq, alliance_setAlliance_same hrange]

end Sys2Proof.Machine
end

section
/-! PROOFS. RELEASE STOP: the two conditions that refuse a release, what a release writes, and the level of STOP_OUT after
it (R149). -/

namespace Sys2Proof.Machine

-- The live conditions and the release

theorem stopCondition_eq_true_iff (s : State) :
    s.stopCondition = true ↔ s.stop.stopIn = true ∨ s.console.breakInProgress = true :=
  Bool.or_eq_true_iff

/-- A release empties the latched set and keeps only the level of STOP_IN; sending the beacon it makes due is left to the
arbiters (R149, R160). -/
theorem release_eq (s : State) :
    release s = { s with
      stop := { stopped := false, pin := false, brk := false, console := false, reset := false,
                stopIn := s.stop.stopIn },
      link := { s.link with beaconDue := true } }.setFlag .stopClear :=
  rfl

-- STOP_OUT through the end of a request

theorem stopOut_replied (kind : Nat) (o : OutcomeCode) (fields : List Byte) (t : State) :
    (replied kind o fields t).stopOut = t.stopOut :=
  rfl

theorem stopOut_settle (s : State) : (settle s).stopOut = s.stopOut := by
  simp [State.stopOut]

theorem stopOut_release (s : State) : (release s).stopOut = s.resetAsserted :=
  Bool.false_or _

-- The checks of the request in their order

theorem serveReleaseStop_of_clear {s : State} (h : s.stop.stopped = false) :
    serveReleaseStop s = refuse .notStopped s := by
  simp [serveReleaseStop, h]

theorem serveReleaseStop_of_held {s : State} (h : s.stop.stopped = true) (hlive : s.stopCondition = true) :
    serveReleaseStop s = refuse .stopHeld s := by
  simp [serveReleaseStop, h, hlive]

theorem serveReleaseStop_of_released {s : State} (h : s.stop.stopped = true) (hlive : s.stopCondition = false) :
    serveReleaseStop s = settled (carryOut (release s)) := by
  simp [serveReleaseStop, h, hlive]

-- The request on the console link

theorem exec_releaseStop_of_ready {s : State} (hs : s.ready) {r : Served} (hr : serveReleaseStop (receiverDone s) = r) :
    exec .releaseStop s = .next (replied 0x41 r.outcome r.fields r.state) := by
  subst hr
  exact congrArg Host.Outcome.next (consoleRequest_of_ready hs (by decide) _)

/-- Settles O23: one goal for each answer of the request; the completed receiver reads the stop unit and the break mark of
the state before it, and the arbiters that run after the release leave STOP_OUT as the release set it. -/
theorem releaseStopClearsAllCauses : Obligations.ReleaseStopClearsAllCauses := by
  intro s hs
  refine ⟨fun hclear => ?_, fun hstopped hlive => ?_, fun hstopped hpin hbreak => ?_⟩
  · exact exec_releaseStop_of_ready hs (serveReleaseStop_of_clear hclear)
  · have hheld : (receiverDone s).stopCondition = true := (stopCondition_eq_true_iff _).mpr hlive
    exact exec_releaseStop_of_ready hs (serveReleaseStop_of_held hstopped hheld)
  · have hfree : (receiverDone s).stopCondition = false := by
      simp [State.stopCondition, hpin, hbreak]
    have hexec : exec .releaseStop s = .next (replied 0x41 .ok [] (settle (release (receiverDone s)))) :=
      exec_releaseStop_of_ready hs (serveReleaseStop_of_released hstopped hfree)
    refine ⟨?_, fun t ht => ?_⟩
    · rw [hexec, release_eq, receiverDone_stop, hpin, receiverDone_link]
    · obtain ⟨hreset, -⟩ := hs
      obtain rfl := Host.Outcome.next.inj (hexec.symm.trans ht)
      rw [stopOut_replied, stopOut_settle, stopOut_release, receiverDone_resetAsserted]
      exact hreset

end Sys2Proof.Machine
end

section
/-! PROOFS. The message boxes: the taking of a frame from an accepted sender, what MAIL PUT and MAIL READ read through
it, and the two puts and the read as their checks and effects on a box (R155, R166, R167). -/

namespace Sys2Proof.Machine

-- The box of a slot

theorem set1_at1_self {α : Type} {n : Nat} (v : Vector α n) (k : Nat) (d : α) : set1 v k (at1 v k d) = v := by
  unfold set1 at1
  split_ifs
  · exact Vector.set_getElem_self _
  · rfl

theorem setBox_box_self (s : State) (n : Nat) : s.setBox n (s.box n) = s := by
  rw [State.setBox, State.box, set1_at1_self]

/-- The box holds a message that is not replaced (R166). -/
theorem isPending_eq_any (b : Option Message) : isPending b = b.any (·.pending) := by
  cases b <;> rfl

-- The taking of a frame from an accepted sender (R155)

section
variable {f : UplinkFrame} {s u : State}

/-- The frame leaves the uplink queue and is then served, also where it arrives and is taken in one (log entry 9). -/
theorem takeFrame_of_takenFrom (h : takenFrom f s u) : takeFrame f s = serveFrame f u := by
  obtain ⟨hempty, hok, rfl⟩ | ⟨rest, hhead, rfl⟩ := h
  · simp [takeFrame, hempty, hok]
  · simp [takeFrame, hhead]

theorem slot_of_takenFrom (h : takenFrom f s u) (n : Nat) : u.slot n = s.slot n := by
  obtain ⟨-, -, rfl⟩ | ⟨rest, -, rfl⟩ := h <;> rfl

theorem box_of_takenFrom (h : takenFrom f s u) (n : Nat) : u.box n = s.box n := by
  obtain ⟨-, -, rfl⟩ | ⟨rest, -, rfl⟩ := h <;> rfl

theorem senderOk_of_acceptedFrom (h : acceptedFrom f.slot f.tag s) : s.senderOk f = true := by
  obtain ⟨hslot, hregistered, hkit⟩ := h
  simp [State.senderOk, hslot, hregistered, hkit]

/-- A frame of an accepted sender, of any kind but HELLO, restarts the silence timer and is dispatched (R35, R155). -/
theorem takeFrame_of_acceptedFrom (hkind : ∀ kit tiers, f.body ≠ .hello kit tiers) (htaken : takenFrom f s u)
    (haccepted : acceptedFrom f.slot f.tag s) :
    takeFrame f s = settle (dispatchFrame f (restartSilence f.slot u)) := by
  have hsender : u.senderOk f = true := by
    rw [State.senderOk, slot_of_takenFrom htaken]
    exact senderOk_of_acceptedFrom haccepted
  rw [takeFrame_of_takenFrom htaken]
  unfold serveFrame
  split
  case h_1 kit tiers hbody => exact absurd hbody (hkind kit tiers)
  all_goals exact if_pos hsender

end

/-- The restart of a silence timer reaches no slot's state (R35). -/
theorem slot_state_restartSilence (n m : Nat) (s : State) :
    ((restartSilence n s).slot m).state = (s.slot m).state := by
  unfold restartSilence
  dsimp only
  split_ifs
  · rw [slot_setSlot]
    split_ifs with hsame
    · rw [hsame.1]
    · rfl
  · rfl

-- The senders whose mail is served

theorem mayMail_eq_false_iff (s : State) (n : Nat) :
    s.mayMail n = false ↔ (s.slot n).state ≠ .admitted ∧ (s.slot n).state ≠ .disabled := by
  simp [State.mayMail]

theorem mayMail_restartSilence (n m : Nat) (s : State) : (restartSilence n s).mayMail m = s.mayMail m := by
  simp only [State.mayMail, slot_state_restartSilence]

section
variable {f : UplinkFrame} {s u : State} (htaken : takenFrom f s u)
include htaken

theorem mayMail_restartSilence_of_takenFrom (n m : Nat) : (restartSilence n u).mayMail m = s.mayMail m := by
  rw [mayMail_restartSilence, State.mayMail, slot_of_takenFrom htaken, State.mayMail]

theorem box_restartSilence_of_takenFrom (n m : Nat) : (restartSilence n u).box m = s.box m := by
  rw [← box_of_takenFrom htaken m]
  simp

end

-- The robot's MAIL PUT (R166)

theorem serveRobotPut_eq (f : UplinkFrame) (bytes : List Byte) (s : State) :
    serveRobotPut f bytes s =
      if s.mayMail f.slot = false then answerFrame f .notAdmitted 0 s
      else if (s.box f.slot).any (·.pending) = true then answerFrame f .boxFull 0 s
      else answerFrame f .ok 0
        ((s.setBox f.slot (some { origin := .robot, bytes := bytes, pending := true })).setFlag .mailIn) := by
  simp only [serveRobotPut, isPending_eq_any, Bool.not_eq_true']

-- The robot's MAIL READ (R167)

section
variable {f : UplinkFrame} {offset : Nat} {s : State}

theorem serveRobotRead_of_notAdmitted (hmail : s.mayMail f.slot = false) :
    serveRobotRead f offset s = answerFrame f .notAdmitted 0 s := by
  simp [serveRobotRead, hmail]

variable (hmail : s.mayMail f.slot = true)
include hmail

theorem serveRobotRead_of_boxEmpty (hbox : s.box f.slot = none) :
    serveRobotRead f offset s = answerFrame f .boxEmpty 0 s := by
  simp [serveRobotRead, hmail, hbox]

variable {m : Message} (hbox : s.box f.slot = some m)
include hbox

theorem serveRobotRead_of_badOffset (hoffset : m.bytes.length ≤ offset) :
    serveRobotRead f offset s = answerFrame f .badOffset 0 s := by
  simp [serveRobotRead, hmail, hbox, hoffset]

/-- A read of any message but the console's pending one writes the message back as it stands, which changes nothing. -/
theorem serveRobotRead_of_offset_lt (hoffset : offset < m.bytes.length) :
    serveRobotRead f offset s =
      queueReply { slot := f.slot, tag := f.tag, body := .mailData offset (m.bytes.drop offset) }
        (if m.origin = .console ∧ m.pending = true then
          (s.setBox f.slot (some { m with pending := false })).setFlag .mailTaken
        else s) := by
  by_cases htaken : m.origin = .console ∧ m.pending = true
  · simp [serveRobotRead, hmail, hbox, hoffset.not_ge, htaken, State.setFlagIf]
  · have hsame : s.setBox f.slot (some m) = s := hbox ▸ setBox_box_self s f.slot
    have hnot : (decide (m.origin = .console) && m.pending) = false := by simpa using htaken
    simp [serveRobotRead, hmail, hbox, hoffset.not_ge, htaken, hnot, hsame, State.setFlagIf]

end

-- The frames on the robot link

theorem whenAwake_of_awake {s : State} (hs : s.awake) (f : State → State) : whenAwake f s = f s :=
  if_neg (Bool.eq_false_iff.mp hs)

section
variable {s u : State} {x : Byte} {tag : Half} (hs : s.awake) (haccepted : acceptedFrom x.toNat tag s)
include hs haccepted

theorem exec_robotMailPut_of_takenFrom {bytes : List Byte}
    (htaken : takenFrom { slot := x.toNat, tag := tag, body := .mailPut bytes } s u) :
    exec (.robotMailPut x tag bytes) s = .next (settle (serveRobotPut
      { slot := x.toNat, tag := tag, body := .mailPut bytes } bytes (restartSilence x.toNat u))) := by
  refine congrArg Host.Outcome.next ((whenAwake_of_awake hs _).trans ?_)
  exact takeFrame_of_acceptedFrom (by simp) htaken haccepted

theorem exec_robotMailRead_of_takenFrom {offset : Byte}
    (htaken : takenFrom { slot := x.toNat, tag := tag, body := .mailRead offset.toNat } s u) :
    exec (.robotMailRead x tag offset) s = .next (settle (serveRobotRead
      { slot := x.toNat, tag := tag, body := .mailRead offset.toNat } offset.toNat (restartSilence x.toNat u))) := by
  refine congrArg Host.Outcome.next ((whenAwake_of_awake hs _).trans ?_)
  exact takeFrame_of_acceptedFrom (by simp) htaken haccepted

end

-- The console's MAIL PUT (R166)

theorem exec_consoleMailPut_of_ready {s : State} (hs : s.ready) (x : Byte) (bytes : List Byte) :
    exec (.consoleMailPut x bytes) s = .next (replied 0x58
      (serveMailPut x.toNat bytes (receiverDone s)).outcome
      (serveMailPut x.toNat bytes (receiverDone s)).fields
      (serveMailPut x.toNat bytes (receiverDone s)).state) :=
  congrArg Host.Outcome.next (consoleRequest_of_ready hs (by decide) _)

/-- Settles O50: the frame's sender and box are read through the taking and the restart of the silence timer; each check
then has its own answer, and the console's put meets its own checks before the same one of the box. -/
theorem robotWritesAndReadsTheBox : Obligations.RobotWritesAndReadsTheBox := by
  refine ⟨fun s u v x offset tag bytes hs haccepted hv => ?_, fun s x bytes hs => ?_⟩
  · subst hv
    refine ⟨fun htaken => ?_, fun htaken => ?_⟩
    · rw [exec_robotMailPut_of_takenFrom hs haccepted htaken, serveRobotPut_eq]
      simp only [mayMail_restartSilence_of_takenFrom htaken, box_restartSilence_of_takenFrom htaken,
        mayMail_eq_false_iff]
      rfl
    · rw [exec_robotMailRead_of_takenFrom hs haccepted htaken]
      have hbox := box_restartSilence_of_takenFrom htaken x.toNat x.toNat
      have hmay := mayMail_restartSilence_of_takenFrom htaken x.toNat x.toNat
      refine ⟨fun hadmitted hdisabled => ?_, fun hstate => ?_⟩
      · have hmail : s.mayMail x.toNat = false := (mayMail_eq_false_iff s _).mpr ⟨hadmitted, hdisabled⟩
        rw [serveRobotRead_of_notAdmitted (hmay.trans hmail)]
        rfl
      · have hmail : s.mayMail x.toNat = true := by simpa [State.mayMail] using hstate
        refine ⟨fun hempty => ?_, fun m hm hoffset => ?_, fun m hm hoffset => ?_⟩
        · rw [serveRobotRead_of_boxEmpty (hmay.trans hmail) (hbox.trans hempty)]
          rfl
        · rw [serveRobotRead_of_badOffset (hmay.trans hmail) (hbox.trans hm) hoffset]
          rfl
        · rw [serveRobotRead_of_offset_lt (hmay.trans hmail) (hbox.trans hm) hoffset]
  · obtain ⟨hslot, -, -, -, -, -, -, -, -, hbox⟩ := receiverDone_reads s
    simp only [exec_consoleMailPut_of_ready hs, serveMailPut, hslot, hbox, isPending_eq_any, Bool.or_eq_true,
      Bool.not_eq_true', decide_eq_true_eq, slotInRange_eq_false_iff, or_assoc]
    split_ifs with hrange hempty hpending
    all_goals rfl

end Sys2Proof.Machine
end

section
/-! PROOFS. The readings on the console link: what a served reading or refusal answers, the time left that READ CLOCK
reports, the selectors that are refused, and the fields of each reading (R4, R17, R24, R141, R151, R181, R186). -/

namespace Sys2Proof.Machine

-- A served reading, and a refused one

section
variable {s : State} (hs : s.ready) {kind : Nat} (hk : kind < 0x80) {serve : State → Served}
include hs hk

/-- A reading answers OK with its fields and leaves the state with the receiver done (R172, R176). -/
theorem consoleRequest_of_reading {fields : List Byte}
    (hread : serve (receiverDone s) = reading fields (receiverDone s)) :
    consoleRequest kind serve s = replied kind .ok fields (receiverDone s) := by
  rw [consoleRequest_of_ready hs hk, hread]
  rfl

/-- A refusal answers with its outcome alone and leaves the state with the receiver done (R176, R180). -/
theorem consoleRequest_of_refuse {o : OutcomeCode} (hrefuse : serve (receiverDone s) = refuse o (receiverDone s)) :
    consoleRequest kind serve s = replied kind o [] (receiverDone s) := by
  rw [consoleRequest_of_ready hs hk, hrefuse]
  rfl

end

-- The time left that READ CLOCK reports (R4)

theorem remainingReported_of_running {s : State}
    (h : s.clock.phase = .running ∨ (s.clock.phase = .held ∧ s.clock.mark = .paused)) :
    s.remainingReported = leftReported s.clock.remaining := by
  obtain hrunning | ⟨hheld, hpaused⟩ := h
  · simp [State.remainingReported, hrunning]
  · simp [State.remainingReported, hheld, hpaused]

theorem remainingReported_of_grace {s : State} {left : Nat} (hphase : s.clock.phase = .grace)
    (htimer : s.clock.graceTimer = some left) : s.remainingReported = leftReported left := by
  simp [State.remainingReported, hphase, htimer, reported]

theorem remainingReported_of_stopped {s : State}
    (h : s.clock.phase = .idle ∨ s.clock.phase = .staging ∨ (s.clock.phase = .held ∧ s.clock.mark = .atEnd)
      ∨ s.clock.phase = .finished) : s.remainingReported = 0 := by
  obtain hidle | hstaging | ⟨hheld, hend⟩ | hfinished := h
  · simp [State.remainingReported, hidle]
  · simp [State.remainingReported, hstaging]
  · simp [State.remainingReported, hheld, hend]
  · simp [State.remainingReported, hfinished]

-- GET SETTING (R186)

/-- The setting identifiers that are refused BAD_ARG (R180, R186). -/
theorem settingInRange_eq_false_iff (x : Byte) : settingInRange x.toNat = false ↔ x = 0 ∨ 16 < x.toNat := by
  have hzero : x = 0 ↔ x.toNat = 0 := by bv_omega
  simp only [settingInRange, Bool.and_eq_false_iff, decide_eq_false_iff_not, hzero]
  omega

theorem toNat_byte_of_lt {n : Nat} (hn : n < 256) : (byte n).toNat = n :=
  BitVec.toNat_ofNat n 8 ▸ Nat.mod_eq_of_lt hn

theorem serveGetSetting_of_inRange {n : Nat} {s : State} (hn : 1 ≤ n ∧ n ≤ 16) :
    serveGetSetting n s = reading (byte n :: fourBytes (settingValue s.settings n)) s := by
  simp [serveGetSetting, settingInRange, hn]

section
variable {s : State} (hs : s.ready)
include hs

theorem exec_getSetting_of_inRange {n : Nat} (hn : 1 ≤ n ∧ n ≤ 16) :
    exec (.getSetting (byte n)) s
      = .next (replied 0x03 .ok (byte n :: fourBytes (settingValue s.settings n)) (receiverDone s)) := by
  refine congrArg Host.Outcome.next (consoleRequest_of_reading hs (by decide) ?_)
  rw [toNat_byte_of_lt (by omega)]
  exact serveGetSetting_of_inRange hn

-- The selectors out of range, and READ SLOT (R24, R180)

theorem exec_getSetting_of_outOfRange {x : Byte} (hx : x = 0 ∨ 16 < x.toNat) :
    exec (.getSetting x) s = .next (replied 0x03 .badArg [] (receiverDone s)) := by
  have hout := (settingInRange_eq_false_iff x).mpr hx
  exact congrArg Host.Outcome.next (consoleRequest_of_refuse hs (by decide) (if_pos (congrArg (!·) hout)))

theorem exec_readElement_of_outOfRange {x : Byte} (hx : x = 0 ∨ 32 < x.toNat) :
    exec (.readElement x) s = .next (replied 0x11 .badArg [] (receiverDone s)) := by
  have hout := (elementInRange_eq_false_iff x).mpr hx
  exact congrArg Host.Outcome.next (consoleRequest_of_refuse hs (by decide) (if_pos (congrArg (!·) hout)))

theorem exec_readClaims_of_outOfRange {x : Byte} (hx : x = 0 ∨ 32 < x.toNat) :
    exec (.readClaims x) s = .next (replied 0x48 .badArg [] (receiverDone s)) := by
  have hout := (elementInRange_eq_false_iff x).mpr hx
  exact congrArg Host.Outcome.next (consoleRequest_of_refuse hs (by decide) (if_pos (congrArg (!·) hout)))

theorem exec_readTallies_of_outOfRange {x : Byte} (hx : x = 0 ∨ 32 < x.toNat) :
    exec (.readTallies x) s = .next (replied 0x51 .badArg [] (receiverDone s)) := by
  have hout := (elementInRange_eq_false_iff x).mpr hx
  exact congrArg Host.Outcome.next (consoleRequest_of_refuse hs (by decide) (if_pos (congrArg (!·) hout)))

theorem exec_readSlot_of_outOfRange {x : Byte} (hx : x = 0 ∨ 24 < x.toNat) :
    exec (.readSlot x) s = .next (replied 0x22 .badArg [] (receiverDone s)) := by
  have hout := (slotInRange_eq_false_iff x).mpr hx
  exact congrArg Host.Outcome.next (consoleRequest_of_refuse hs (by decide) (if_pos (congrArg (!·) hout)))

theorem exec_readSlot_of_inRange {x : Byte} (hx : 1 ≤ x.toNat ∧ x.toNat ≤ 24) :
    exec (.readSlot x) s = .next (replied 0x22 .ok (slotBytes (s.slot x.toNat)) (receiverDone s)) := by
  have hslot : (receiverDone s).slot x.toNat = s.slot x.toNat := (receiverDone_reads s).1 _
  refine congrArg Host.Outcome.next (consoleRequest_of_reading hs (by decide) ?_)
  simp [serveReadSlot, slotInRange, hx, hslot]

-- The readings without a selector (R17, R141, R151, R181)

theorem exec_readClock_of_ready :
    exec .readClock s = .next (replied 0x37 .ok ([byte (phaseCode s.clock.phase), byte s.clock.index,
      byte (periodKindCode s.currentKind)] ++ twoBytes s.remainingReported
      ++ [byte (markCode s.clock.mark), byte s.periodCount]) (receiverDone s)) :=
  congrArg Host.Outcome.next (consoleRequest_of_reading hs (by decide) rfl)

theorem exec_readScores_of_ready :
    exec .readScores s = .next (replied 0x50 .ok ([byte s.settings.allianceCount, byte (phaseCode s.clock.phase),
      byte s.clock.index] ++ allianceNumbers.flatMap fun a => allianceBytes (s.alliance a)) (receiverDone s)) :=
  congrArg Host.Outcome.next (consoleRequest_of_reading hs (by decide) rfl)

theorem exec_identify_of_ready :
    exec .identify s = .next (replied 0x01 .ok (twoBytes 0x1C3B ++ [24, 1]) (receiverDone s)) :=
  congrArg Host.Outcome.next (consoleRequest_of_reading hs (by decide) rfl)

theorem exec_readStop_of_ready :
    exec .readStop s = .next (replied 0x42 .ok [markByte s.stop.stopped,
      byte (packMarks s.stop.pin s.stop.brk s.stop.console s.stop.reset false), markByte s.stop.stopIn,
      markByte s.console.breakInProgress] (receiverDone s)) :=
  congrArg Host.Outcome.next (consoleRequest_of_reading hs (by decide) rfl)

end

/-- Without its bit 4, the packed marks are one bit each and nothing above them (R151, R196). -/
theorem byte_packMarks (a b c d : Bool) :
    let m := byte (packMarks a b c d false)
    m.getLsbD 0 = a ∧ m.getLsbD 1 = b ∧ m.getLsbD 2 = c ∧ m.getLsbD 3 = d ∧ m.toNat < 16 := by
  revert a b c d
  decide

/-- Settles O7: the 16 settings are the values that the model reads at the identifiers 1 to 16; each other clause is the
reading or the refusal of its request. -/
theorem readingsGiveTheirFields : Obligations.ReadingsGiveTheirFields := by
  refine ⟨fun s hs => ?_, fun s hs => exec_identify_of_ready hs, fun s hs => ?_⟩
  · refine ⟨exec_readClock_of_ready hs, ?scores, remainingReported_of_running,
      fun left hphase htimer => remainingReported_of_grace hphase htimer, remainingReported_of_stopped, ?settings,
      fun x hx => exec_getSetting_of_outOfRange hs hx,
      fun x hx => ⟨exec_readElement_of_outOfRange hs hx, exec_readClaims_of_outOfRange hs hx,
        exec_readTallies_of_outOfRange hs hx⟩,
      fun x hx => exec_readSlot_of_outOfRange hs hx, fun x hlow hhigh => exec_readSlot_of_inRange hs ⟨hlow, hhigh⟩⟩
    case scores =>
      rw [exec_readScores_of_ready hs]
      simp [allianceNumbers, List.range']
    case settings =>
      intro id v hmem
      change (id, v) ∈ (List.range' 1 16).map fun n => (byte n, settingValue s.settings n) at hmem
      obtain ⟨n, hn, hpair⟩ := List.mem_map.mp hmem
      obtain ⟨rfl, rfl⟩ := Prod.mk.inj hpair
      rw [List.mem_range'_1] at hn
      exact exec_getSetting_of_inRange hs (by omega)
  · exact ⟨_, exec_readStop_of_ready hs, byte_packMarks ..⟩

end Sys2Proof.Machine
end

section
/-! PROOFS. The attention requests: the sets that are refused, what CLEAR EVENTS and SET EVENT ENABLES write, and the
level of ATTN (R184, R185). -/

namespace Sys2Proof.Machine

-- The ATTN line (R184)

theorem attn_iff (s : State) :
    s.attn = true ↔ ∃ i, s.attention.flags.getLsbD i = true ∧ s.attention.enables.getLsbD i = true := by
  simp only [State.attn, bne_iff_ne, ← Bool.and_eq_true, ← BitVec.getLsbD_and]
  constructor
  · intro hne
    by_contra! hclear
    exact hne (BitVec.eq_of_getLsbD_eq fun i _ => by simpa using hclear i)
  · rintro ⟨i, hi⟩ hzero
    simp [hzero] at hi

-- The sets of the requests (R185, R194)

theorem flagSetOf_of_outOfRange {x : BitVec 24} (hx : x.getLsbD 22 = true ∨ x.getLsbD 23 = true) :
    flagSetOf x = none :=
  if_pos (Bool.or_eq_true _ _ ▸ hx)

/-- A set that marks no number above 21 is carried over mark by mark. -/
theorem flagSetOf_of_inRange {x : BitVec 24} (h22 : x.getLsbD 22 = false) (h23 : x.getLsbD 23 = false) :
    ∃ f, flagSetOf x = some f ∧ ∀ i, f.getLsbD i = x.getLsbD i := by
  refine ⟨x.setWidth 22, if_neg (by simp only [h22, h23]; decide), fun i => ?_⟩
  obtain hlow | rfl | rfl | hhigh : i < 22 ∨ i = 22 ∨ i = 23 ∨ 24 ≤ i := by omega
  · simp [hlow]
  · rw [h22, BitVec.getLsbD_of_ge _ _ (by decide)]
  · rw [h23, BitVec.getLsbD_of_ge _ _ (by decide)]
  · rw [BitVec.getLsbD_of_ge x i hhigh, BitVec.getLsbD_of_ge _ _ (by omega)]

/-- Clearing a set leaves the flags that stand and are not in it. -/
theorem getLsbD_clearFlags (s : State) (f : FlagSet) (i : Nat) :
    (s.clearFlags f).attention.flags.getLsbD i = (s.attention.flags.getLsbD i && !f.getLsbD i) := by
  by_cases hi : i < 22
  · simp [hi]
  · simp [BitVec.getLsbD_of_ge s.attention.flags i (by omega)]

-- The requests (R185)

section
variable {s : State} (hs : s.ready)
include hs

theorem exec_readEvents_of_ready :
    exec .readEvents s
      = .next (replied 0x60 .ok (flagBytes s.attention.flags ++ flagBytes s.attention.enables) (receiverDone s)) :=
  congrArg Host.Outcome.next (consoleRequest_of_reading hs (by decide) rfl)

theorem exec_clearEvents_of_outOfRange {x : BitVec 24} (hx : flagSetOf x = none) :
    exec (.clearEvents x) s = .next (replied 0x61 .badArg [] (receiverDone s)) :=
  congrArg Host.Outcome.next (consoleRequest_of_refuse hs (by decide) (by rw [serveClearEvents, hx]))

theorem exec_setEventEnables_of_outOfRange {x : BitVec 24} (hx : flagSetOf x = none) :
    exec (.setEventEnables x) s = .next (replied 0x62 .badArg [] (receiverDone s)) :=
  congrArg Host.Outcome.next (consoleRequest_of_refuse hs (by decide) (by rw [serveSetEventEnables, hx]))

theorem exec_clearEvents_of_inRange {x : BitVec 24} {f : FlagSet} (hx : flagSetOf x = some f) :
    exec (.clearEvents x) s
      = .next (replied 0x61 .ok (flagBytes (s.clearFlags f).attention.flags) ((receiverDone s).clearFlags f)) := by
  refine congrArg Host.Outcome.next ((consoleRequest_of_ready hs (by decide) _).trans ?_)
  rw [serveClearEvents, hx]
  rfl

theorem exec_setEventEnables_of_inRange {x : BitVec 24} {f : FlagSet} (hx : flagSetOf x = some f) :
    exec (.setEventEnables x) s = .next (replied 0x62 .ok [] ((receiverDone s).setEnables f)) := by
  refine congrArg Host.Outcome.next ((consoleRequest_of_ready hs (by decide) _).trans ?_)
  rw [serveSetEventEnables, hx]
  rfl

end

/-- Settles O13: the level of ATTN, then the requests by the two readings of their set, refused or carried over. -/
theorem attentionRequestsReadClearAndEnable : Obligations.AttentionRequestsReadClearAndEnable := by
  refine ⟨attn_iff, fun s x hs => ⟨exec_readEvents_of_ready hs, fun hout => ?_, fun h22 h23 => ?_⟩⟩
  · have hx := flagSetOf_of_outOfRange hout
    exact ⟨exec_clearEvents_of_outOfRange hs hx, exec_setEventEnables_of_outOfRange hs hx⟩
  · obtain ⟨f, hx, hmarks⟩ := flagSetOf_of_inRange h22 h23
    exact ⟨⟨_, fun i => hmarks i ▸ getLsbD_clearFlags s f i, exec_clearEvents_of_inRange hs hx⟩,
      f, hmarks, exec_setEventEnables_of_inRange hs hx⟩

end Sys2Proof.Machine
end

section
/-! PROOFS. What a command can do, said once: every command is a sequence of moves, each the smallest change of the state
that keeps the laws of Safety.lean by itself. A law is proved by its moves alone. -/

namespace Sys2Proof.Machine

open Relation (ReflTransGen)

/-- A move of the elements, their lights, faults and scores. None touches an actuation record, the transaction on the bus,
the pass-through slot, the clock, the stop or a slot record beyond its counts. -/
inductive ElementMove (s : State) : State → Prop
  /-- Parts that no law reads change. -/
  | unread (console : ConsoleLink) (attention : Attention) (uptime freeCount meetings : Nat) (pending : List Instr)
      (scores : Vector ElementScore 32) (capture : Option CapturedFault) (repeated : Bool) :
    ElementMove s { s with console := console, attention := attention, uptime := uptime, freeCount := freeCount,
                           meetings := meetings, pending := pending, score := { s.score with elements := scores },
                           table := { s.table with capture := capture, repeated := repeated } }
  | recomputed (e : Nat) : ElementMove s (recompute e s)
  | placeServed : ElementMove s (servePlace s)
  | placesCounted (k : Nat) : ElementMove s { s with bus := { s.bus with freed := k } }
  | pulsed (e : Nat) (pulse : Timer) (credited : Option Nat) :
    ElementMove s (s.setLight e { s.light e with pulse := pulse, lastCredited := credited })
  | lightFailed (e : Nat) : ElementMove s (lightFailed e s)
  /-- A run-time part changes, and no withdrawal begins. -/
  | runWritten (e : Nat) (r : ElementRun) (hin : r.withdrawn = true → (s.run e).withdrawn = true)
      (hpending : r.withdrawPending = true → (s.run e).withdrawPending = true) : ElementMove s (s.setRun e r)
  /-- A withdrawal takes effect, and the claim state is emptied (R56, R90). -/
  | withdrawn (e : Nat) :
    ElementMove s (emptyElement e (s.modRun e fun r => { r with withdrawn := true, withdrawPending := false }))
  | pointsAdded (a n : Nat) : ElementMove s (addPoints a n s)
  | pointsTaken (a n : Nat) : ElementMove s (takePoints a n s)

/-- How an event changes the record of a slot: the record behind it, from the one before. -/
inductive SlotMove (s : State) (x : Slot) : Slot → Prop
  | registered (kit : Word) (alliance team : Nat) (hempty : x.state = .empty)
      (halliance : alliance ≤ s.settings.allianceCount) : SlotMove s x (registeredSlot s.settings kit alliance team)
  | vacated : SlotMove s x vacantSlot
  | disabled (d : Disable) (hempty : x.state ≠ .empty) : SlotMove s x (disableSlot d x)
  | enabled : SlotMove s x (endDisable x)
  | undisabled (hstate : x.state = .empty ∨ x.state = .expected) : SlotMove s x { x with disable := none }
  | tiersRestored (t : Timer) : SlotMove s x { x with permitted := allTiers, attempts := 0, restoreTimer := t }
  | advertised (a : Option TierMask) (t : Timer) : SlotMove s x { x with lastAd := a, restoreTimer := t }
  | returned (a : Option TierMask) (hempty : x.state ≠ .empty) :
    SlotMove s x (toExpected s.settings { x with lastAd := a })
  | lost (hstate : x.state = .admitted ∨ x.state = .disabled) : SlotMove s x (toLost s.settings x)
  | offered (a : Option TierMask) (tier cap : Nat) (wasLost : Bool) (hphase : s.clock.phase ≠ .idle)
      (hempty : x.state ≠ .empty) : SlotMove s x (toOffered s.settings tier cap wasLost { x with lastAd := a })
  | offerRepeated (t : Nat) (hstate : x.state = .offered) : SlotMove s x { x with confirmTimer := some t }
  | admitted (hstate : x.state = .offered) : SlotMove s x (toAdmitted s.settings x)
  | lapsed (attempts : Nat) (permitted : TierMask) (hstate : x.state = .offered)
      (hpermitted : x.permitted ≠ 0 → permitted ≠ 0) :
    SlotMove s x (lapseOffer s.settings { x with attempts := attempts, permitted := permitted })
  | heard (t : Nat) (hstate : x.state = .admitted ∨ x.state = .disabled) :
    SlotMove s x { x with silenceTimer := some t }

/-- A move of the Roster: a slot record changes, behind the drop of the slot's claims where it may have any. -/
inductive RosterMove (s : State) : State → Prop
  | slot (n : Nat) (y : Slot) (h : SlotMove s (s.slot n) y)
      (hstate : (s.slot n).state = .admitted → y.state = .admitted) : RosterMove s (s.setSlot n y)
  | left (n : Nat) (y : Slot) (h : SlotMove s ((dropClaims n s).slot n) y) :
    RosterMove s ((dropClaims n s).setSlot n y)

/-- How the clock moves while no claim state changes. -/
inductive ClockMove (s : State) : Clock → Prop
  | planned (p : Plan) (hphase : s.clock.phase = .idle) (hplan : planInRange p) :
    ClockMove s { s.clock with plan := some p }
  | staged (hphase : s.clock.phase = .idle) (hplan : s.clock.plan.isSome = true) :
    ClockMove s { s.clock with phase := .staging, index := 0, remaining := 0, mark := .none, graceTimer := none }
  | started (r : Nat) (hphase : s.clock.phase = .staging) (hstop : s.stop.stopped = false) :
    ClockMove s { s.clock with phase := .running, index := 1, remaining := r, mark := .none, graceTimer := none }
  | wentOn (r : Nat) (hphase : s.clock.phase = .running ∨ s.clock.phase = .held ∧ s.stop.stopped = false)
      (hindex : s.clock.index < s.periodCount) :
    ClockMove s { s.clock with phase := .running, index := s.clock.index + 1, remaining := r, mark := .none,
                               graceTimer := none }
  | resumed (hphase : s.clock.phase = .held) (hstop : s.stop.stopped = false) :
    ClockMove s { s.clock with phase := .running, mark := .none, graceTimer := none }
  | held (mark : HeldMark) (r : Nat) (hphase : s.clock.phase = .running) (hmark : mark ≠ .none)
      (hr : mark ≠ .paused → r = 0) :
    ClockMove s { s.clock with phase := .held, remaining := r, mark := mark, graceTimer := none }

/-- How the clock moves when the match leaves its periods or is over. -/
inductive EndMove (s : State) : Clock → Prop
  | finished (hphase : s.clock.phase ≠ .idle) :
    EndMove s { s.clock with phase := .finished, remaining := 0, mark := .none, graceTimer := none }
  | grace (t : Nat) (hphase : s.clock.phase = .running ∨ s.clock.phase = .held) :
    EndMove s { s.clock with phase := .grace, remaining := 0, mark := .none, graceTimer := some t }

/-- The ways in which an actuation is off the command queue and the bus when it ends: it is in flight, its ACTUATE was the
transaction on the bus, or its entry is discarded. -/
inductive Off (e : Nat) (s : State) : State → Prop
  | inFlight (hact : (s.act e).state = .inFlight) : Off e s s
  | answered (t : Transaction) (argument : Nat) (hcurrent : s.bus.current = some t)
      (hrequest : t.request = .actuate e argument) : Off e s { s with bus := { s.bus with current := none } }
  | discarded (x : Entry) (hx : x ∈ s.bus.queue) (hfor : x.isActuateFor e = true) :
    Off e s (s.setQueue (s.bus.queue.erase x))

/-- The ways in which the RAW is off the command queue and the bus. -/
inductive RawOff (s : State) : State → Prop
  | answered (h : rawOnBus s.bus = true) : RawOff s { s with bus := { s.bus with current := none } }
  | discarded (x : Entry) (hx : x ∈ s.bus.queue) (hraw : x.isRaw = true) : RawOff s (s.setQueue (s.bus.queue.erase x))

/-- A move of the machine. -/
inductive Event (s : State) : State → Prop
  | element {t : State} (h : ElementMove s t) : Event s t
  | roster {t : State} (h : RosterMove s t) : Event s t
  -- links, lists and the store
  | link (l : RobotLink) (hreplies : l.replies.length ≤ max 8 s.link.replies.length)
      (huplink : l.uplink = s.link.uplink) : Event s { s with link := l }
  | frameTaken (f : UplinkFrame) (rest : List UplinkFrame) (h : s.link.uplink = f :: rest) :
    Event s { s with link := { s.link with uplink := rest } }
  | frameArrived (f : UplinkFrame) : Event s (joinUplink f s)
  | strangers (l : List Word) (h : l.length ≤ max 4 s.roster.strangers.length) : Event s (s.setStrangers l)
  | storeBegun (left : Nat) : Event s { s with store := { s.store with
      writing := some { copy := { settings := s.settings, defs := s.table.defs }, left := left } } }
  | storeDone (w : StoreWrite) (h : s.store.writing = some w) :
    Event s { s with store := { writing := none, standing := w.copy, standingGood := true } }
  | setting (id v : Nat) (hid : settingInRange id = true) (hcode : settingCodeOk id v = true)
      (huse : id = 2 → s.allianceInUseAbove (clampSetting id v) = false) :
    Event s { s with settings := writeSetting id (clampSetting id v) s.settings }
  -- the clock and the stop
  | clock (c : Clock) (h : ClockMove s c) : Event s { s with clock := c }
  | ended (c : Clock) (h : EndMove s c) : Event s (clearClaims { s with clock := c })
  | closed {t : State} (hphase : s.clock.phase = .staging ∨ s.clock.phase = .finished)
      (h : ReflTransGen RosterMove { s with clock := { s.clock with
        phase := .idle, index := 0, remaining := 0, mark := .none, graceTimer := none } } t)
      (hslots : ∀ n, (t.slot n).state = .empty ∨ (t.slot n).state = .expected) : Event s t
  | stopIn (b : Bool) : Event s (setStopIn b s)
  | causeJoined (c : Cause) (h : s.stop.stopped = true) : Event s { s with stop := latch c s.stop }
  | stopped (c : Cause) (h : s.stop.stopped = false) :
    Event s (stopClock { s with stop := latch c { unlatch s.stop with stopped := true } })
  | stopReleased (h : s.awake) : Event s { s with stop := { unlatch s.stop with stopped := false } }
  | resetReleased (h : s.resetAsserted = true) :
    Event s { s with resetAsserted := false, stop := { s.stop with pin := s.stop.pin || s.stop.stopIn } }
  | startedUp (g : Settings) (defs : Vector ElementDef 32) (flags : FlagSet) (completes asserted : Bool)
      (h : g = s.settings ∧ defs = s.table.defs ∨ g = s.store.standing.settings ∧ defs = s.store.standing.defs
        ∨ g = factorySettings ∧ defs = noDefinitions) :
    Event s (startUpWith g defs flags completes { s with resetAsserted := asserted })
  | timePassed : Event s (passTime s)
  -- elements and claims
  | elementDefined (e : Nat) (d : ElementDef) (hact : (s.act e).state = .none)
      (hside : ∀ a, d.kind ≠ .none → d.side = some a → a ≤ s.settings.allianceCount) : Event s (define e d s)
  | withdrawalAsked (e : Nat) (hact : (s.act e).state ≠ .none) (hin : (s.run e).withdrawn = false) :
    Event s (s.modRun e fun r => { r with withdrawPending := true })
  | scoresSet : Event s (setUpScores s)
  | granted (n e : Nat) (hopen : openTo n e s) (hholder : (s.claim e).holder = none)
      (hwaiters : n ∉ (s.claim e).waiters) (hholds : (s.slot n).holdCount < 2) : Event s (becomeHolder n e s)
  | joined (n e h : Nat) (hopen : openTo n e s) (hholder : (s.claim e).holder = some h) (hother : h ≠ n)
      (hwaiters : n ∉ (s.claim e).waiters) (hholds : (s.slot n).holdCount < 2) (hwaits : (s.slot n).waitCount < 2)
      (hroom : (s.claim e).waiters.length < 4) : Event s (joinList n e s)
  | leftList (n e : Nat) : Event s (leaveList n e s)
  | holdEnded (h e : Nat) (withBar : Bool) (a : Attention) (hholder : (s.claim e).holder = some h) :
    Event s (handover e { unheld h e withBar s with attention := a })
  | unbarred (e : Nat) : Event s (s.setClaim e { s.claim e with barred := none })
  -- the field bus
  | busCounted (halt : Bool) (k last : Nat) (hk : k ≤ max 4 s.bus.commandCount) :
    Event s { s with bus := { s.bus with haltPending := halt, commandCount := k, lastPolled := last } }
  | requestSent (r : BusRequest) (hfree : s.bus.current = none) (hr : (∃ e, r = .poll e) ∨ r = .halt) :
    Event s (sendRequest r s)
  | entrySent (x : Entry) (rest : List Entry) (hfree : s.bus.current = none) (hq : s.bus.queue = x :: rest) :
    Event s (sendRequest (entryRequest x) (s.setQueue rest))
  | windowSet (t : Transaction) (w : Timer) (h : s.bus.current = some t) :
    Event s { s with bus := { s.bus with current := some { t with window := w } } }
  | busFreed (t : Transaction) (h : s.bus.current = some t) (hact : ∀ e a, t.request ≠ .actuate e a)
      (hraw : ∀ e bytes, t.request ≠ .raw e bytes) : Event s { s with bus := { s.bus with current := none } }
  | actuationQueued (e argument : Nat) (o : Origin) (c : Option Charge) (he : 1 ≤ e ∧ e ≤ 32)
      (hact : (s.act e).state = .none) (hroom : s.bus.queue.length < queuePlaces) :
    Event s (queueActuation e argument o c s)
  | rawQueued (x : Entry) (hx : x.isRaw = true) (hpass : s.bus.pass ≠ .pending)
      (hroom : s.bus.queue.length < queuePlaces) : Event s ((appendEntry x s).setPass .pending)
  | actuationStarted (e argument : Nat) (t : Transaction) (timer : Nat) {w : State} (hcurrent : s.bus.current = some t)
      (hrequest : t.request = .actuate e argument)
      (hw : ReflTransGen ElementMove { s with bus := { s.bus with current := none } } w) :
    Event s (w.setAct e { w.act e with state := .inFlight, timer := some timer })
  | actuationEnded (e : Nat) (o : ActOutcome) {u w : State} (hu : Off e s u) (hw : ReflTransGen ElementMove u w) :
    Event s (endActuation e o w)
  | passArrived (p : PassSlot) {u w : State} (hp : p ≠ .pending) (hu : RawOff s u) (hw : ReflTransGen ElementMove u w) :
    Event s (w.setPass p)

end Sys2Proof.Machine
end

section
/-! PROOFS. The shared operations as sequences of moves. -/

namespace Sys2Proof.Machine

open Relation (ReflTransGen)

/-- Moves of the elements, one after another. -/
abbrev Moves : State → State → Prop := ReflTransGen ElementMove

/-- Moves of the machine, one after another. -/
abbrev Events : State → State → Prop := ReflTransGen Event

theorem Moves.events {s t : State} (h : Moves s t) : Events s t := h.lift id fun _ _ => Event.element

theorem RosterMove.events {s t : State} (h : RosterMove s t) : Events s t := .single (.roster h)

-- Parts that no law reads

theorem moves_setFlag (f : Flag) (s : State) : Moves s (s.setFlag f) := .single (.unread _ _ _ _ _ _ _ _ _)

theorem moves_setFlagIf (c : Bool) (f : Flag) (s : State) : Moves s (s.setFlagIf c f) := by
  unfold State.setFlagIf
  split
  · exact moves_setFlag f s
  · exact .refl

theorem moves_setElemScore (e : Nat) (x : ElementScore) (s : State) : Moves s (s.setElemScore e x) :=
  .single (.unread _ _ _ _ _ _ _ _ _)

theorem moves_clearAccumulator (e : Nat) (s : State) : Moves s (clearAccumulator e s) := moves_setElemScore _ _ _

theorem moves_console (c : ConsoleLink) (s : State) : Moves s { s with console := c } :=
  .single (.unread _ _ _ _ _ _ _ _ _)

theorem moves_pending (p : List Instr) (s : State) : Moves s { s with pending := p } :=
  .single (.unread _ _ _ _ _ _ _ _ _)

theorem moves_receiverDone (s : State) : Moves s (receiverDone s) := moves_console _ _

theorem moves_holdReply (r : Reply) (s : State) : Moves s (holdReply r s) := moves_console _ _

theorem moves_recompute (e : Nat) (s : State) : Moves s (recompute e s) := .single (.recomputed e)

theorem moves_recompute_of {e : Nat} {s t : State} (h : Moves s t) : Moves s (recompute e t) := h.tail (.recomputed e)

theorem moves_clearAccumulator_of {e : Nat} {s t : State} (h : Moves s t) : Moves s (clearAccumulator e t) :=
  h.trans (moves_clearAccumulator e t)

-- Freed places (R121)

theorem moves_servePlaces (n : Nat) (s : State) : Moves s (servePlaces n s) := by
  induction n generalizing s with
  | zero => exact .refl
  | succ n ih => exact (ReflTransGen.single .placeServed).trans (ih _)

theorem moves_takeWaitingPlaces (s : State) : Moves s (takeWaitingPlaces s) :=
  (ReflTransGen.single (.placesCounted 0)).trans (moves_servePlaces _ _)

theorem moves_meetings (k : Nat) (s : State) : Moves s { s with meetings := k } := .single (.unread _ _ _ _ _ _ _ _ _)

theorem moves_freedPlace (s : State) : Moves s (freedPlace s) := by
  rcases freedPlace_cases s with ⟨_, h⟩ | ⟨_, h | h⟩ <;> rw [h]
  · exact (moves_meetings (s.meetings + 1) s).tail (.placesCounted (s.bus.freed + 1))
  · exact (moves_meetings (s.meetings + 1) s).tail .placeServed

-- Credits and arrivals (R130 to R137)

theorem moves_startPulse (e a : Nat) (s : State) : Moves s (startPulse e a s) :=
  moves_recompute_of (.single (.pulsed e _ _))

theorem moves_creditGoal (e a m n : Nat) (s : State) : Moves s (creditGoal e a m n s) :=
  ((ReflTransGen.single (.pointsAdded _ _)).trans (moves_setElemScore _ _ _)).trans (moves_startPulse _ _ _)

theorem moves_creditSecond (e a : Nat) (s : State) : Moves s (creditSecond e a s) :=
  ((moves_setElemScore _ _ _).tail (.pointsAdded _ _)).trans (moves_startPulse _ _ _)

theorem moves_countObjects (e n : Nat) (s : State) : Moves s (countObjects e n s) := by
  unfold countObjects
  split
  · exact moves_setElemScore _ _ _
  · split
    · exact moves_creditGoal _ _ _ _ _
    · exact moves_creditGoal _ _ _ _ _
    · exact moves_setElemScore _ _ _

theorem moves_goalTotal (e total : Nat) (s : State) : Moves s (goalTotal e total s) := by
  have hbaseline := moves_setElemScore e { s.elemScore e with baseline := some total } s
  unfold goalTotal
  dsimp only
  split
  · exact hbaseline
  · split
    · exact hbaseline
    · exact hbaseline.trans (moves_countObjects _ _ _)

-- Faults, presence and withdrawal (R56 to R62)

/-- A run-time part whose withdrawal flags stay as they are. -/
theorem moves_setRun {e : Nat} {r : ElementRun} {s : State} (hin : r.withdrawn = (s.run e).withdrawn)
    (hpending : r.withdrawPending = (s.run e).withdrawPending) : Moves s (s.setRun e r) :=
  .single (.runWritten e r (fun h => hin ▸ h) (fun h => hpending ▸ h))

theorem moves_captureFault (e : Nat) (k : FaultKind) (s : State) : Moves s (captureFault e k s) := by
  unfold captureFault
  dsimp only
  split
  · exact .single (.unread _ _ _ _ _ _ _ _ _)
  · split
    · exact .single (.unread _ _ _ _ _ _ _ _ _)
    · exact .single (.unread _ _ _ _ _ _ _ _ _)

theorem moves_recordFault (e : Nat) (k : FaultKind) (s : State) : Moves s (recordFault e k s) := by
  unfold recordFault
  dsimp only
  refine ReflTransGen.trans ?_ ((moves_captureFault e k _).trans (moves_setFlag _ _))
  split
  · exact moves_recompute_of (moves_setRun rfl rfl)
  · exact moves_setRun rfl rfl

theorem moves_goodAnswer (e : Nat) (s : State) : Moves s (goodAnswer e s) :=
  (moves_setRun (r := { s.run e with missCount := 0, presence := .present }) rfl rfl).trans (moves_setFlagIf _ _ _)

theorem moves_countMiss (e : Nat) (s : State) : Moves s (countMiss e s) := by
  unfold countMiss
  dsimp only
  split_ifs
  · exact .refl
  · exact moves_setRun rfl rfl
  · exact ((moves_setRun (r := { s.run e with missCount := 3, presence := .absent }) rfl rfl).trans
      (moves_recordFault _ _ _)).trans (moves_setFlag _ _)

theorem moves_missedAnswer (e : Nat) (failed : Bool) (s : State) : Moves s (missedAnswer e failed s) := by
  unfold missedAnswer
  refine ReflTransGen.trans ?_ (moves_countMiss e _)
  split
  · exact moves_recordFault _ _ _
  · exact .refl

theorem moves_reportResult (e : Nat) (r : BusResult) (s : State) : Moves s (reportResult e r s) := by
  unfold reportResult
  split
  · cases r with
    | good a => exact moves_goodAnswer e s
    | failedCheck => exact moves_missedAnswer e true s
    | noAnswer => exact moves_missedAnswer e false s
  · exact .refl

theorem moves_withdrawNow (e : Nat) (s : State) : Moves s (withdrawNow e s) :=
  moves_recompute_of
    ((moves_clearAccumulator_of (ReflTransGen.single (.withdrawn e))).trans (moves_setFlag .withdrawn _))

/-- The outcome of an actuation is reported, with the fault that it carries: R57 without its pending withdrawal. -/
def outcomeReported (e : Nat) (o : ActOutcome) (s : State) : State :=
  match endingFault o with
  | some k => recordFault e k (s.modRun e fun r => { r with lastOutcome := some o })
  | none => s.modRun e fun r => { r with lastOutcome := some o }

theorem actuationEnded_eq (e : Nat) (o : ActOutcome) (s : State) : actuationEnded e o s =
    if ((outcomeReported e o s).run e).withdrawPending then withdrawNow e (outcomeReported e o s)
    else outcomeReported e o s := rfl

theorem moves_outcomeReported (e : Nat) (o : ActOutcome) (s : State) : Moves s (outcomeReported e o s) := by
  have houtcome : Moves s (s.modRun e fun r => { r with lastOutcome := some o }) := moves_setRun rfl rfl
  unfold outcomeReported
  split
  · exact houtcome.trans (moves_recordFault _ _ _)
  · exact houtcome

theorem moves_actuationEnded (e : Nat) (o : ActOutcome) (s : State) : Moves s (actuationEnded e o s) := by
  rw [actuationEnded_eq]
  split
  · exact (moves_outcomeReported e o s).trans (moves_withdrawNow _ _)
  · exact moves_outcomeReported e o s

theorem moves_refundCharge (e : Nat) (o : ActOutcome) (c : Option Charge) (s : State) :
    Moves s (refundCharge e o c s) := by
  unfold refundCharge
  split
  · exact moves_setElemScore _ _ _
  all_goals exact .refl

/-- The end of an actuation sets its record to rest; the rest are moves of the elements. -/
theorem moves_endActuation (e : Nat) (o : ActOutcome) (s : State) : Moves (s.setAct e restAct) (endActuation e o s) :=
  ((moves_refundCharge _ _ _ _).trans (moves_actuationEnded _ _ _)).trans (moves_setFlagIf _ _ _)

-- The flags of the elements and their lights

theorem moves_copyDefaultFlags (s : State) : Moves s (copyDefaultFlags s) := by
  refine foldl_inv (Moves s) _ (fun t e h => ?_) elementNumbers s .refl
  split
  · exact h.trans (moves_setRun rfl rfl)
  · exact h

theorem moves_clearElementFaults (e : Nat) (s : State) : Moves s (clearElementFaults e s) := by
  unfold clearElementFaults
  dsimp only
  split
  · exact moves_recompute_of (moves_setRun rfl rfl)
  · exact moves_setRun rfl rfl

theorem moves_lightResult (e : Nat) (r : BusResult) (s : State) : Moves s (lightResult e r s) := by
  cases r with
  | good a => exact .refl
  | failedCheck => exact .single (.lightFailed e)
  | noAnswer => exact .single (.lightFailed e)

end Sys2Proof.Machine
end

section
/-! PROOFS. The shared operations of the machine as sequences of moves: the links, the arbiters, the clock, the halting of the
field, the results of transactions and the Roster. -/

namespace Sys2Proof.Machine

open Relation (ReflTransGen)

-- What the elements' moves leave alone on the bus

/-- The ACTUATE and RAW entries of a queue, in their order. -/
def commandEntries (q : List Entry) : List Entry := q.filter fun x => x.isActuate || x.isRaw

theorem commandEntries_append_light (q : List Entry) (e : Nat) (d : Display) :
    commandEntries (q ++ [lightEntry e d]) = commandEntries q := by
  simp [commandEntries, List.filter_append, lightEntry, Entry.isActuate, Entry.isRaw]

theorem commandEntries_replaceLight (e : Nat) (d : Display) (q : List Entry) :
    commandEntries (replaceLight e d q) = commandEntries q := by
  induction q with
  | nil => rfl
  | cons x q ih =>
    have hcons : replaceLight e d (x :: q)
        = (if x.isLightFor e then { x with arg := .light d } else x) :: replaceLight e d q := rfl
    rw [hcons]
    unfold commandEntries at ih ⊢
    rw [List.filter_cons, List.filter_cons, ih]
    cases harg : x.arg with
    | light d' => cases hfor : x.isLightFor e <;> simp [Entry.isActuate, Entry.isRaw, harg]
    | actuate a => simp [Entry.isLightFor, Entry.isActuate, harg]
    | raw bytes => simp [Entry.isLightFor, Entry.isActuate, Entry.isRaw, harg]

theorem commandEntries_issueLight (e : Nat) (l : Light) (s : State) :
    commandEntries (issueLight e l s).bus.queue = commandEntries s.bus.queue := by
  unfold issueLight
  split_ifs
  · rfl
  · exact commandEntries_replaceLight e l.computed s.bus.queue
  · exact commandEntries_append_light _ _ _
  · rfl

theorem commandEntries_recompute (e : Nat) (s : State) :
    commandEntries (recompute e s).bus.queue = commandEntries s.bus.queue := by
  unfold recompute
  split
  · exact commandEntries_issueLight _ _ _
  · rfl

theorem commandEntries_servePlace (s : State) :
    commandEntries (servePlace s).bus.queue = commandEntries s.bus.queue := by
  rcases servePlace_cases s with h | ⟨e, _, _, h⟩ <;> rw [h]
  exact commandEntries_append_light _ _ _

/-- What the law of the bus reads of the bus is as it was. -/
structure SameBus (s t : State) : Prop where
  acts : t.bus.acts = s.bus.acts
  current : t.bus.current = s.bus.current
  pass : t.bus.pass = s.bus.pass
  entries : commandEntries t.bus.queue = commandEntries s.bus.queue

theorem SameBus.refl (s : State) : SameBus s s := ⟨rfl, rfl, rfl, rfl⟩

theorem SameBus.trans {s t u : State} (h : SameBus s t) (h' : SameBus t u) : SameBus s u :=
  ⟨h'.acts.trans h.acts, h'.current.trans h.current, h'.pass.trans h.pass, h'.entries.trans h.entries⟩

theorem ElementMove.sameBus {s t : State} (h : ElementMove s t) : SameBus s t := by
  cases h with
  | recomputed e => exact ⟨by simp, by simp, by simp, commandEntries_recompute e s⟩
  | placeServed => exact ⟨by simp, by simp, by simp, commandEntries_servePlace s⟩
  | _ => exact ⟨by simp, by simp, by simp, by simp⟩

theorem Moves.sameBus {s t : State} (h : Moves s t) : SameBus s t := by
  induction h with
  | refl => exact .refl s
  | tail _ h ih => exact ih.trans h.sameBus

-- The links (R158, R160, R161)

theorem events_link {s : State} (l : RobotLink) (hreplies : l.replies.length ≤ max 8 s.link.replies.length)
    (huplink : l.uplink = s.link.uplink) : Events s { s with link := l } := .single (.link l hreplies huplink)

theorem events_makeBeaconDue (s : State) : Events s s.makeBeaconDue := events_link _ (by simp) rfl

theorem events_setBox (n : Nat) (x : Option Message) (s : State) : Events s (s.setBox n x) := events_link _ (by simp) rfl

theorem events_queueReply (f : DownFrame) (s : State) : Events s (queueReply f s) := by
  unfold queueReply
  split
  · exact events_link _ (by simp; omega) rfl
  · exact (moves_setFlag _ _).events

theorem events_portArbiter (s : State) : Events s (portArbiter s) := by
  unfold portArbiter
  split_ifs
  · exact .refl
  · exact events_link _ (by simp) rfl
  · split
    · next f rest h => exact events_link _ (by simp [h]) rfl
    · exact .refl

-- The transaction arbiter (R98) and the end of an event

theorem events_poll {s : State} (hfree : s.bus.current = none) (e : Nat) :
    Events s (sendRequest (.poll e) { s with bus := { s.bus with commandCount := 0, lastPolled := e } }) :=
  (ReflTransGen.single (.busCounted s.bus.haltPending 0 e (by omega))).tail
    (.requestSent (.poll e) hfree (.inl ⟨e, rfl⟩))

theorem events_chooseTransaction {s : State} (hfree : s.bus.current = none) : Events s (chooseTransaction s) := by
  unfold chooseTransaction
  split
  · exact (ReflTransGen.single (.busCounted false s.bus.commandCount s.bus.lastPolled (by omega))).tail
      (.requestSent .halt hfree (.inr rfl))
  · split
    · next x rest hq =>
      split
      · refine ReflTransGen.trans ?_ (moves_freedPlace _).events
        have hcounted : Events s _ := .single (.busCounted s.bus.haltPending (min 4 (s.bus.commandCount + 1))
          s.bus.lastPolled (by omega))
        exact hcounted.tail (.entrySent (s := { s with bus := { s.bus with
          commandCount := min 4 (s.bus.commandCount + 1) } }) x rest hfree hq)
      · split
        · exact events_poll hfree _
        · exact .refl
    · split
      · exact events_poll hfree _
      · exact .refl

theorem events_busArbiter (s : State) : Events s (busArbiter s) := by
  unfold busArbiter
  split
  · exact .refl
  · next h => exact events_chooseTransaction (by simpa using h)

theorem events_settle (s : State) : Events s (settle s) :=
  ((moves_takeWaitingPlaces s).events.trans (events_busArbiter _)).trans (events_portArbiter _)

theorem events_settle_of {s t : State} (h : Events s t) : Events s (settle t) := h.trans (events_settle t)

-- The clock (R7 to R13)

theorem events_clock {s : State} {c : Clock} (h : ClockMove s c) :
    Events s ({ s with clock := c }).makeBeaconDue := (ReflTransGen.single (.clock c h)).trans (events_makeBeaconDue _)

theorem events_clearClaims {s : State} {c : Clock} (h : EndMove s c) :
    Events s (clearClaims ({ s with clock := c }).makeBeaconDue) :=
  (events_makeBeaconDue s).tail (.ended c (by cases h <;> constructor <;> assumption))

theorem events_enterFinished {s : State} (h : s.clock.phase ≠ .idle) : Events s (enterFinished s) := by
  have hflag := moves_setFlag .matchOver s
  exact hflag.events.trans (events_clearClaims (s := s.setFlag .matchOver) (.finished h))

theorem events_endLastPeriod {s : State} (h : s.clock.phase = .running ∨ s.clock.phase = .held) :
    Events s (endLastPeriod s) := by
  unfold endLastPeriod
  split
  · exact events_enterFinished (by rcases h with h | h <;> simp [h])
  · exact events_clearClaims (.grace _ h)

theorem events_nextPeriod {s : State}
    (h : s.clock.phase = .running ∨ s.clock.phase = .held ∧ s.stop.stopped = false) : Events s (nextPeriod s) := by
  unfold nextPeriod
  split
  · next hindex => exact events_clock (.wentOn _ h hindex)
  · exact events_endLastPeriod (h.imp_right And.left)

theorem events_resumeClock {s : State} (hphase : s.clock.phase = .held) (hstop : s.stop.stopped = false) :
    Events s (resumeClock s) := by
  unfold resumeClock
  split
  · exact events_nextPeriod (.inr ⟨hphase, hstop⟩)
  · exact events_clock (.resumed hphase hstop)

theorem events_expirePeriod {s : State} (hphase : s.clock.phase = .running) : Events s (expirePeriod s) := by
  have hflags := (moves_setFlagIf (s.flagSet .periodEnd) .lapse s).trans (moves_setFlag .periodEnd _)
  unfold expirePeriod
  refine (Moves.events hflags).trans ?_
  dsimp only
  split
  · exact events_clock (.held .atEnd 0 (by simpa using hphase) (by simp) (by simp))
  · exact events_nextPeriod (.inl (by simpa using hphase))

-- The halting of the field (R108) and the entry of the stop (R147)

theorem sameBus_endActuation (e : Nat) (o : ActOutcome) (s : State) :
    SameBus (s.setAct e restAct) (endActuation e o s) := (moves_endActuation e o s).sameBus

theorem commandEntries_discardActuate (x : Entry) (s : State) :
    commandEntries (discardActuate x s).bus.queue = commandEntries (s.bus.queue.erase x) :=
  (sameBus_endActuation x.element .aborted (departEntry x s)).entries.trans (moves_freedPlace _).sameBus.entries

theorem commandEntries_discardRaw (x : Entry) (s : State) :
    commandEntries (discardRaw x s).bus.queue = commandEntries (s.bus.queue.erase x) :=
  (moves_freedPlace _).sameBus.entries

theorem events_discardActuate {x : Entry} {s : State} (hx : x ∈ s.bus.queue) (hact : x.isActuate = true) :
    Events s (discardActuate x s) :=
  .single (.actuationEnded _ _ (.discarded x hx (by simp [Entry.isActuateFor, hact])) (moves_freedPlace _))

theorem events_discardRaw {x : Entry} {s : State} (hx : x ∈ s.bus.queue) (hraw : x.isRaw = true) :
    Events s (discardRaw x s) :=
  (ReflTransGen.single (.passArrived .aborted (by simp) (.discarded x hx hraw) (moves_freedPlace _))).trans
    (moves_setFlag _ _).events

/-- A fold that takes each entry of one kind out of the queue takes them all, where each step takes its own and leaves the
other ACTUATE and RAW entries in their order. -/
theorem foldl_discard (p : Entry → Bool) (f : State → Entry → State) (hf : ∀ s x, commandEntries (f s x).bus.queue = commandEntries (s.bus.queue.erase x))
    (hstep : ∀ s x, x ∈ s.bus.queue → p x = true → Events s (f s x)) (l : List Entry) (s : State)
    (hl : (commandEntries s.bus.queue).filter p = l) :
    Events s (l.foldl f s) ∧ (commandEntries (l.foldl f s).bus.queue).filter p = []
      ∧ ∀ q, (∀ x, q x = true → p x = false) →
        (commandEntries (l.foldl f s).bus.queue).filter q = (commandEntries s.bus.queue).filter q := by
  have hfilter : ∀ (s : State) (x : Entry) (q : Entry → Bool),
      (commandEntries (f s x).bus.queue).filter q = ((commandEntries s.bus.queue).filter q).erase x := by
    intro s x q
    rw [hf, commandEntries, commandEntries, List.erase_filter, List.erase_filter]
  induction l generalizing s with
  | nil => exact ⟨.refl, hl, fun _ _ => rfl⟩
  | cons x l ih =>
    have hmem : x ∈ (commandEntries s.bus.queue).filter p := by simp [hl]
    have hpx : p x = true := (List.mem_filter.mp hmem).2
    have hx : x ∈ s.bus.queue := List.mem_of_mem_filter (List.mem_of_mem_filter hmem)
    have hrest : (commandEntries (f s x).bus.queue).filter p = l := by rw [hfilter, hl, List.erase_cons_head]
    obtain ⟨hevents, hnone, hkeep⟩ := ih (f s x) hrest
    refine ⟨(hstep s x hx hpx).trans hevents, hnone, fun q hq => ?_⟩
    have hnot : x ∉ (commandEntries s.bus.queue).filter q := by
      intro hmem
      have hqx := (List.mem_filter.mp hmem).2
      rw [hq x hqx] at hpx
      exact absurd hpx (by simp)
    rw [List.foldl_cons, hkeep q hq, hfilter, List.erase_of_not_mem hnot]

theorem filter_commandEntries {p : Entry → Bool} (hp : ∀ x, p x = true → (x.isActuate || x.isRaw) = true)
    (q : List Entry) : (commandEntries q).filter p = q.filter p := by
  rw [commandEntries, List.filter_filter]
  congr 1
  funext x
  cases hpx : p x with
  | false => rfl
  | true => rw [hp x hpx]; rfl

theorem isActuate_commandEntry (x : Entry) (h : x.isActuate = true) : (x.isActuate || x.isRaw) = true := by simp [h]

theorem isRaw_commandEntry (x : Entry) (h : x.isRaw = true) : (x.isActuate || x.isRaw) = true := by simp [h]

theorem isActuate_eq_false_of_isRaw (x : Entry) (h : x.isRaw = true) : x.isActuate = false := by
  unfold Entry.isRaw at h
  unfold Entry.isActuate
  split at h <;> simp_all

theorem events_haltField (s : State) : Events s (haltField s) := by
  let u : State := { s with bus := { s.bus with haltPending := true } }
  have hhalt : Events s u :=
    .single (.busCounted true s.bus.commandCount s.bus.lastPolled (by omega))
  obtain ⟨hacts, -, -⟩ := foldl_discard Entry.isActuate (fun s x => discardActuate x s)
    (fun s x => commandEntries_discardActuate x s) (fun _ _ => events_discardActuate) _ u
    (filter_commandEntries isActuate_commandEntry _)
  obtain ⟨hraws, -, -⟩ := foldl_discard Entry.isRaw (fun s x => discardRaw x s)
    (fun s x => commandEntries_discardRaw x s) (fun _ _ => events_discardRaw) _
    ((u.bus.queue.filter Entry.isActuate).foldl (fun s x => discardActuate x s) u)
    (filter_commandEntries isRaw_commandEntry _)
  exact (hhalt.trans hacts).trans hraws

theorem events_causeArrives (c : Cause) (s : State) : Events s (causeArrives c s) := by
  unfold causeArrives
  split
  · next h => exact (ReflTransGen.single (.causeJoined c h)).trans (moves_setFlag _ _).events
  · next h =>
    have hclear : s.stop.stopped = false := by simpa using h
    have hflag := (moves_setFlag .fieldStop s).events
    exact ((hflag.tail (.stopped c hclear)).trans (events_haltField _)).trans (events_makeBeaconDue _)

-- Results of transactions (R95 to R113)

theorem events_takeStatus (e status : Nat) (s : State) : Events s (takeStatus e status s) := by
  unfold takeStatus
  split
  · next h =>
    split
    · exact .single (.actuationEnded e _ (.inFlight h) .refl)
    · exact .refl
  · exact .refl

theorem events_pollResult (e : Nat) (r : BusResult) (s : State) : Events s (pollResult e r s) := by
  unfold pollResult
  split
  · refine ReflTransGen.trans ?_ (events_takeStatus e _ _)
    split
    · exact (moves_goalTotal _ _ _).events
    · exact .refl
  all_goals exact .refl

theorem events_actuateResult {e argument : Nat} {t : Transaction} {s w : State} (r : BusResult)
    (hcurrent : s.bus.current = some t) (hrequest : t.request = .actuate e argument)
    (hw : Moves { s with bus := { s.bus with current := none } } w) : Events s (actuateResult e r w) := by
  unfold actuateResult
  split
  · exact .single (.actuationStarted e argument t _ hcurrent hrequest hw)
  all_goals exact .single (.actuationEnded e _ (.answered t argument hcurrent hrequest) hw)

theorem passOf_ne_pending (r : BusResult) : passOf r ≠ .pending := by
  unfold passOf
  split <;> simp

theorem events_endTransaction {t : Transaction} {s : State} (r : BusResult) (hcurrent : s.bus.current = some t) :
    Events s (endTransaction t.request r s) := by
  obtain ⟨q, window⟩ := t
  have hreport := moves_reportResult (busAddress q) r { s with bus := { s.bus with current := none } }
  have hfree (hact : ∀ e a, q ≠ .actuate e a) (hraw : ∀ e bytes, q ≠ .raw e bytes) :
      Events s (reportResult (busAddress q) r { s with bus := { s.bus with current := none } }) :=
    (ReflTransGen.single (.busFreed _ hcurrent hact hraw)).trans hreport.events
  cases q with
  | poll e => exact (hfree (by simp) (by simp)).trans (events_pollResult _ _ _)
  | actuate e argument => exact events_actuateResult r hcurrent rfl hreport
  | light e d => exact (hfree (by simp) (by simp)).trans (moves_lightResult _ _ _).events
  | raw e bytes =>
    have hraw : rawOnBus s.bus = true := by simp [rawOnBus, hcurrent]
    exact (ReflTransGen.single (.passArrived (passOf r) (passOf_ne_pending r) (.answered hraw) hreport)).trans
      (moves_setFlag _ _).events
  | halt => exact hfree (by simp) (by simp)

theorem events_takeResult (result : BusRequest → BusResult) (s : State) : Events s (takeResult result s) := by
  unfold takeResult
  split
  · exact .refl
  · next t h =>
    split
    · exact .refl
    · exact events_settle_of (events_endTransaction _ h)

theorem events_requestFrameEnds (s : State) : Events s (requestFrameEnds s) := by
  unfold requestFrameEnds
  split
  · exact .refl
  · next t h =>
    split
    · exact .refl
    · next hrequest =>
      exact events_settle_of (.single (.busFreed t h (by simp [hrequest]) (by simp [hrequest])))
    · exact .single (.windowSet t _ h)

-- The Roster (R30 to R42)

theorem returnToExpected_eq (n : Nat) (s : State) : returnToExpected n s
    = (dropClaims n s).setSlot n (toExpected s.settings ((dropClaims n s).slot n)) := by
  simp [returnToExpected, State.modSlot]

theorem rosterMove_returnToExpected {n : Nat} {s : State} (h : (s.slot n).state ≠ .empty) :
    RosterMove s (returnToExpected n s) := by
  rw [returnToExpected_eq]
  exact .left n _ (.returned ((dropClaims n s).slot n).lastAd (by simpa using h))

theorem events_restartSilence (n : Nat) (s : State) : Events s (restartSilence n s) := by
  unfold restartSilence
  dsimp only
  split
  · next h =>
    exact RosterMove.events (.slot n _ (.heard (millis s.settings.silenceLimit) (by simpa using h)) id)
  · exact .refl

theorem events_recheckTier (n : Nat) (s : State) : Events s (recheckTier n s) := by
  unfold recheckTier
  dsimp only
  split
  · next h =>
    have hstate : (s.slot n).state ≠ .empty := by
      simp only [Bool.and_eq_true, Bool.or_eq_true, decide_eq_true_eq] at h
      rcases h.1 with (h | h) | h <;> simp [h]
    exact (rosterMove_returnToExpected hstate).events
  · exact .refl

theorem events_recheckTiers (s : State) : Events s (recheckTiers s) :=
  foldl_inv (Events s) _ (fun t n h => h.trans (events_recheckTier n t)) slotNumbers s .refl

theorem moves_closeSlot (n : Nat) (s : State) : ReflTransGen RosterMove s (closeSlot n s) := by
  unfold closeSlot
  dsimp only
  split_ifs with hempty hexpected
  · exact .refl
  · exact .single (.slot n _ (.undisabled (.inr hexpected)) (by simp [hexpected]))
  · refine (ReflTransGen.single (rosterMove_returnToExpected hempty)).tail
      (.slot n _ (.undisabled ?_) fun hstate => hstate)
    have hn := slot_range_of_registered hempty
    exact .inr (by simp [returnToExpected_eq, slot_setSlot, hn, toExpected])

/-- A slot that CLOSE MATCH has come to is EMPTY or EXPECTED, and no other slot's state changes (R42). -/
theorem closeSlot_state (n k : Nat) (s : State) :
    ((closeSlot n s).slot k).state = if k = n ∧ (s.slot n).state ≠ .empty then .expected else (s.slot k).state := by
  unfold closeSlot
  dsimp only
  by_cases hempty : (s.slot n).state = .empty
  · simp [hempty]
  have hn := slot_range_of_registered hempty
  by_cases hk : k = n
  · subst hk
    by_cases hexpected : (s.slot k).state = .expected
    · simp [slot_setSlot, hn, hexpected]
    · simp [slot_modSlot, slot_setSlot, hn, hempty, hexpected, returnToExpected_eq, toExpected]
  · by_cases hexpected : (s.slot n).state = .expected
    · simp [slot_setSlot, hk, hexpected]
    · simp [slot_modSlot, slot_setSlot, hk, hempty, hexpected, returnToExpected_eq]

theorem closeRoster_state (n : Nat) (s : State) :
    ((closeRoster s).slot n).state = .empty ∨ ((closeRoster s).slot n).state = .expected := by
  have hfold : ∀ (l : List Nat) (t : State), (n ∈ l ∨ (t.slot n).state = .empty ∨ (t.slot n).state = .expected) →
      ((l.foldl (fun s n => closeSlot n s) t).slot n).state = .empty
        ∨ ((l.foldl (fun s n => closeSlot n s) t).slot n).state = .expected := by
    intro l
    induction l with
    | nil => intro t h; simpa using h
    | cons a l ih =>
      intro t h
      refine ih _ ?_
      rw [closeSlot_state]
      by_cases ha : n = a
      · subst ha
        by_cases hempty : (t.slot n).state = .empty <;> simp [hempty]
      · simpa [ha] using h
  by_cases hn : 1 ≤ n ∧ n ≤ 24
  · exact hfold _ s (.inl (by simp [slotNumbers, List.mem_range'_1]; omega))
  · exact .inl (by rw [slot_outside hn]; rfl)

theorem events_closeMatch {s : State} (h : s.clock.phase = .staging ∨ s.clock.phase = .finished) :
    Events s (closeRoster (enterPhase .idle 0 0 .none none s)) := by
  refine (events_makeBeaconDue s).tail (.closed h ?_ (closeRoster_state · _))
  exact foldl_inv (ReflTransGen RosterMove _) _ (fun t n h => h.trans (moves_closeSlot n t)) slotNumbers _ .refl

end Sys2Proof.Machine
end

section
/-! PROOFS. Every command, and every step, as a sequence of moves. -/

namespace Sys2Proof.Machine

open Relation (ReflTransGen)

/-- Serving a request brings about a sequence of moves. -/
def ServedByMoves (serve : State → Served) : Prop := ∀ s : State, s.awake → Events s (serve s).state

theorem servedByMoves_refuse (o : OutcomeCode) : ServedByMoves (refuse o) := fun _ _ => .refl

theorem events_settled {s t : State} (h : Events s t) (o : OutcomeCode) (fields : List Byte) :
    Events s (settled { state := t, outcome := o, fields := fields }).state := events_settle_of h

theorem events_carriedOut {s t : State} (h : Events s t) : Events s (settled (carryOut t)).state := events_settle_of h

-- The Match Clock (chapter 1)

theorem planInRange_clampPlan {ps : List Period} {grace : Nat} (hlow : 1 ≤ ps.length) (hhigh : ps.length ≤ 8)
    (hdriving : (ps.any fun p => isDriving (some p.kind)) = true) :
    planInRange (clampPlan { periods := ps, grace := grace }) := by
  refine ⟨by simpa [clampPlan] using hlow, by simpa [clampPlan] using hhigh, ?_, ?_, by simp [clampPlan]⟩
  · simpa [clampPlan, clampPeriod, Function.comp_def] using hdriving
  · simp only [clampPlan, List.mem_map, forall_exists_index, and_imp]
    rintro _ p _ rfl
    simp only [clampPeriod, clampTo]
    omega

theorem periodsOf_length {fs : List PeriodFields} {ps : List Period} (h : periodsOf fs = some ps) :
    ps.length = fs.length := by
  induction fs generalizing ps with
  | nil => simp_all [periodsOf]
  | cons f fs ih =>
    unfold periodsOf at h
    split at h
    · next hrest =>
      injection h with h
      simp [← h, ih hrest]
    · simp at h
    · simp at h

theorem servedByMoves_loadPlan (count grace : Nat) (records : Option (List PeriodFields)) :
    ServedByMoves (serveLoadPlan count grace records) := by
  intro s _
  unfold serveLoadPlan
  split
  · exact .refl
  next hphase =>
  split
  · exact .refl
  next hcount =>
  split
  · exact .refl
  split
  · exact .refl
  next fs hlength =>
  split
  · exact .refl
  next ps hps =>
  split
  · next hdriving =>
    have hps := periodsOf_length hps
    simp only [bne_iff_ne, ne_eq, not_not, Bool.or_eq_true, decide_eq_true_eq] at hlength hcount hphase
    have hplan : planInRange (clampPlan { periods := ps, grace := grace }) :=
      planInRange_clampPlan (by omega) (by omega) hdriving
    exact (ReflTransGen.single (.clock _ (.planned _ hphase hplan)) : Events s _)
  · exact .refl

theorem servedByMoves_stage : ServedByMoves serveStage := by
  intro s _
  unfold serveStage
  split
  · exact .refl
  next hphase =>
  split
  · exact .refl
  next hplan =>
  have hclock : Events s (enterPhase .staging 0 0 .none none s) :=
    events_clock (.staged (by simpa using hphase) (by simpa [Option.isSome_iff_ne_none] using hplan))
  exact events_carriedOut ((hclock.tail .scoresSet).trans (moves_copyDefaultFlags _).events)

theorem servedByMoves_start : ServedByMoves serveStart := by
  intro s _
  unfold serveStart
  split
  · exact .refl
  next hphase =>
  split
  · exact .refl
  next hstop => exact events_carriedOut (events_clock (.started _ (by simpa using hphase) (by simpa using hstop)))

theorem servedByMoves_pause : ServedByMoves servePause := by
  intro s _
  unfold servePause
  split
  · exact .refl
  next hphase => exact events_carriedOut (events_clock (.held .paused _ (by simpa using hphase) (by simp) (by simp)))

theorem servedByMoves_resume : ServedByMoves serveResume := by
  intro s _
  unfold serveResume
  split
  · exact .refl
  next hphase =>
  split
  · exact .refl
  next hstop => exact events_carriedOut (events_resumeClock (by simpa using hphase) (by simpa using hstop))

theorem servedByMoves_abortMatch : ServedByMoves serveAbortMatch := by
  intro s _
  have hfinished (h : s.clock.phase ≠ .idle) : Events s (settled (carryOut (enterFinished s))).state :=
    events_carriedOut (events_enterFinished h)
  unfold serveAbortMatch
  split
  · exact .refl
  · exact .refl
  · next h => exact hfinished (by simp [h])
  · next h => exact hfinished (by simp [h])
  · next h => exact hfinished (by simp [h])
  · next h => exact hfinished (by simp [h])

theorem servedByMoves_closeMatch : ServedByMoves serveCloseMatch := by
  intro s _
  unfold serveCloseMatch
  split
  · next hphase => exact events_carriedOut (events_closeMatch (.inl hphase))
  · next hphase => exact events_carriedOut (events_closeMatch (.inr hphase))
  all_goals exact .refl

-- The Element Table (chapter 3)

theorem side_le_of_definitionOk {k : ElementKind} {d : DefineFields} {n a : Nat} {refusing silent : Bool}
    (h : definitionOk k d n = true) (ha : (clampDefinition (rawDefinition k d refusing silent)).side = some a) :
    a ≤ n := by
  simp only [definitionOk, Bool.and_eq_true, decide_eq_true_eq] at h
  obtain ⟨⟨⟨_, hside⟩, _⟩, _⟩ := h
  simp only [clampDefinition, rawDefinition, sideOf] at ha
  split at ha
  · simp at ha
  · simp only [Option.some.injEq] at ha
    omega

theorem servedByMoves_defineElement (e : Nat) (d : DefineFields) : ServedByMoves (serveDefineElement e d) := by
  intro s _
  unfold serveDefineElement
  split
  · exact .refl
  split
  · exact .refl
  split
  · exact .refl
  · split
    · exact .refl
    next hact =>
    exact events_carriedOut (.single (.elementDefined e _ (by simpa using hact) (fun a h => absurd rfl h)))
  · split
    · exact .refl
    next hok =>
    split
    · exact .refl
    next hact =>
    exact events_settled (.single (.elementDefined e _ (by simpa using hact)
      fun a _ ha => side_le_of_definitionOk (by simpa using hok) ha)) _ _

theorem servedByMoves_setElementMode (e : Nat) (refusing silent : Byte) :
    ServedByMoves (serveSetElementMode e refusing silent) := by
  intro s _
  unfold serveSetElementMode
  split
  · exact .refl
  split
  · next r q _ _ =>
    split
    · exact .refl
    · exact (moves_setRun (r := { s.run e with refusing := r, silent := q }) rfl rfl).events
  all_goals exact .refl

theorem servedByMoves_withdraw (e : Nat) : ServedByMoves (serveWithdraw e) := by
  intro s _
  unfold serveWithdraw
  split_ifs with _ _ hin hpending hact
  · exact .refl
  · exact .refl
  · exact .refl
  · exact .refl
  · exact events_carriedOut (moves_withdrawNow e s).events
  · exact events_settled ((ReflTransGen.single (.withdrawalAsked e hact (by simpa using hin))).trans
      (moves_recompute _ _).events) _ _

theorem servedByMoves_restoreElement (e : Nat) : ServedByMoves (serveRestoreElement e) := by
  intro s _
  unfold serveRestoreElement
  split_ifs
  · exact .refl
  · exact .refl
  · exact events_carriedOut (Moves.events (moves_recompute_of (.single (.runWritten e _ id (by simp)))))
  · exact events_carriedOut (Moves.events (moves_recompute_of (.single (.runWritten e _ (by simp) id))))
  · exact .refl

theorem servedByMoves_clearFaults (e : Nat) : ServedByMoves (serveClearFaults e) := by
  intro s _
  unfold serveClearFaults
  split_ifs
  · exact Moves.events (.single (.unread _ _ _ _ _ _ _ _ _))
  · exact .refl
  · exact .refl
  · exact events_carriedOut (moves_clearElementFaults e s).events

-- The Robot Roster (chapter 2)

theorem servedByMoves_register (n : Nat) (kit : Word) (alliance team : Nat) :
    ServedByMoves (serveRegister n kit alliance team) := by
  intro s _
  unfold serveRegister
  split_ifs with _ _ halliance hempty
  · exact .refl
  · exact .refl
  · exact .refl
  · exact .refl
  · exact .refl
  · have hempty : (s.slot n).state = .empty := by simpa using hempty
    have hcount : alliance ≤ s.settings.allianceCount := by simp at halliance; omega
    refine (RosterMove.events (.slot n _ (.registered kit alliance (max 1 team) hempty hcount) ?_)).tail
      (.strangers _ ?_)
    · simp [hempty]
    · exact le_max_of_le_right (List.length_erase_le)

theorem servedByMoves_unregister (n : Nat) : ServedByMoves (serveUnregister n) := by
  intro s _
  unfold serveUnregister
  split_ifs
  · exact .refl
  · exact .refl
  · exact .refl
  · exact events_carriedOut ((RosterMove.events (.left n _ .vacated)).trans (events_setBox _ _ _))

theorem events_disable {n : Nat} {s : State} (d : Disable) (hempty : (s.slot n).state ≠ .empty) :
    Events s ((if (s.slot n).state = .admitted then dropClaims n s else s).modSlot n (disableSlot d)) := by
  split
  · exact RosterMove.events (.left n _ (.disabled d (by simpa using hempty)))
  · next h => exact RosterMove.events (.slot n _ (.disabled d hempty) fun hstate => absurd hstate h)

theorem servedByMoves_disableRobot (n duration : Nat) : ServedByMoves (serveDisableRobot n duration) := by
  intro s _
  unfold serveDisableRobot
  split
  · exact .refl
  split
  · exact .refl
  · next hstate => exact events_settled (events_disable _ fun h => hstate (by simp [h])) _ _

theorem events_endDisable (n : Nat) (s : State) : Events s (s.modSlot n endDisable) :=
  RosterMove.events (.slot n _ .enabled fun h => by simp [endDisable, h])

theorem servedByMoves_enableRobot (n : Nat) : ServedByMoves (serveEnableRobot n) := by
  intro s _
  unfold serveEnableRobot
  split_ifs
  · exact .refl
  · exact .refl
  · exact events_endDisable n s

theorem servedByMoves_restoreTiers (n : Nat) : ServedByMoves (serveRestoreTiers n) := by
  intro s _
  unfold serveRestoreTiers
  split_ifs
  · exact .refl
  · exact .refl
  · exact RosterMove.events (.slot n _ (.tiersRestored _) id)

-- Stop, claims, bus, scores, mail, settings (chapters 4, 5, 7 to 9 and 11)

theorem servedByMoves_fieldStop : ServedByMoves serveFieldStop :=
  fun s _ => events_carriedOut (events_causeArrives .console s)

theorem servedByMoves_releaseStop : ServedByMoves serveReleaseStop := by
  intro s hs
  unfold serveReleaseStop
  split_ifs
  · exact .refl
  · exact .refl
  · exact events_carriedOut (((ReflTransGen.single (.stopReleased hs)).trans (moves_setFlag .stopClear _).events).trans
      (events_makeBeaconDue _))

theorem servedByMoves_revokeClaim (e : Nat) (b : Byte) (expected : Nat) :
    ServedByMoves (serveRevokeClaim e b expected) := by
  intro s _
  unfold serveRevokeClaim
  split
  · exact .refl
  split
  · exact .refl
  split
  · exact .refl
  split
  · exact .refl
  next h hholder =>
  split
  · exact .refl
  · exact events_settled (.single (.holdEnded h e _ _ hholder)) _ _

theorem element_range_of_elementInRange {e : Nat} (h : ¬(!elementInRange e) = true) : 1 ≤ e ∧ e ≤ 32 := by
  simp [elementInRange] at h
  omega

theorem servedByMoves_consoleActuate (e argument : Nat) : ServedByMoves (serveConsoleActuate e argument) := by
  intro s _
  unfold serveConsoleActuate
  split_ifs with he _ _ hact _ _ hroom
  all_goals first
    | exact .refl
    | exact events_settled (.single (.actuationQueued e _ _ _ (element_range_of_elementInRange he)
        (by simpa using hact) (by omega))) _ _

theorem servedByMoves_passThrough (e : Nat) (bytes : List Byte) : ServedByMoves (servePassThrough e bytes) := by
  intro s _
  unfold servePassThrough
  split_ifs with _ hpass _ hroom
  all_goals first
    | exact .refl
    | exact events_settled (.single (.rawQueued _ rfl hpass (by omega))) _ _

theorem servedByMoves_passResult : ServedByMoves servePassResult := by
  intro s _
  unfold servePassResult
  split <;> exact .refl

theorem servedByMoves_settlement {change : Nat → Nat → State → State} (h : ∀ a n s, Moves s (change a n s))
    (a amount : Nat) : ServedByMoves (serveSettlement change a amount) := by
  intro s _
  unfold serveSettlement
  split_ifs
  · exact .refl
  · exact .refl
  · exact (h _ _ _).events

theorem servedByMoves_mailPut (n : Nat) (bytes : List Byte) : ServedByMoves (serveMailPut n bytes) := by
  intro s _
  unfold serveMailPut
  split_ifs
  · exact .refl
  · exact .refl
  · exact .refl
  · exact events_setBox _ _ _

theorem servedByMoves_mailRead (n offset length : Nat) : ServedByMoves (serveMailRead n offset length) := by
  intro s _
  unfold serveMailRead
  split
  · exact .refl
  split
  · exact .refl
  split
  · exact .refl
  · exact events_setBox _ _ _

theorem servedByMoves_setSetting (id v : Nat) : ServedByMoves (serveSetSetting id v) := by
  intro s _
  unfold serveSetSetting
  split_ifs with hid hcode _ huse
  · exact .refl
  · exact .refl
  · exact .refl
  · exact .refl
  · have hwrite : Events s { s with settings := writeSetting id (clampSetting id v) s.settings } :=
      .single (.setting id v (by simpa using hid) (by simpa using hcode) fun h2 => by simpa [h2] using huse)
    simp only [changeSetting]
    split
    · exact events_settle_of (hwrite.trans (events_recheckTiers _))
    · exact hwrite

theorem servedByMoves_storeSettings : ServedByMoves serveStoreSettings := by
  intro s _
  unfold serveStoreSettings
  split
  · exact .refl
  · have hcount : Events s { s with freeCount := s.freeCount + 1 } :=
      Moves.events (.single (.unread _ _ _ (s.freeCount + 1) _ _ _ _ _))
    exact hcount.tail (.storeBegun (storeDuration s.freeCount))

theorem servedByMoves_clearEvents (set : BitVec 24) : ServedByMoves (serveClearEvents set) := by
  intro s _
  unfold serveClearEvents
  split
  · exact .refl
  · exact Moves.events (.single (.unread _ _ _ _ _ _ _ _ _))

theorem servedByMoves_setEventEnables (set : BitVec 24) : ServedByMoves (serveSetEventEnables set) := by
  intro s _
  unfold serveSetEventEnables
  split
  · exact .refl
  · exact Moves.events (.single (.unread _ _ _ _ _ _ _ _ _))

theorem servedByMoves_reading_if (c : Prop) [Decidable c] (o : OutcomeCode) (fields : State → List Byte) :
    ServedByMoves fun s => if c then refuse o s else reading (fields s) s := by
  intro s _
  dsimp only
  split <;> exact .refl

theorem servedByMoves_reading (fields : State → List Byte) : ServedByMoves fun s => reading (fields s) s :=
  fun _ _ => .refl

-- A record at the holding place (R172 to R176)

theorem events_offerRecord {kind : Nat} {serve : State → Served} (h : ServedByMoves serve) {s : State} (hs : s.awake) :
    Events s (offerRecord kind serve s) := by
  have hdone := (moves_receiverDone s).events
  unfold offerRecord
  split
  · exact hdone.trans (moves_setFlag _ _).events
  · exact (hdone.trans (h _ hs)).trans (moves_holdReply _ _).events

theorem events_whenAwake {f : State → State} {s : State} (h : s.awake → Events s (f s)) :
    Events s (whenAwake f s) := by
  unfold whenAwake
  split
  · exact .refl
  · next hs => exact h (by simpa [State.awake] using hs)

theorem events_consoleRequest {kind : Nat} {serve : State → Served} (h : ServedByMoves serve) (s : State) :
    Events s (consoleRequest kind serve s) := events_whenAwake (events_offerRecord h)

theorem servedByMoves_withLength {serve : State → Served} (h : ServedByMoves serve) (n : Nat) (p : List Byte) :
    ServedByMoves (withLength n p serve) := by
  unfold withLength
  split
  · exact h
  · exact servedByMoves_refuse _

theorem servedByMoves_withVariable {serve : State → Served} (h : ServedByMoves serve) (n most : Nat) (p : List Byte) :
    ServedByMoves (withVariable n most p serve) := by
  unfold withVariable
  split
  · exact h
  · exact servedByMoves_refuse _

/-- A request of a family, where the kind names one, is served by moves. -/
def FamilyByMoves (r : Option (State → Served)) : Prop := ∀ serve ∈ r, ServedByMoves serve

theorem familyByMoves_none : FamilyByMoves none := by simp [FamilyByMoves]

theorem familyByMoves_some {serve : State → Served} (h : ServedByMoves serve) : FamilyByMoves (some serve) := by
  simpa [FamilyByMoves] using h

theorem familyByMoves_ite {c : Prop} [Decidable c] {r r' : Option (State → Served)} (h : FamilyByMoves r)
    (h' : FamilyByMoves r') : FamilyByMoves (if c then r else r') := by
  split
  · exact h
  · exact h'

theorem familyByMoves_length {serve : State → Served} (h : ServedByMoves serve) (n : Nat) (p : List Byte) :
    FamilyByMoves (some (withLength n p serve)) := familyByMoves_some (servedByMoves_withLength h n p)

theorem familyByMoves_variable {serve : State → Served} (h : ServedByMoves serve) (n most : Nat) (p : List Byte) :
    FamilyByMoves (some (withVariable n most p serve)) := familyByMoves_some (servedByMoves_withVariable h n most p)

theorem familyByMoves_settings (kind : Nat) (p : List Byte) : FamilyByMoves (settingsRequest kind p) :=
  familyByMoves_ite (familyByMoves_length (servedByMoves_reading _) _ _) <|
  familyByMoves_ite (familyByMoves_length (servedByMoves_setSetting _ _) _ _) <|
  familyByMoves_ite (familyByMoves_length (servedByMoves_reading_if _ _ _) _ _) <|
  familyByMoves_ite (familyByMoves_length servedByMoves_storeSettings _ _) <|
  familyByMoves_ite (familyByMoves_length (fun _ _ => (moves_console _ _).events) _ _) familyByMoves_none

theorem familyByMoves_element (kind : Nat) (p : List Byte) : FamilyByMoves (elementRequest kind p) :=
  familyByMoves_ite (familyByMoves_length (servedByMoves_defineElement _ _) _ _) <|
  familyByMoves_ite (familyByMoves_length (servedByMoves_reading_if _ _ _) _ _) <|
  familyByMoves_ite (familyByMoves_length (servedByMoves_setElementMode _ _ _) _ _) <|
  familyByMoves_ite (familyByMoves_length (servedByMoves_withdraw _) _ _) <|
  familyByMoves_ite (familyByMoves_length (servedByMoves_restoreElement _) _ _) <|
  familyByMoves_ite (familyByMoves_length (servedByMoves_reading _) _ _) <|
  familyByMoves_ite (familyByMoves_length (servedByMoves_clearFaults _) _ _) familyByMoves_none

theorem familyByMoves_roster (kind : Nat) (p : List Byte) : FamilyByMoves (rosterRequest kind p) :=
  familyByMoves_ite (familyByMoves_length (servedByMoves_register _ _ _ _) _ _) <|
  familyByMoves_ite (familyByMoves_length (servedByMoves_unregister _) _ _) <|
  familyByMoves_ite (familyByMoves_length (servedByMoves_reading_if _ _ _) _ _) <|
  familyByMoves_ite (familyByMoves_length (servedByMoves_reading _) _ _) <|
  familyByMoves_ite (familyByMoves_length (servedByMoves_disableRobot _ _) _ _) <|
  familyByMoves_ite (familyByMoves_length (servedByMoves_enableRobot _) _ _) <|
  familyByMoves_ite (familyByMoves_length (servedByMoves_restoreTiers _) _ _) familyByMoves_none

theorem familyByMoves_match (kind : Nat) (p : List Byte) : FamilyByMoves (matchRequest kind p) :=
  familyByMoves_ite (familyByMoves_variable (servedByMoves_loadPlan _ _ _) _ _ _) <|
  familyByMoves_ite (familyByMoves_length servedByMoves_stage _ _) <|
  familyByMoves_ite (familyByMoves_length servedByMoves_start _ _) <|
  familyByMoves_ite (familyByMoves_length servedByMoves_pause _ _) <|
  familyByMoves_ite (familyByMoves_length servedByMoves_resume _ _) <|
  familyByMoves_ite (familyByMoves_length servedByMoves_abortMatch _ _) <|
  familyByMoves_ite (familyByMoves_length servedByMoves_closeMatch _ _) <|
  familyByMoves_ite (familyByMoves_length (servedByMoves_reading _) _ _) familyByMoves_none

theorem familyByMoves_field (kind : Nat) (p : List Byte) : FamilyByMoves (fieldRequest kind p) :=
  familyByMoves_ite (familyByMoves_length servedByMoves_fieldStop _ _) <|
  familyByMoves_ite (familyByMoves_length servedByMoves_releaseStop _ _) <|
  familyByMoves_ite (familyByMoves_length (servedByMoves_reading _) _ _) <|
  familyByMoves_ite (familyByMoves_length (servedByMoves_reading_if _ _ _) _ _) <|
  familyByMoves_ite (familyByMoves_length (servedByMoves_revokeClaim _ _ _) _ _) <|
  familyByMoves_ite (familyByMoves_length (servedByMoves_consoleActuate _ _) _ _) <|
  familyByMoves_ite (familyByMoves_variable (servedByMoves_passThrough _ _) _ _ _) <|
  familyByMoves_ite (familyByMoves_length servedByMoves_passResult _ _) familyByMoves_none

theorem servedByMoves_penalize (a amount : Nat) : ServedByMoves (servePenalize a amount) :=
  servedByMoves_settlement (fun a n _ => .single (.pointsTaken a n)) a amount

theorem servedByMoves_award (a amount : Nat) : ServedByMoves (serveAward a amount) :=
  servedByMoves_settlement (fun a n _ => .single (.pointsAdded a n)) a amount

theorem familyByMoves_score (kind : Nat) (p : List Byte) : FamilyByMoves (scoreRequest kind p) :=
  familyByMoves_ite (familyByMoves_length (servedByMoves_reading _) _ _) <|
  familyByMoves_ite (familyByMoves_length (servedByMoves_reading_if _ _ _) _ _) <|
  familyByMoves_ite (familyByMoves_length (servedByMoves_penalize _ _) _ _) <|
  familyByMoves_ite (familyByMoves_length (servedByMoves_award _ _) _ _) <|
  familyByMoves_ite (familyByMoves_variable (servedByMoves_mailPut _ _) _ _ _) <|
  familyByMoves_ite (familyByMoves_length (servedByMoves_mailRead _ _ _) _ _) <|
  familyByMoves_ite (familyByMoves_length (servedByMoves_reading _) _ _) <|
  familyByMoves_ite (familyByMoves_length (servedByMoves_reading _) _ _) <|
  familyByMoves_ite (familyByMoves_length (servedByMoves_clearEvents _) _ _) <|
  familyByMoves_ite (familyByMoves_length (servedByMoves_setEventEnables _) _ _) familyByMoves_none

theorem familyByMoves_orElse {r : Option (State → Served)} {r' : Unit → Option (State → Served)} (h : FamilyByMoves r)
    (h' : FamilyByMoves (r' ())) : FamilyByMoves (r.orElse r') := by
  cases r with
  | none => exact h'
  | some serve => exact h

theorem familyByMoves_requestOf (kind : Nat) (p : List Byte) : FamilyByMoves (requestOf kind p) :=
  familyByMoves_orElse (familyByMoves_settings kind p) <| familyByMoves_orElse (familyByMoves_element kind p) <|
  familyByMoves_orElse (familyByMoves_roster kind p) <| familyByMoves_orElse (familyByMoves_match kind p) <|
  familyByMoves_orElse (familyByMoves_field kind p) (familyByMoves_score kind p)

theorem events_completeRecord (length : Nat) (got : List Byte) {s : State} (hs : s.awake) :
    Events s (completeRecord length got s) := by
  unfold completeRecord
  dsimp only
  split
  · unfold offerGoodRecord
    split
    · next serve h => exact events_offerRecord (familyByMoves_requestOf _ _ serve h) hs
    · exact events_offerRecord (servedByMoves_refuse _) hs
  · exact events_offerRecord (servedByMoves_refuse _) hs

theorem events_takeByte (b : Byte) {s : State} (hs : s.awake) : Events s (takeByte b s) := by
  have hreceive (r : Receiver) : Events s (receive r s) := (moves_console _ s).events
  unfold takeByte
  split
  · exact .refl
  split
  · split
    · exact hreceive _
    · exact .refl
  · split_ifs
    · exact hreceive _
    · exact hreceive _
    · exact (moves_receiverDone s).events
  · split
    · exact events_completeRecord _ _ hs
    · exact hreceive _

-- Start-ups (R189)

theorem events_coldStartUp (completes : Bool) (s : State) : Events s (coldStartUp completes s) := by
  unfold coldStartUp
  split
  · exact .single (.startedUp _ _ _ completes s.resetAsserted (.inr (.inl ⟨rfl, rfl⟩)))
  · exact .single (.startedUp _ _ _ completes s.resetAsserted (.inr (.inr ⟨rfl, rfl⟩)))

theorem events_assertReset (s : State) : Events s (assertReset s) := by
  unfold assertReset
  split
  · exact .refl
  · unfold coldStartUp
    split
    · exact .single (.startedUp _ _ _ false true (.inr (.inl ⟨rfl, rfl⟩)))
    · exact .single (.startedUp _ _ _ false true (.inr (.inr ⟨rfl, rfl⟩)))

theorem events_powerOn (s : State) : Events s (powerOn s) := by
  unfold powerOn
  split
  · exact events_coldStartUp false s
  · exact events_settle_of (events_coldStartUp true s)

theorem events_releaseReset (s : State) : Events s (releaseReset s) := by
  unfold releaseReset
  split
  · next h => exact events_settle_of (.single (.resetReleased h))
  · exact .refl

theorem events_pressStop (s : State) : Events s (pressStop s) := by
  unfold pressStop
  split_ifs
  · exact .refl
  · exact .single (.stopIn true)
  · exact events_settle_of ((ReflTransGen.single (.stopIn true)).trans (events_causeArrives _ _))

theorem events_detectBreak (s : State) : Events s (detectBreak s) := by
  unfold detectBreak
  split
  · exact .refl
  · exact events_settle_of
      ((Moves.events ((moves_receiverDone s).trans (moves_console _ _))).trans (events_causeArrives .brk _))

theorem events_endReply (s : State) : Events s (endReply s) := by
  have hswitch (t : State) : Moves t (switchRate t) := by
    unfold switchRate
    split
    · exact .refl
    · exact (moves_console _ t).trans (moves_receiverDone _)
  unfold endReply
  split
  · exact .refl
  · have hsent := Moves.events ((moves_console { s.console with held := none } s).trans (hswitch _))
    dsimp only
    split
    · exact events_settle_of (hsent.tail (.startedUp _ _ _ true _ (.inl ⟨rfl, rfl⟩)))
    · exact hsent

-- The robots' frames (chapters 2, 4, 5 and 9)

theorem events_answerHello (n : Nat) (kit : Word) (c : AnswerCode) (s : State) : Events s (answerHello n kit c s) :=
  events_queueReply _ _

theorem events_answerFrame (f : UplinkFrame) (c : AnswerCode) (d : Nat) (s : State) : Events s (answerFrame f c d s) :=
  events_queueReply _ _

theorem events_answerFrame_of {s t : State} (h : Events s t) (f : UplinkFrame) (c : AnswerCode) (d : Nat) :
    Events s (answerFrame f c d t) := h.trans (events_answerFrame f c d t)

theorem events_sendOffer (n : Nat) (s : State) : Events s (sendOffer n s) := events_queueReply _ _

theorem events_helloNew {n : Nat} {s : State} (kit : Word) (tiers : TierMask) (hphase : s.clock.phase ≠ .idle)
    (hstate : (s.slot n).state = .expected ∨ (s.slot n).state = .lost) : Events s (helloNew n kit tiers s) := by
  have hempty : (s.slot n).state ≠ .empty := by rcases hstate with h | h <;> simp [h]
  have hadmitted : (s.slot n).state ≠ .admitted := by rcases hstate with h | h <;> simp [h]
  unfold helloNew
  dsimp only
  split
  · exact (RosterMove.events (.slot n _ (.advertised (some tiers) _) id)).trans (events_answerHello _ _ _ _)
  · exact (RosterMove.events (.slot n _ (.offered (some tiers) _ _ _ hphase hempty) fun h => absurd h hadmitted)).trans
      (events_sendOffer _ _)

theorem events_helloAgain {n : Nat} {s : State} (hstate : (s.slot n).state = .offered) : Events s (helloAgain n s) :=
  (RosterMove.events (.slot n _ (.offerRepeated _ hstate) id)).trans (events_sendOffer _ _)

theorem events_helloReboot {n : Nat} {s : State} (kit : Word) (tiers : TierMask) (hphase : s.clock.phase ≠ .idle)
    (hempty : (s.slot n).state ≠ .empty) : Events s (helloReboot n kit tiers s) := by
  have hempty' : ((dropClaims n s).slot n).state ≠ .empty := by simpa using hempty
  have hsettings : (dropClaims n s).settings = s.settings := by simp
  unfold helloReboot
  dsimp only
  rw [hsettings]
  split
  · exact (RosterMove.events (.left n _ (.returned (some tiers) hempty'))).trans (events_answerHello _ _ _ _)
  · exact (RosterMove.events (.left n _ (.offered (some tiers) _ _ false hphase hempty'))).trans (events_sendOffer _ _)

theorem events_serveHello (kit : Word) (tiers : Byte) (s : State) : Events s (serveHello kit tiers s) := by
  unfold serveHello
  split
  · split
    · exact events_answerHello _ _ _ _
    · have hnoted : Events s (s.setStrangers (noteStranger kit s.roster.strangers)) :=
        .single (.strangers _ (by simp [noteStranger]))
      exact (hnoted.trans (moves_setFlag _ _).events).trans (events_answerHello _ _ _ _)
  · split
    · exact events_answerHello _ _ _ _
    next hclosed =>
    have hphase : s.clock.phase ≠ .idle := fun h => hclosed (by rw [h]; rfl)
    split
    · next hstate => exact events_helloNew _ _ hphase (.inl hstate)
    · next hstate => exact events_helloNew _ _ hphase (.inr hstate)
    · next hstate => exact events_helloAgain hstate
    · next hstate => exact events_helloReboot _ _ hphase (by simp [hstate])
    · next hstate => exact events_helloReboot _ _ hphase (by simp [hstate])
    · exact .refl

theorem events_serveConfirm (f : UplinkFrame) (tier : Nat) (s : State) : Events s (serveConfirm f tier s) := by
  unfold serveConfirm
  dsimp only
  split
  · next hstate =>
    split
    · have hadmit : RosterMove s (s.setSlot f.slot (toAdmitted s.settings (s.slot f.slot))) :=
        .slot _ _ (.admitted hstate) (by simp [hstate])
      exact events_answerFrame_of (hadmit.events.trans (moves_setFlag _ _).events) _ _ _
    · exact events_answerFrame _ _ _ _
  · exact events_answerFrame _ _ _ _

theorem events_serveBye (f : UplinkFrame) (s : State) : Events s (serveBye f s) := by
  have hleft (h : (s.slot f.slot).state ≠ .empty) : Events s (answerFrame f .left 0 (returnToExpected f.slot s)) :=
    events_answerFrame_of (rosterMove_returnToExpected h).events _ _ _
  unfold serveBye
  split
  · next h => exact hleft (by simp [h])
  · next h => exact hleft (by simp [h])
  · next h => exact hleft (by simp [h])
  · exact events_answerFrame _ _ _ _
  · exact events_answerFrame _ _ _ _
  · exact .refl

/-- A frame that passes the shared checks finds its element open to its sender (R70, R101). -/
theorem openTo_of_gate {n e : Nat} {s : State} (h : gate n e s = none) : openTo n e s := by
  unfold gate at h
  split_ifs at h with hknown hmute hclosed hdisabled hadmitted hpermit
  simp only [State.elementKnown, elementInRange, Bool.not_eq_true', Bool.and_eq_false_iff, not_or, Bool.not_eq_false,
    decide_eq_true_eq] at hknown
  simp only [Bool.or_eq_true, decide_eq_true_eq, not_or, Bool.not_eq_true] at hclosed
  simp only [State.drivePermit, Bool.not_eq_true', Bool.not_eq_false, Bool.and_eq_true, decide_eq_true_eq] at hpermit
  refine ⟨hknown.1.1, hknown.1.2, hknown.2, ?_, hclosed.2, hpermit.1, hpermit.2⟩
  cases hmode : s.mode e <;> simp_all [muteMode]

theorem events_claimElement {n e : Nat} {s : State} (hopen : openTo n e s) : Events s (claimElement n e s).1 := by
  unfold claimElement
  dsimp only
  split_ifs with _ _ _ _ hself hqueued hfree hlimit hlimits hfull
  all_goals first
    | exact .refl
    | exact .single (.granted n e hopen (by simpa using hfree) (by simpa using hqueued) (by omega))
    | skip
  obtain ⟨h, hholder⟩ := Option.ne_none_iff_exists'.mp (by simpa using hfree)
  simp only [Bool.or_eq_true, decide_eq_true_eq, not_or] at hlimits
  exact .single (.joined n e h hopen hholder (fun heq => hself (heq ▸ hholder)) (by simpa using hqueued) (by omega)
    (by omega) (by omega))

theorem events_turnAway (f : UplinkFrame) (c : Option AnswerCode) (s : State) : Events s (turnAway f c s) := by
  cases c with
  | none => exact .refl
  | some c => exact events_answerFrame _ _ _ _

theorem events_serveClaim (f : UplinkFrame) (e : Nat) (s : State) : Events s (serveClaim f e s) := by
  unfold serveClaim
  split
  · exact events_turnAway _ _ _
  · next h => exact events_answerFrame_of (events_claimElement (openTo_of_gate h)) _ _ _

theorem events_releaseElement (n e : Nat) (s : State) : Events s (releaseElement n e s).1 := by
  unfold releaseElement
  split_ifs with hholder
  · exact .single (.holdEnded n e false (dropHolder e s).attention hholder)
  · exact .single (.leftList n e)
  · exact .refl

theorem events_serveRelease (f : UplinkFrame) (e : Nat) (s : State) : Events s (serveRelease f e s) := by
  unfold serveRelease
  split_ifs
  · exact events_answerFrame _ _ _ _
  · exact .refl
  · exact events_answerFrame _ _ _ _
  · exact events_answerFrame_of (events_releaseElement _ _ _) _ _ _

theorem room_of_actuateRefusal {n e : Nat} {s : State} (h : actuateRefusal n e s = none) :
    (s.act e).state = .none ∧ s.bus.queue.length < queuePlaces := by
  unfold actuateRefusal at h
  dsimp only at h
  split_ifs at h with _ _ _ _ hact _ hroom
  exact ⟨by simpa using hact, by omega⟩

theorem events_acceptActuate {n e argument : Nat} {s : State} (he : 1 ≤ e ∧ e ≤ 32)
    (h : actuateRefusal n e s = none) : Events s (acceptActuate n e argument s).1 := by
  obtain ⟨hact, hroom⟩ := room_of_actuateRefusal h
  unfold acceptActuate
  dsimp only
  split
  · exact (moves_setElemScore _ _ s).events.tail (.actuationQueued e _ _ _ he hact hroom)
  · exact .single (.actuationQueued e _ _ _ he hact hroom)

theorem events_serveActuate (f : UplinkFrame) (e argument : Nat) (s : State) :
    Events s (serveActuate f e argument s) := by
  unfold serveActuate
  split
  · exact events_turnAway _ _ _
  next hgate =>
  split
  · exact events_answerFrame _ _ _ _
  next hrefusal =>
  obtain ⟨hlow, hhigh, _⟩ := openTo_of_gate hgate
  exact events_answerFrame_of (events_acceptActuate ⟨hlow, hhigh⟩ hrefusal) _ _ _

theorem events_serveRobotPut (f : UplinkFrame) (bytes : List Byte) (s : State) :
    Events s (serveRobotPut f bytes s) := by
  unfold serveRobotPut
  split_ifs
  · exact events_answerFrame _ _ _ _
  · exact events_answerFrame _ _ _ _
  · exact events_answerFrame_of ((events_setBox _ _ _).trans (moves_setFlag _ _).events) _ _ _

theorem events_serveRobotRead (f : UplinkFrame) (offset : Nat) (s : State) :
    Events s (serveRobotRead f offset s) := by
  unfold serveRobotRead
  split
  · exact events_answerFrame _ _ _ _
  split
  · exact events_answerFrame _ _ _ _
  split
  · exact events_answerFrame _ _ _ _
  · exact ((events_setBox _ _ _).trans (moves_setFlagIf _ _ _).events).trans (events_queueReply _ _)

theorem events_dispatchFrame (f : UplinkFrame) (s : State) : Events s (dispatchFrame f s) := by
  unfold dispatchFrame
  split
  · exact events_serveHello _ _ _
  · exact events_serveConfirm _ _ _
  · exact .refl
  · exact events_serveBye _ _
  · exact events_serveClaim _ _ _
  · exact events_serveRelease _ _ _
  · exact events_serveActuate _ _ _ _
  · exact events_serveRobotPut _ _ _
  · exact events_serveRobotRead _ _ _

theorem events_serveFrame (f : UplinkFrame) (s : State) : Events s (serveFrame f s) := by
  have hserved : Events s (if s.senderOk f then settle (dispatchFrame f (restartSilence f.slot s)) else s) := by
    split
    · exact events_settle_of ((events_restartSilence _ _).trans (events_dispatchFrame _ _))
    · exact .refl
  unfold serveFrame
  split
  · split
    · exact events_settle_of (events_dispatchFrame _ _)
    · exact .refl
  all_goals exact hserved

theorem events_takeFrame (f : UplinkFrame) (s : State) : Events s (takeFrame f s) := by
  unfold takeFrame
  split
  · split
    · exact events_serveFrame _ _
    · exact .refl
  · next g rest h =>
    split
    · exact (ReflTransGen.single (.frameTaken g rest h)).trans (events_serveFrame _ _)
    · exact .refl

theorem events_arrive (bytes : List Byte) (s : State) : Events s (arrive bytes s) := by
  unfold arrive
  split
  · exact .refl
  · exact .single (.frameArrived _)

theorem events_freePort (s : State) : Events s (freePort s) := by
  unfold freePort
  split
  · exact (events_link { s.link with port := none } (by simp) rfl).trans (events_portArbiter _)
  · exact .refl

theorem events_beaconInterval (s : State) : Events s (beaconInterval s) := by
  unfold beaconInterval
  split
  · exact (events_link { s.link with beaconTimer := none, beaconDue := true } (by simp) rfl).trans
      (events_portArbiter _)
  · exact .refl

-- Timers of slots and elements

/-- A mask keeps a tier when another one of it is removed (R32). -/
theorem removeTier_ne_zero {m allowed : TierMask} {a : Option TierMask} {t : Nat}
    (h : hasLower (a.getD 0 &&& m &&& allowed) t = true) : removeTier m t ≠ 0 := by
  simp only [hasLower, List.any_eq_true, Bool.and_eq_true, decide_eq_true_eq, hasTier] at h
  obtain ⟨u, hu, ⟨hpos, hbit⟩, hlt⟩ := h
  have hu4 : u - 1 < 4 := by
    simp only [List.mem_cons, List.not_mem_nil, or_false] at hu
    omega
  simp only [BitVec.getLsbD_and, Bool.and_eq_true] at hbit
  intro hzero
  have hkept : (removeTier m t).getLsbD (u - 1) = true := by
    have hne : ¬(u - 1 - (t - 1) = 0 ∧ t - 1 ≤ u - 1) := by omega
    simp only [removeTier, BitVec.getLsbD_and, BitVec.getLsbD_not, BitVec.getLsbD_shiftLeft, hbit.1.2, hu4,
      decide_true, Bool.true_and, BitVec.getLsbD_one]
    simp
    omega
  rw [hzero] at hkept
  simp at hkept

theorem events_lapse {n : Nat} {s : State} (hstate : (s.slot n).state = .offered) : Events s (lapse n s) := by
  unfold lapse
  dsimp only
  refine ReflTransGen.trans ?_ (moves_setFlagIf _ _ _).events
  split
  · next hdown =>
    simp only [downshifts, effectiveTiers, Bool.and_eq_true] at hdown
    exact RosterMove.events (.slot n _ (.lapsed 0 _ hstate fun _ => removeTier_ne_zero hdown.2) (by simp [hstate]))
  · exact RosterMove.events (.slot n _ (.lapsed _ (s.slot n).permitted hstate id) (by simp [hstate]))

theorem events_fallSilent {n : Nat} {s : State}
    (hstate : (s.slot n).state = .admitted ∨ (s.slot n).state = .disabled) : Events s (fallSilent n s) := by
  have hlost : RosterMove s ((dropClaims n s).setSlot n (toLost (dropClaims n s).settings ((dropClaims n s).slot n))) := by
    have hsettings : (dropClaims n s).settings = s.settings := by simp
    rw [hsettings]
    exact .left n _ (.lost (by simpa using hstate))
  exact hlost.events.trans (moves_setFlag _ _).events

theorem events_restoreSlot (n : Nat) (enabled : Bool) (s : State) : Events s (s.modSlot n (restoreSlot enabled)) := by
  cases enabled with
  | true => exact RosterMove.events (.slot n _ (.tiersRestored none) id)
  | false => exact RosterMove.events (.slot n _ (.advertised (s.slot n).lastAd none) id)

theorem events_expireHold (e : Nat) (s : State) : Events s (expireHold e s) := by
  unfold expireHold
  split
  · exact .refl
  · next h hholder => exact .single (.holdEnded h e true ((bar h e (dropHolder e s)).setFlag .revoked).attention hholder)

theorem events_takeTowerSecond (e : Nat) (s : State) : Events s (takeTowerSecond e s) := by
  unfold takeTowerSecond
  split
  · split
    · exact events_settle_of (moves_creditSecond _ _ _).events
    · exact .refl
  all_goals exact .refl

theorem events_completeStore (s : State) : Events s (completeStore s) := by
  unfold completeStore
  split
  · exact .refl
  · next w h => exact (ReflTransGen.single (.storeDone w h)).trans (moves_setFlag _ _).events

end Sys2Proof.Machine
end

section
/-! PROOFS. Every command and every step is a sequence of moves, so what the moves keep every step keeps. -/

namespace Sys2Proof.Machine

open Relation (ReflTransGen)

theorem exec_events (i : Instr) (s : State) : ∃ t, exec i s = .next t ∧ Events s t := by
  cases i with
  | powerOn => exact ⟨_, rfl, events_powerOn s⟩
  | resetPin => exact ⟨_, rfl, events_assertReset s⟩
  | stopInPressed => exact ⟨_, rfl, events_pressStop s⟩
  | stopInLetGo => exact ⟨_, rfl, .single (.stopIn false)⟩
  | resetPinRelease => exact ⟨_, rfl, events_releaseReset s⟩
  | breakDetected => exact ⟨_, rfl, events_whenAwake fun _ => events_detectBreak s⟩
  | breakEnd => exact ⟨_, rfl, events_whenAwake fun _ => (moves_console _ s).events⟩
  | consoleByte b => exact ⟨_, rfl, events_whenAwake (events_takeByte b)⟩
  | framingError => exact ⟨_, rfl, events_whenAwake fun _ => (moves_receiverDone s).events⟩
  | gapTimerExpiry =>
    refine ⟨_, rfl, events_whenAwake fun _ => ?_⟩
    split
    · exact .refl
    · exact (moves_receiverDone s).events
  | frameError => exact ⟨_, rfl, events_whenAwake (events_offerRecord (servedByMoves_refuse _))⟩
  | unknownRequest kind =>
    refine ⟨_, rfl, events_whenAwake fun hs => ?_⟩
    split
    · exact .refl
    · exact events_offerRecord (servedByMoves_refuse _) hs
  | consoleOverrun =>
    refine ⟨_, rfl, events_whenAwake fun _ => ?_⟩
    split
    · exact Moves.events ((moves_receiverDone s).trans (moves_setFlag _ _))
    · exact .refl
  | replyEnd => exact ⟨_, rfl, events_whenAwake fun _ => events_endReply s⟩
  | identify => exact ⟨_, rfl, events_consoleRequest (servedByMoves_reading _) s⟩
  | setSetting id value => exact ⟨_, rfl, events_consoleRequest (servedByMoves_setSetting _ _) s⟩
  | getSetting id => exact ⟨_, rfl, events_consoleRequest (servedByMoves_reading_if _ _ _) s⟩
  | storeSettings => exact ⟨_, rfl, events_consoleRequest servedByMoves_storeSettings s⟩
  | restart => exact ⟨_, rfl, events_consoleRequest (fun _ _ => (moves_console _ _).events) s⟩
  | defineElement e d => exact ⟨_, rfl, events_consoleRequest (servedByMoves_defineElement _ _) s⟩
  | readElement e => exact ⟨_, rfl, events_consoleRequest (servedByMoves_reading_if _ _ _) s⟩
  | setElementMode e r q => exact ⟨_, rfl, events_consoleRequest (servedByMoves_setElementMode _ _ _) s⟩
  | withdraw e => exact ⟨_, rfl, events_consoleRequest (servedByMoves_withdraw _) s⟩
  | restoreElement e => exact ⟨_, rfl, events_consoleRequest (servedByMoves_restoreElement _) s⟩
  | readFaults => exact ⟨_, rfl, events_consoleRequest (servedByMoves_reading _) s⟩
  | clearFaults e => exact ⟨_, rfl, events_consoleRequest (servedByMoves_clearFaults _) s⟩
  | register slot kit alliance team => exact ⟨_, rfl, events_consoleRequest (servedByMoves_register _ _ _ _) s⟩
  | unregister slot => exact ⟨_, rfl, events_consoleRequest (servedByMoves_unregister _) s⟩
  | readSlot slot => exact ⟨_, rfl, events_consoleRequest (servedByMoves_reading_if _ _ _) s⟩
  | readStrangers => exact ⟨_, rfl, events_consoleRequest (servedByMoves_reading _) s⟩
  | disableRobot slot duration => exact ⟨_, rfl, events_consoleRequest (servedByMoves_disableRobot _ _) s⟩
  | enableRobot slot => exact ⟨_, rfl, events_consoleRequest (servedByMoves_enableRobot _) s⟩
  | restoreTiers slot => exact ⟨_, rfl, events_consoleRequest (servedByMoves_restoreTiers _) s⟩
  | loadPlan count grace periods =>
    refine ⟨_, rfl, events_consoleRequest ?_ s⟩
    split
    · exact servedByMoves_refuse _
    · exact servedByMoves_loadPlan _ _ _
  | stage => exact ⟨_, rfl, events_consoleRequest servedByMoves_stage s⟩
  | start => exact ⟨_, rfl, events_consoleRequest servedByMoves_start s⟩
  | pause => exact ⟨_, rfl, events_consoleRequest servedByMoves_pause s⟩
  | resume => exact ⟨_, rfl, events_consoleRequest servedByMoves_resume s⟩
  | abortMatch => exact ⟨_, rfl, events_consoleRequest servedByMoves_abortMatch s⟩
  | closeMatch => exact ⟨_, rfl, events_consoleRequest servedByMoves_closeMatch s⟩
  | readClock => exact ⟨_, rfl, events_consoleRequest (servedByMoves_reading _) s⟩
  | periodExpiry =>
    refine ⟨_, rfl, events_whenAwake fun _ => ?_⟩
    split
    · next h => exact events_settle_of (events_expirePeriod h)
    · exact .refl
  | graceExpiry =>
    refine ⟨_, rfl, events_whenAwake fun _ => ?_⟩
    split
    · next h => exact events_settle_of (events_enterFinished (by simp [h]))
    · exact .refl
  | fieldStop => exact ⟨_, rfl, events_consoleRequest servedByMoves_fieldStop s⟩
  | releaseStop => exact ⟨_, rfl, events_consoleRequest servedByMoves_releaseStop s⟩
  | readStop => exact ⟨_, rfl, events_consoleRequest (servedByMoves_reading _) s⟩
  | readClaims first => exact ⟨_, rfl, events_consoleRequest (servedByMoves_reading_if _ _ _) s⟩
  | revokeClaim e b expected => exact ⟨_, rfl, events_consoleRequest (servedByMoves_revokeClaim _ _ _) s⟩
  | consoleActuate e argument => exact ⟨_, rfl, events_consoleRequest (servedByMoves_consoleActuate _ _) s⟩
  | passThrough e bytes => exact ⟨_, rfl, events_consoleRequest (servedByMoves_passThrough _ _) s⟩
  | passResult => exact ⟨_, rfl, events_consoleRequest servedByMoves_passResult s⟩
  | readScores => exact ⟨_, rfl, events_consoleRequest (servedByMoves_reading _) s⟩
  | readTallies first => exact ⟨_, rfl, events_consoleRequest (servedByMoves_reading_if _ _ _) s⟩
  | penalize a amount => exact ⟨_, rfl, events_consoleRequest (servedByMoves_penalize _ _) s⟩
  | award a amount => exact ⟨_, rfl, events_consoleRequest (servedByMoves_award _ _) s⟩
  | consoleMailPut slot bytes => exact ⟨_, rfl, events_consoleRequest (servedByMoves_mailPut _ _) s⟩
  | consoleMailRead slot offset length => exact ⟨_, rfl, events_consoleRequest (servedByMoves_mailRead _ _ _) s⟩
  | mailStatus => exact ⟨_, rfl, events_consoleRequest (servedByMoves_reading _) s⟩
  | readEvents => exact ⟨_, rfl, events_consoleRequest (servedByMoves_reading _) s⟩
  | clearEvents set => exact ⟨_, rfl, events_consoleRequest (servedByMoves_clearEvents _) s⟩
  | setEventEnables set => exact ⟨_, rfl, events_consoleRequest (servedByMoves_setEventEnables _) s⟩
  | storeDone => exact ⟨_, rfl, events_whenAwake fun _ => events_completeStore s⟩
  | uplinkArrival bytes => exact ⟨_, rfl, events_whenAwake fun _ => events_arrive bytes s⟩
  | hello slot tag kit tiers => exact ⟨_, rfl, events_whenAwake fun _ => events_takeFrame _ s⟩
  | confirm slot tag tier => exact ⟨_, rfl, events_whenAwake fun _ => events_takeFrame _ s⟩
  | presence slot tag => exact ⟨_, rfl, events_whenAwake fun _ => events_takeFrame _ s⟩
  | bye slot tag => exact ⟨_, rfl, events_whenAwake fun _ => events_takeFrame _ s⟩
  | claim slot tag e => exact ⟨_, rfl, events_whenAwake fun _ => events_takeFrame _ s⟩
  | release slot tag e => exact ⟨_, rfl, events_whenAwake fun _ => events_takeFrame _ s⟩
  | robotActuate slot tag e argument => exact ⟨_, rfl, events_whenAwake fun _ => events_takeFrame _ s⟩
  | robotMailPut slot tag bytes => exact ⟨_, rfl, events_whenAwake fun _ => events_takeFrame _ s⟩
  | robotMailRead slot tag offset => exact ⟨_, rfl, events_whenAwake fun _ => events_takeFrame _ s⟩
  | downlinkFrameSent => exact ⟨_, rfl, events_whenAwake fun _ => events_freePort s⟩
  | beaconIntervalExpiry => exact ⟨_, rfl, events_whenAwake fun _ => events_beaconInterval s⟩
  | confirmTimerExpiry n =>
    refine ⟨_, rfl, events_whenAwake fun _ => ?_⟩
    split
    · next h => exact events_lapse (by simp at h; exact h.1)
    · exact .refl
  | silenceTimerExpiry n =>
    refine ⟨_, rfl, events_whenAwake fun _ => ?_⟩
    split
    · next h => exact events_settle_of (events_fallSilent (by simp at h; exact h.1))
    · exact .refl
  | restoreTimerExpiry n =>
    refine ⟨_, rfl, events_whenAwake fun _ => ?_⟩
    split
    · exact events_restoreSlot _ _ _
    · exact .refl
  | disableTimerExpiry n =>
    refine ⟨_, rfl, events_whenAwake fun _ => ?_⟩
    split
    · exact events_endDisable n s
    · exact .refl
  | holdTimerExpiry e =>
    refine ⟨_, rfl, events_whenAwake fun _ => ?_⟩
    split
    · exact events_settle_of (events_expireHold e s)
    · exact .refl
  | cooldownExpiry e =>
    refine ⟨_, rfl, events_whenAwake fun _ => ?_⟩
    split
    · exact .single (.unbarred e)
    · exact .refl
  | towerSecond e => exact ⟨_, rfl, events_whenAwake fun _ => events_takeTowerSecond e s⟩
  | busFrameSent => exact ⟨_, rfl, events_whenAwake fun _ => events_requestFrameEnds s⟩
  | busAnswer bytes => exact ⟨_, rfl, events_whenAwake fun _ => events_takeResult _ s⟩
  | answerWindowExpiry => exact ⟨_, rfl, events_whenAwake fun _ => events_takeResult _ s⟩
  | actuationTimerExpiry e =>
    refine ⟨_, rfl, events_whenAwake fun _ => ?_⟩
    split
    · next h => exact events_settle_of (.single (.actuationEnded e _ (.inFlight (by simp at h; exact h.1)) .refl))
    · exact .refl
  | pulseTimerExpiry e =>
    refine ⟨_, rfl, events_whenAwake fun _ => ?_⟩
    split
    · exact events_settle_of (Moves.events (moves_recompute_of
        (.single (.pulsed e none (s.light e).lastCredited))))
    · exact .refl

theorem events_idle (s : State) : Events s (idle s) := by
  unfold idle
  split
  · exact .refl
  split
  · exact events_settle s
  split
  · exact (moves_pending _ s).events
  split
  · exact (moves_pending _ s).events
  · exact .single .timePassed

theorem step_events {s t : State} (h : step s = .next t) : Events s t := by
  unfold step at h
  split at h
  · injection h with h
    exact h ▸ events_idle s
  · next c rest _ =>
    obtain ⟨u, hu, hevents⟩ := exec_events c { s with pending := rest }
    rw [hu] at h
    injection h with h
    exact h ▸ (moves_pending rest s).events.trans hevents

/-- What every move keeps, a sequence of moves keeps. -/
theorem kept_of_moves {R : State → State → Prop} {P : State → Prop} (hkeep : ∀ s t, R s t → P s → P t) {s t : State}
    (h : ReflTransGen R s t) (hs : P s) : P t := by
  induction h with
  | refl => exact hs
  | tail _ hmove ih => exact hkeep _ _ hmove ih

/-- What every move of the machine keeps, every step keeps. -/
theorem kept_of_step {P : State → Prop} (hkeep : ∀ s t, Event s t → P s → P t) {s t : State} (hs : P s)
    (h : step s = .next t) : P t := kept_of_moves hkeep (step_events h) hs

end Sys2Proof.Machine
end

section
/-! PROOFS. The law of holders, waiters and their counts (R21, R66, R67) under the operations of the Claim Arbiter. -/

namespace Sys2Proof.Machine

open Relation (ReflTransGen)

/-- The law of holders, waiters and counts with its clauses named. -/
structure Lawful (s : State) : Prop where
  holder_admitted : ∀ {e n}, (s.claim e).holder = some n → (s.slot n).state = .admitted
  holder_notWaiting : ∀ {e n}, (s.claim e).holder = some n → n ∉ (s.claim e).waiters
  waiter_admitted : ∀ {e n}, n ∈ (s.claim e).waiters → (s.slot n).state = .admitted
  nodup : ∀ e, (s.claim e).waiters.Nodup
  room : ∀ e, (s.claim e).waiters.length ≤ 4
  holdCount : ∀ n, (s.slot n).holdCount = s.holds n
  waitCount : ∀ n, (s.slot n).waitCount = s.waits n
  holds_le : ∀ n, s.holds n ≤ 2
  waits_le : ∀ n, s.waits n ≤ 2
  waits_of_two : ∀ n, s.holds n = 2 → s.waits n = 0

theorem lawfulClaims_iff (s : State) : lawfulClaims s ↔ Lawful s := by
  constructor
  · rintro ⟨hclaims, hcounts⟩
    exact { holder_admitted := fun {e n} h => ((hclaims e).1 n h).1
            holder_notWaiting := fun {e n} h => ((hclaims e).1 n h).2
            waiter_admitted := fun {e n} h => (hclaims e).2.1 n h
            nodup := fun e => (hclaims e).2.2.1
            room := fun e => (hclaims e).2.2.2
            holdCount := fun n => (hcounts n).1
            waitCount := fun n => (hcounts n).2.1
            holds_le := fun n => (hcounts n).2.2.1
            waits_le := fun n => (hcounts n).2.2.2.1
            waits_of_two := fun n => (hcounts n).2.2.2.2 }
  · intro h
    exact ⟨fun e => ⟨fun n hn => ⟨h.holder_admitted hn, h.holder_notWaiting hn⟩, fun n => h.waiter_admitted, h.nodup e,
      h.room e⟩, fun n => ⟨h.holdCount n, h.waitCount n, h.holds_le n, h.waits_le n, h.waits_of_two n⟩⟩

-- Counting

/-- A count over a list without repetitions, behind a change at one of its members. -/
theorem countP_update {l : List Nat} (hl : l.Nodup) {e : Nat} (he : e ∈ l) {p q : Nat → Bool}
    (h : ∀ k, k ≠ e → p k = q k) :
    l.countP p + (if q e then 1 else 0) = l.countP q + (if p e then 1 else 0) := by
  induction l with
  | nil => simp at he
  | cons a l ih =>
    obtain ⟨hnot, hl⟩ := List.nodup_cons.mp hl
    rw [List.countP_cons, List.countP_cons]
    by_cases ha : a = e
    · subst ha
      have hrest : l.countP p = l.countP q :=
        List.countP_congr fun k hk => by rw [h k fun heq => hnot (heq ▸ hk)]
      omega
    · have hl' := ih hl (by simpa [Ne.symm ha] using he)
      rw [h a ha]
      omega

theorem mem_elementNumbers {e : Nat} : e ∈ elementNumbers ↔ 1 ≤ e ∧ e ≤ 32 := by
  simp only [elementNumbers, List.mem_range'_1]
  omega

theorem elementNumbers_nodup : elementNumbers.Nodup := by decide

/-- A change of one holder changes the holds by that element alone (R67). -/
theorem holds_update {s t : State} {e : Nat} (he : 1 ≤ e ∧ e ≤ 32)
    (h : ∀ k, k ≠ e → (t.claim k).holder = (s.claim k).holder) (n : Nat) :
    t.holds n + (if (s.claim e).holder = some n then 1 else 0)
      = s.holds n + (if (t.claim e).holder = some n then 1 else 0) := by
  have hcount := countP_update elementNumbers_nodup (mem_elementNumbers.mpr he)
    (p := fun k => (t.claim k).holder == some n) (q := fun k => (s.claim k).holder == some n)
    (fun k hk => by simp only [h k hk])
  simpa [State.holds, List.countP_eq_length_filter] using hcount

/-- A change of one wait list changes the waits by that element alone (R67). -/
theorem waits_update {s t : State} {e : Nat} (he : 1 ≤ e ∧ e ≤ 32)
    (h : ∀ k, k ≠ e → (t.claim k).waiters = (s.claim k).waiters) (n : Nat) :
    t.waits n + (if n ∈ (s.claim e).waiters then 1 else 0)
      = s.waits n + (if n ∈ (t.claim e).waiters then 1 else 0) := by
  have hcount := countP_update elementNumbers_nodup (mem_elementNumbers.mpr he)
    (p := fun k => (t.claim k).waiters.contains n) (q := fun k => (s.claim k).waiters.contains n)
    (fun k hk => by simp only [h k hk])
  simpa [State.waits, List.countP_eq_length_filter] using hcount

theorem holds_congr {s t : State} (h : ∀ e, (t.claim e).holder = (s.claim e).holder) (n : Nat) :
    t.holds n = s.holds n := by simp only [State.holds, h]

theorem waits_congr {s t : State} (h : ∀ e, (t.claim e).waiters = (s.claim e).waiters) (n : Nat) :
    t.waits n = s.waits n := by simp only [State.waits, h]

theorem holds_eq_zero {s : State} {n : Nat} (h : ∀ e, (s.claim e).holder ≠ some n) : s.holds n = 0 := by
  simp [State.holds, h]

theorem waits_eq_zero {s : State} {n : Nat} (h : ∀ e, n ∉ (s.claim e).waiters) : s.waits n = 0 := by
  simp [State.waits, h]

theorem holds_pos {s : State} {n e : Nat} (h : (s.claim e).holder = some n) : 1 ≤ s.holds n := by
  have he : 1 ≤ e ∧ e ≤ 32 := by
    by_contra hout
    rw [claim_outside hout] at h
    exact absurd h (by simp [emptyClaim])
  exact List.length_pos_of_mem (List.mem_filter.mpr ⟨mem_elementNumbers.mpr he, by simp [h]⟩)

theorem waits_pos {s : State} {n e : Nat} (h : n ∈ (s.claim e).waiters) : 1 ≤ s.waits n := by
  have he : 1 ≤ e ∧ e ≤ 32 := by
    by_contra hout
    rw [claim_outside hout] at h
    exact absurd h (by simp [emptyClaim])
  exact List.length_pos_of_mem (List.mem_filter.mpr ⟨mem_elementNumbers.mpr he, by simp [h]⟩)

-- The law and what it does not read

/-- The law reads holders, wait lists, slot states and the two counts. -/
theorem Lawful.congr {s t : State} (hs : Lawful s) (hholder : ∀ e, (t.claim e).holder = (s.claim e).holder)
    (hwaiters : ∀ e, (t.claim e).waiters = (s.claim e).waiters) (hstate : ∀ n, (t.slot n).state = (s.slot n).state)
    (hhold : ∀ n, (t.slot n).holdCount = (s.slot n).holdCount)
    (hwait : ∀ n, (t.slot n).waitCount = (s.slot n).waitCount) : Lawful t where
  holder_admitted h := by rw [hstate]; exact hs.holder_admitted (hholder _ ▸ h)
  holder_notWaiting h := by rw [hwaiters]; exact hs.holder_notWaiting (hholder _ ▸ h)
  waiter_admitted h := by rw [hstate]; exact hs.waiter_admitted (hwaiters _ ▸ h)
  nodup e := hwaiters e ▸ hs.nodup e
  room e := hwaiters e ▸ hs.room e
  holdCount n := by rw [hhold, holds_congr hholder, hs.holdCount]
  waitCount n := by rw [hwait, waits_congr hwaiters, hs.waitCount]
  holds_le n := holds_congr hholder n ▸ hs.holds_le n
  waits_le n := waits_congr hwaiters n ▸ hs.waits_le n
  waits_of_two n h := by rw [waits_congr hwaiters]; exact hs.waits_of_two n (holds_congr hholder n ▸ h)

theorem Lawful.congr_claims_roster {s t : State} (hs : Lawful s) (hclaims : t.claims = s.claims)
    (hroster : t.roster = s.roster) : Lawful t := by
  have hclaim e : t.claim e = s.claim e := by simp only [State.claim, hclaims]
  have hslot n : t.slot n = s.slot n := by simp only [State.slot, hroster]
  exact hs.congr (by simp [hclaim]) (by simp [hclaim]) (by simp [hslot]) (by simp [hslot]) (by simp [hslot])

/-- Only an ADMITTED slot holds (R21). -/
theorem Lawful.holds_of_notAdmitted {s : State} (hs : Lawful s) {n : Nat} (h : (s.slot n).state ≠ .admitted) :
    s.holds n = 0 := holds_eq_zero fun _ hholder => h (hs.holder_admitted hholder)

/-- Only an ADMITTED slot waits (R21). -/
theorem Lawful.waits_of_notAdmitted {s : State} (hs : Lawful s) {n : Nat} (h : (s.slot n).state ≠ .admitted) :
    s.waits n = 0 := waits_eq_zero fun _ hwaiter => h (hs.waiter_admitted hwaiter)

theorem element_range_of_holder {s : State} {e n : Nat} (h : (s.claim e).holder = some n) : 1 ≤ e ∧ e ≤ 32 := by
  by_contra hout
  rw [claim_outside hout] at h
  exact absurd h (by simp [emptyClaim])

theorem element_range_of_waiter {s : State} {e n : Nat} (h : n ∈ (s.claim e).waiters) : 1 ≤ e ∧ e ≤ 32 := by
  by_contra hout
  rw [claim_outside hout] at h
  exact absurd h (by simp [emptyClaim])

theorem slot_range_of_admitted {s : State} {n : Nat} (h : (s.slot n).state = .admitted) : 1 ≤ n ∧ n ≤ 24 :=
  slot_range_of_registered (s := s) (by simp [h])

-- Holders (R67, R81)

theorem lawful_dropHolder {s : State} (hs : Lawful s) (e : Nat) : Lawful (dropHolder e s) := by
  cases hholder : (s.claim e).holder with
  | none => simpa [dropHolder, hholder] using hs
  | some h =>
    have he := element_range_of_holder hholder
    have hh := slot_range_of_admitted (hs.holder_admitted hholder)
    have hlost := holderLost_dropHolder he hh hholder
    have hwaiters k : ((dropHolder e s).claim k).waiters = (s.claim k).waiters := by
      by_cases hk : k = e
      · rw [hk, hlost.waiters]
      · rw [hlost.others k hk]
    have hsub {k n : Nat} (hn : ((dropHolder e s).claim k).holder = some n) : (s.claim k).holder = some n := by
      by_cases hk : k = e
      · rw [hk, hlost.holder] at hn
        exact absurd hn (by simp)
      · rwa [hlost.others k hk] at hn
    have hupdate n := holds_update he (s := s) (t := dropHolder e s) (fun k hk => by rw [hlost.others k hk]) n
    simp only [hholder, hlost.holder, Option.some.injEq, reduceCtorEq, if_false, Nat.add_zero] at hupdate
    have hle n : (dropHolder e s).holds n ≤ s.holds n := by have := hupdate n; split at this <;> omega
    exact {
      holder_admitted := fun hn => by rw [hlost.slot_state]; exact hs.holder_admitted (hsub hn)
      holder_notWaiting := fun hn => by rw [hwaiters]; exact hs.holder_notWaiting (hsub hn)
      waiter_admitted := fun hn => by rw [hlost.slot_state]; exact hs.waiter_admitted (hwaiters _ ▸ hn)
      nodup := fun k => hwaiters k ▸ hs.nodup k
      room := fun k => hwaiters k ▸ hs.room k
      holdCount := fun n => by
        have := hupdate n
        by_cases hn : n = h
        · subst hn
          rw [hlost.slot_same, hs.holdCount]
          simp at this
          simp only
          omega
        · rw [hlost.slot_other n hn, hs.holdCount]
          simpa [Ne.symm hn] using this.symm
      waitCount := fun n => by
        rw [waits_congr hwaiters, ← hs.waitCount]
        by_cases hn : n = h
        · rw [hn, hlost.slot_same]
        · rw [hlost.slot_other n hn]
      holds_le := fun n => (hle n).trans (hs.holds_le n)
      waits_le := fun n => waits_congr hwaiters n ▸ hs.waits_le n
      waits_of_two := fun n htwo => by
        rw [waits_congr hwaiters]
        exact hs.waits_of_two n (le_antisymm (hs.holds_le n) (htwo ▸ hle n)) }

theorem lawful_bar {s : State} (hs : Lawful s) (n e : Nat) : Lawful (bar n e s) := by
  by_cases he : 1 ≤ e ∧ e ≤ 32
  · have hclaim k : ((bar n e s).claim k).holder = (s.claim k).holder
        ∧ ((bar n e s).claim k).waiters = (s.claim k).waiters := by
      by_cases hk : k = e
      · simp [hk, bar_claim_same he]
      · simp [bar_claim_other hk]
    exact hs.congr (fun k => (hclaim k).1) (fun k => (hclaim k).2) (by simp) (by simp) (by simp)
  · refine hs.congr_claims_roster ?_ (by simp)
    unfold bar
    split
    · rfl
    · exact set1_outside _ _ _ he

-- Wait lists (R66, R74)

/-- A slot leaves one wait list and its count goes down by one: by its own leaving or from the head. -/
theorem lawful_of_lessWaiting {s t : State} (hs : Lawful s) {n e : Nat} (hn : n ∈ (s.claim e).waiters)
    (hsame : (t.claim e).waiters = (s.claim e).waiters.erase n)
    (hother : ∀ k, k ≠ e → (t.claim k).waiters = (s.claim k).waiters)
    (hholder : ∀ k, (t.claim k).holder = (s.claim k).holder)
    (hslot : t.slot n = { s.slot n with waitCount := (s.slot n).waitCount - 1 })
    (hslots : ∀ k, k ≠ n → t.slot k = s.slot k) : Lawful t := by
  have hstate k : (t.slot k).state = (s.slot k).state := by
    by_cases hk : k = n
    · rw [hk, hslot]
    · rw [hslots k hk]
  have hhold k : (t.slot k).holdCount = (s.slot k).holdCount := by
    by_cases hk : k = n
    · rw [hk, hslot]
    · rw [hslots k hk]
  have hsub {k m : Nat} (hm : m ∈ (t.claim k).waiters) : m ∈ (s.claim k).waiters := by
    by_cases hk : k = e
    · subst hk
      exact List.mem_of_mem_erase (hsame ▸ hm)
    · exact hother k hk ▸ hm
  have hupdate m := waits_update (element_range_of_waiter hn) hother m
  simp only [hsame, (hs.nodup e).mem_erase_iff] at hupdate
  have hle m : t.waits m ≤ s.waits m := by
    have hm := hupdate m
    have hless : (if m ≠ n ∧ m ∈ (s.claim e).waiters then 1 else 0) ≤ if m ∈ (s.claim e).waiters then 1 else 0 := by
      split_ifs <;> simp_all
    omega
  exact {
    holder_admitted := fun h => by rw [hstate]; exact hs.holder_admitted (hholder _ ▸ h)
    holder_notWaiting := fun h hm => hs.holder_notWaiting (hholder _ ▸ h) (hsub hm)
    waiter_admitted := fun h => by rw [hstate]; exact hs.waiter_admitted (hsub h)
    nodup := fun k => by
      by_cases hk : k = e
      · subst hk
        exact hsame ▸ (hs.nodup k).erase n
      · exact hother k hk ▸ hs.nodup k
    room := fun k => by
      by_cases hk : k = e
      · subst hk
        exact hsame ▸ (List.length_erase_le).trans (hs.room k)
      · exact hother k hk ▸ hs.room k
    holdCount := fun m => by rw [hhold, holds_congr hholder, hs.holdCount]
    waitCount := fun m => by
      have := hupdate m
      by_cases hm : m = n
      · subst hm
        simp only [hn, if_true, ne_eq, not_true, false_and, if_false] at this
        rw [hslot, hs.waitCount]
        simp only
        omega
      · rw [hslots m hm, hs.waitCount]
        simpa [hm] using this.symm
    holds_le := fun m => holds_congr hholder m ▸ hs.holds_le m
    waits_le := fun m => (hle m).trans (hs.waits_le m)
    waits_of_two := fun m htwo =>
      Nat.le_zero.mp ((hle m).trans_eq (hs.waits_of_two m (holds_congr hholder m ▸ htwo))) }

theorem lawful_popWaiter {s : State} (hs : Lawful s) {n e : Nat} {rest : List Nat}
    (hw : (s.claim e).waiters = n :: rest) : Lawful (popWaiter n e rest s) := by
  have hn : n ∈ (s.claim e).waiters := by simp [hw]
  have he := element_range_of_waiter hn
  have hrange := slot_range_of_admitted (hs.waiter_admitted hn)
  refine lawful_of_lessWaiting hs hn ?_ (fun k hk => by rw [popWaiter_claim_other hk]) (fun k => ?_)
    (popWaiter_slot_same hrange e rest s) (fun k hk => popWaiter_slot_other hk e rest s)
  · rw [popWaiter_claim_same he, hw, List.erase_cons_head]
  · by_cases hk : k = e
    · rw [hk, popWaiter_claim_same he]
    · rw [popWaiter_claim_other hk]

theorem lawful_leaveList {s : State} (hs : Lawful s) (n e : Nat) : Lawful (leaveList n e s) := by
  by_cases hn : n ∈ (s.claim e).waiters
  · have hrange := slot_range_of_admitted (hs.waiter_admitted hn)
    refine lawful_of_lessWaiting hs hn ?_ (fun k hk => by rw [leaveList_claim_other hk]) (fun k => ?_) ?_
      (fun k hk => leaveList_slot_other hk e s)
    · rw [leaveList_claim_same]
    · by_cases hk : k = e
      · rw [hk, leaveList_claim_same]
      · rw [leaveList_claim_other hk]
    · simp [leaveList, hn, countWait, slot_modSlot, hrange]
  · simpa [leaveList, hn] using hs

theorem leaveAllLists_waits (n m : Nat) {s : State} (hs : Lawful s) :
    (leaveAllLists n s).waits m = if m = n then 0 else s.waits m := by
  split
  · next h =>
    subst h
    exact waits_eq_zero fun e => by rw [leaveAllLists_claim]; exact (hs.nodup e).not_mem_erase
  · next h =>
    simp only [State.waits, leaveAllLists_claim]
    congr 1
    refine List.filter_congr fun e _ => ?_
    simp [List.mem_erase_of_ne h]

theorem lawful_leaveAllLists {s : State} (hs : Lawful s) (n : Nat) : Lawful (leaveAllLists n s) := by
  have hholder k : ((leaveAllLists n s).claim k).holder = (s.claim k).holder := by rw [leaveAllLists_claim]
  have hsub {k m : Nat} (hm : m ∈ ((leaveAllLists n s).claim k).waiters) : m ∈ (s.claim k).waiters := by
    rw [leaveAllLists_claim] at hm
    exact List.mem_of_mem_erase hm
  have hhold m : ((leaveAllLists n s).slot m).holdCount = (s.slot m).holdCount := by
    by_cases hm : m = n
    · rw [hm, leaveAllLists_slot_same]
    · rw [leaveAllLists_slot_other hm]
  exact {
    holder_admitted := fun h => by simpa using hs.holder_admitted (hholder _ ▸ h)
    holder_notWaiting := fun h hm => hs.holder_notWaiting (hholder _ ▸ h) (hsub hm)
    waiter_admitted := fun h => by simpa using hs.waiter_admitted (hsub h)
    nodup := fun k => by rw [leaveAllLists_claim]; exact (hs.nodup k).erase n
    room := fun k => by rw [leaveAllLists_claim]; exact (List.length_erase_le).trans (hs.room k)
    holdCount := fun m => by rw [hhold, holds_congr hholder, hs.holdCount]
    waitCount := fun m => by
      rw [leaveAllLists_waits n m hs]
      split
      · next h => rw [h, leaveAllLists_slot_same]
      · next h => rw [leaveAllLists_slot_other h, hs.waitCount]
    holds_le := fun m => by rw [holds_congr hholder]; exact hs.holds_le m
    waits_le := fun m => by
      rw [leaveAllLists_waits n m hs]
      split
      · simp
      · exact hs.waits_le m
    waits_of_two := fun m htwo => by
      rw [leaveAllLists_waits n m hs]
      split
      · rfl
      · exact hs.waits_of_two m (holds_congr hholder m ▸ htwo) }

theorem joinList_claim_same {e : Nat} (he : 1 ≤ e ∧ e ≤ 32) (n : Nat) (s : State) :
    (joinList n e s).claim e = { s.claim e with waiters := (s.claim e).waiters ++ [n] } := by
  simp [joinList, claim_setClaim, he]

theorem joinList_claim_other {e k : Nat} (hk : k ≠ e) (n : Nat) (s : State) :
    (joinList n e s).claim k = s.claim k := by
  simp [joinList, claim_setClaim, hk]

theorem joinList_slot_same {n : Nat} (hn : 1 ≤ n ∧ n ≤ 24) (e : Nat) (s : State) :
    (joinList n e s).slot n = { s.slot n with waitCount := (s.slot n).waitCount + 1 } := by
  simp [joinList, countWait, slot_modSlot, hn]

theorem joinList_slot_other {n k : Nat} (hk : k ≠ n) (e : Nat) (s : State) : (joinList n e s).slot k = s.slot k := by
  simp [joinList, countWait, slot_modSlot, hk]

theorem lawful_joinList {s : State} (hs : Lawful s) {n e : Nat} (he : 1 ≤ e ∧ e ≤ 32)
    (hadmitted : (s.slot n).state = .admitted) (hholder : (s.claim e).holder ≠ some n)
    (hwaiters : n ∉ (s.claim e).waiters) (hholds : (s.slot n).holdCount < 2) (hwaits : (s.slot n).waitCount < 2)
    (hroom : (s.claim e).waiters.length < 4) : Lawful (joinList n e s) := by
  have hn := slot_range_of_admitted hadmitted
  have hsame := joinList_claim_same he n s
  have hother {k} (hk : k ≠ e) := joinList_claim_other hk n s
  have hholders k : ((joinList n e s).claim k).holder = (s.claim k).holder := by
    by_cases hk : k = e
    · rw [hk, hsame]
    · rw [hother hk]
  have hmem {k m : Nat} : m ∈ ((joinList n e s).claim k).waiters ↔ m ∈ (s.claim k).waiters ∨ k = e ∧ m = n := by
    by_cases hk : k = e
    · subst hk
      simp [hsame]
    · simp [hother hk, hk]
  have hupdate m := waits_update he (s := s) (t := joinList n e s) (fun k hk => by rw [hother hk]) m
  simp only [hmem, true_and] at hupdate
  have hhold m : ((joinList n e s).slot m).holdCount = (s.slot m).holdCount := by
    by_cases hm : m = n
    · rw [hm, joinList_slot_same hn]
    · rw [joinList_slot_other hm]
  have hwait m : (joinList n e s).waits m = if m = n then s.waits m + 1 else s.waits m := by
    have := hupdate m
    by_cases hm : m = n
    · subst hm
      simpa [hwaiters] using this
    · simpa [hm] using this
  rw [hs.holdCount] at hholds
  rw [hs.waitCount] at hwaits
  exact {
    holder_admitted := fun h => by simpa using hs.holder_admitted (hholders _ ▸ h)
    holder_notWaiting := fun {k m} h hm => by
      rcases hmem.mp hm with hm | ⟨rfl, rfl⟩
      · exact hs.holder_notWaiting (hholders _ ▸ h) hm
      · exact hholder (hholders _ ▸ h)
    waiter_admitted := fun {k m} hm => by
      rcases hmem.mp hm with hm | ⟨_, rfl⟩
      · simpa using hs.waiter_admitted hm
      · simpa using hadmitted
    nodup := fun k => by
      by_cases hk : k = e
      · subst hk
        rw [hsame]
        simpa [List.nodup_append, hs.nodup k] using fun a ha (heq : a = n) => hwaiters (heq ▸ ha)
      · exact hother hk ▸ hs.nodup k
    room := fun k => by
      by_cases hk : k = e
      · subst hk
        rw [hsame]
        simp only [List.length_append, List.length_singleton]
        omega
      · exact hother hk ▸ hs.room k
    holdCount := fun m => by rw [hhold, holds_congr hholders, hs.holdCount]
    waitCount := fun m => by
      rw [hwait]
      split
      · next hm => rw [hm, joinList_slot_same hn, hs.waitCount]
      · next hm => rw [joinList_slot_other hm, hs.waitCount]
    holds_le := fun m => holds_congr hholders m ▸ hs.holds_le m
    waits_le := fun m => by
      rw [hwait]
      split
      · next hm => subst hm; omega
      · exact hs.waits_le m
    waits_of_two := fun m htwo => by
      rw [holds_congr hholders] at htwo
      rw [hwait]
      split
      · next hm => subst hm; omega
      · exact hs.waits_of_two m htwo }

-- Becoming the holder and the handover (R73, R79)

theorem lawful_becomeHolder {s : State} (hs : Lawful s) {n e : Nat} (he : 1 ≤ e ∧ e ≤ 32)
    (hadmitted : (s.slot n).state = .admitted) (hholder : (s.claim e).holder = none)
    (hwaiters : n ∉ (s.claim e).waiters) (hholds : (s.slot n).holdCount < 2) : Lawful (becomeHolder n e s) := by
  have hn := slot_range_of_admitted hadmitted
  have hsame := becomeHolder_claim_same hn he hwaiters
  have hother {k} (hk : k ≠ e) := becomeHolder_claim_other hn hk s
  have hslot := becomeHolder_slot_same hn e s
  have hslots {k} (hk : k ≠ n) := becomeHolder_slot_other hn hk e s
  have hholders {k m : Nat} : ((becomeHolder n e s).claim k).holder = some m ↔
      (s.claim k).holder = some m ∨ k = e ∧ m = n := by
    by_cases hk : k = e
    · subst hk
      simp [hsame, hholder, eq_comm]
    · simp [hother hk, hk]
  have hsub {k m : Nat} (hm : m ∈ ((becomeHolder n e s).claim k).waiters) : m ∈ (s.claim k).waiters := by
    by_cases hk : k = e
    · subst hk
      rwa [hsame] at hm
    · rw [hother hk] at hm
      simp only at hm
      split at hm
      · exact List.mem_of_mem_erase hm
      · exact hm
  have hupdate m := holds_update he (s := s) (t := becomeHolder n e s) (fun k hk => by rw [hother hk]) m
  simp only [hholder, reduceCtorEq, if_false, Nat.add_zero, hsame, Option.some.injEq] at hupdate
  have hwait m : (becomeHolder n e s).waits m = if m = n ∧ (s.slot n).holdCount = 1 then 0 else s.waits m := by
    split
    · next h =>
      obtain ⟨rfl, hone⟩ := h
      refine waits_eq_zero fun k hm => ?_
      by_cases hk : k = e
      · subst hk
        exact hwaiters (by rwa [hsame] at hm)
      · rw [hother hk] at hm
        simp only [hone, if_true] at hm
        exact (hs.nodup k).not_mem_erase hm
    · next h =>
      have hcontains k : ((becomeHolder n e s).claim k).waiters.contains m = (s.claim k).waiters.contains m := by
        by_cases hk : k = e
        · rw [hk, hsame]
        · rw [hother hk]
          simp only
          split
          · next hone =>
            have hm : m ≠ n := fun heq => h ⟨heq, hone⟩
            simp [List.mem_erase_of_ne hm]
          · rfl
      simp only [State.waits, hcontains]
  exact {
    holder_admitted := fun {k m} h => by
      rcases hholders.mp h with h | ⟨_, rfl⟩
      · simpa using hs.holder_admitted h
      · simpa using hadmitted
    holder_notWaiting := fun {k m} h hm => by
      rcases hholders.mp h with h | ⟨rfl, rfl⟩
      · exact hs.holder_notWaiting h (hsub hm)
      · exact hwaiters (hsub hm)
    waiter_admitted := fun h => by simpa using hs.waiter_admitted (hsub h)
    nodup := fun k => by
      by_cases hk : k = e
      · rw [hk, hsame]
        exact hs.nodup e
      · rw [hother hk]
        simp only
        split
        · exact (hs.nodup k).erase n
        · exact hs.nodup k
    room := fun k => by
      by_cases hk : k = e
      · rw [hk, hsame]
        exact hs.room e
      · rw [hother hk]
        simp only
        split
        · exact (List.length_erase_le).trans (hs.room k)
        · exact hs.room k
    holdCount := fun m => by
      have := hupdate m
      by_cases hm : m = n
      · subst hm
        rw [hslot, hs.holdCount]
        simpa using this.symm
      · rw [hslots hm, hs.holdCount]
        simpa [Ne.symm hm] using this.symm
    waitCount := fun m => by
      rw [hwait]
      by_cases hm : m = n
      · subst hm
        rw [hslot]
        simp [hs.waitCount]
      · simp [hslots hm, hm, hs.waitCount]
    holds_le := fun m => by
      have := hupdate m
      have := hs.holds_le m
      have := hs.holdCount n
      by_cases hm : n = m
      · subst hm
        simp only [if_true] at *
        omega
      · simp only [hm, if_false] at *
        omega
    waits_le := fun m => by
      rw [hwait]
      split
      · simp
      · exact hs.waits_le m
    waits_of_two := fun m htwo => by
      rw [hwait]
      have := hupdate m
      have := hs.holdCount n
      split
      · rfl
      · next h =>
        by_cases hm : m = n
        · subst hm
          have hone : (s.slot m).holdCount = 1 := by simp at *; omega
          exact absurd ⟨rfl, hone⟩ h
        · exact hs.waits_of_two m (by simp [Ne.symm hm] at *; omega) }

theorem lawful_handover {s : State} (hs : Lawful s) {e : Nat} (hholder : (s.claim e).holder = none) :
    Lawful (handover e s) := by
  cases hw : (s.claim e).waiters with
  | nil =>
    rw [handover_of_noWaiter hw]
    exact hs.congr_claims_roster (by simp) (by simp)
  | cons n rest =>
    have hn : n ∈ (s.claim e).waiters := by simp [hw]
    have he := element_range_of_waiter hn
    have hadmitted := hs.waiter_admitted hn
    have hrange := slot_range_of_admitted hadmitted
    have hclaim := popWaiter_claim_same he n rest s
    have hnot : n ∉ rest := (List.nodup_cons.mp (hw ▸ hs.nodup e)).1
    have hone : s.holds n < 2 := by
      by_contra htwo
      have := hs.waits_of_two n (le_antisymm (hs.holds_le n) (by omega))
      have := waits_pos hn
      omega
    rw [handover_of_waiter hw]
    refine lawful_becomeHolder (lawful_popWaiter hs hw) he ?_ ?_ ?_ ?_
    · simpa [popWaiter] using hadmitted
    · rw [hclaim, hholder]
    · rwa [hclaim]
    · rw [popWaiter_slot_same hrange, hs.holdCount]
      exact hone

theorem dropHolder_holder (e : Nat) (s : State) : ((dropHolder e s).claim e).holder = none := by
  unfold dropHolder
  split
  · next h => exact h
  · next n h => simp [countHold_reads, claim_setClaim, element_range_of_holder h]

theorem lawful_endHold {s : State} (hs : Lawful s) (e : Nat) : Lawful (endHold e s) :=
  lawful_handover (lawful_dropHolder hs e) (dropHolder_holder e s)

theorem lawful_dropClaims {s : State} (hs : Lawful s) (n : Nat) : Lawful (dropClaims n s) := by
  refine foldl_inv Lawful _ (fun t e ht => ?_) elementNumbers _ (lawful_leaveAllLists hs n)
  unfold endHoldOf
  split
  · exact lawful_endHold ht e
  · exact ht

end Sys2Proof.Machine
end

section
/-! PROOFS. The drop of a slot's claims, the emptying of an element and the clearing of all (R87, R89, R90), and the law of
holders, waiters and counts under every move. -/

namespace Sys2Proof.Machine

open Relation (ReflTransGen)

-- The drop (R87)

theorem handover_waiters_sub {s : State} {e k m : Nat} (hs : Lawful s)
    (hm : m ∈ ((handover e s).claim k).waiters) : m ∈ (s.claim k).waiters := by
  cases hw : (s.claim e).waiters with
  | nil => rwa [handover_claim_of_noWaiter hw] at hm
  | cons n rest =>
    have hn := slot_range_of_admitted (hs.waiter_admitted (e := e) (n := n) (by simp [hw]))
    by_cases hk : k = e
    · subst hk
      have he : 1 ≤ k ∧ k ≤ 32 := element_range_of_waiter (s := s) (n := n) (by simp [hw])
      have hnot : n ∉ rest := (List.nodup_cons.mp (hw ▸ hs.nodup k)).1
      have hclaim := popWaiter_claim_same he n rest s
      rw [handover_of_waiter hw, becomeHolder_claim_same hn he (by rwa [hclaim]), hclaim] at hm
      rw [hw]
      exact List.mem_cons_of_mem n hm
    · rw [handover_claim_of_waiter hn hw hk] at hm
      simp only at hm
      split at hm
      · exact List.mem_of_mem_erase hm
      · exact hm

theorem handover_holder {s : State} {e k m : Nat} (hs : Lawful s)
    (hm : ((handover e s).claim k).holder = some m) :
    (s.claim k).holder = some m ∨ k = e ∧ m ∈ (s.claim e).waiters := by
  cases hw : (s.claim e).waiters with
  | nil =>
    rw [handover_claim_of_noWaiter hw] at hm
    exact .inl hm
  | cons n rest =>
    have hn := slot_range_of_admitted (hs.waiter_admitted (e := e) (n := n) (by simp [hw]))
    by_cases hk : k = e
    · subst hk
      have he : 1 ≤ k ∧ k ≤ 32 := element_range_of_waiter (s := s) (n := n) (by simp [hw])
      have hnot : n ∉ rest := (List.nodup_cons.mp (hw ▸ hs.nodup k)).1
      have hclaim := popWaiter_claim_same he n rest s
      rw [handover_of_waiter hw, becomeHolder_claim_same hn he (by rwa [hclaim])] at hm
      simp only [Option.some.injEq] at hm
      exact .inr ⟨rfl, by simp [hm]⟩
    · rw [handover_claim_of_waiter hn hw hk] at hm
      exact .inl hm

theorem dropHolder_claim_waiters (e k : Nat) (s : State) :
    ((dropHolder e s).claim k).waiters = (s.claim k).waiters := by
  unfold dropHolder
  split
  · rfl
  · next h hholder =>
    by_cases hk : k = e
    · subst hk
      simp [claim_setClaim, element_range_of_holder hholder]
    · simp [claim_setClaim, hk]

theorem dropHolder_claim_other {e k : Nat} (hk : k ≠ e) (s : State) : (dropHolder e s).claim k = s.claim k := by
  unfold dropHolder
  split
  · rfl
  · simp [claim_setClaim, hk]

/-- Only the element whose hold ends gets a holder, and only one that waited for it (R79). -/
theorem endHold_holder {s : State} {e k m : Nat} (hs : Lawful s) (hm : ((endHold e s).claim k).holder = some m) :
    k ≠ e ∧ (s.claim k).holder = some m ∨ k = e ∧ m ∈ (s.claim e).waiters := by
  rcases handover_holder (lawful_dropHolder hs e) hm with h | ⟨hk, h⟩
  · by_cases hk : k = e
    · rw [hk, dropHolder_holder] at h
      exact absurd h (by simp)
    · rw [dropHolder_claim_other hk] at h
      exact .inl ⟨hk, h⟩
  · rw [dropHolder_claim_waiters] at h
    exact .inr ⟨hk, h⟩

theorem endHold_waiters_sub {s : State} {e k m : Nat} (hs : Lawful s)
    (hm : m ∈ ((endHold e s).claim k).waiters) : m ∈ (s.claim k).waiters := by
  have h := handover_waiters_sub (lawful_dropHolder hs e) hm
  rwa [dropHolder_claim_waiters] at h

/-- Ending the holds of a slot that waits for nothing, element by element, leaves it none of them. -/
theorem endHolds_of_notWaiting (n : Nat) (l : List Nat) {s : State} (hs : Lawful s)
    (hwait : ∀ k, n ∉ (s.claim k).waiters) :
    (∀ k, n ∉ ((l.foldl (fun s e => endHoldOf n e s) s).claim k).waiters)
      ∧ ∀ k, (k ∈ l ∨ (s.claim k).holder ≠ some n) →
        ((l.foldl (fun s e => endHoldOf n e s) s).claim k).holder ≠ some n := by
  induction l generalizing s with
  | nil => exact ⟨hwait, by simp⟩
  | cons e l ih =>
    rw [List.foldl_cons]
    by_cases hholder : (s.claim e).holder = some n
    · have hend : endHoldOf n e s = endHold e s := by simp [endHoldOf, hholder]
      rw [hend]
      have hwait' k : n ∉ ((endHold e s).claim k).waiters := fun h => hwait k (endHold_waiters_sub hs h)
      obtain ⟨hw, hh⟩ := ih (lawful_endHold hs e) hwait'
      refine ⟨hw, fun k hk => hh k ?_⟩
      by_cases hkl : k ∈ l
      · exact .inl hkl
      · refine .inr fun h => ?_
        rcases endHold_holder hs h with ⟨hne, hold⟩ | ⟨_, hmem⟩
        · rcases hk with hk | hk
          · simp [hne, hkl] at hk
          · exact hk hold
        · exact hwait e hmem
    · have hend : endHoldOf n e s = s := by simp [endHoldOf, hholder]
      rw [hend]
      obtain ⟨hw, hh⟩ := ih hs hwait
      refine ⟨hw, fun k hk => hh k ?_⟩
      rcases hk with hk | hk
      · rcases List.mem_cons.mp hk with rfl | hk
        · exact .inr hholder
        · exact .inl hk
      · exact .inr hk

theorem holdsNothing_dropClaims {s : State} (hs : Lawful s) (n : Nat) : holdsNothing n (dropClaims n s) := by
  have hlists := lawful_leaveAllLists hs n
  obtain ⟨hwait, hhold⟩ := endHolds_of_notWaiting n elementNumbers hlists fun k h => by
    rw [leaveAllLists_claim] at h
    exact (hs.nodup k).not_mem_erase h
  have hholder e : ((dropClaims n s).claim e).holder ≠ some n := by
    by_cases he : 1 ≤ e ∧ e ≤ 32
    · exact hhold e (.inl (mem_elementNumbers.mpr he))
    · rw [claim_outside he]
      simp [emptyClaim]
  have hlaw := lawful_dropClaims hs n
  exact ⟨fun e => ⟨hholder e, hwait e⟩, (hlaw.holdCount n).trans (holds_eq_zero hholder),
    (hlaw.waitCount n).trans (waits_eq_zero hwait)⟩

-- The moves of the Roster

theorem SlotMove.counts {s : State} {x y : Slot} (h : SlotMove s x y) :
    y.holdCount = x.holdCount ∧ y.waitCount = x.waitCount
      ∨ y.holdCount = 0 ∧ y.waitCount = 0 ∧ y.state ≠ .admitted := by
  cases h with
  | registered => exact .inr ⟨rfl, rfl, by simp [registeredSlot]⟩
  | vacated => exact .inr ⟨rfl, rfl, by simp [vacantSlot]⟩
  | _ => exact .inl ⟨rfl, rfl⟩

theorem holds_setSlot (s : State) (n m : Nat) (y : Slot) : (s.setSlot n y).holds m = s.holds m := rfl

theorem waits_setSlot (s : State) (n m : Nat) (y : Slot) : (s.setSlot n y).waits m = s.waits m := rfl

/-- A slot record with its old counts, ADMITTED as long as it holds or waits, keeps the law. -/
theorem lawful_setSlot {s : State} (hs : Lawful s) {n : Nat} {y : Slot}
    (hhold : y.holdCount = (s.slot n).holdCount) (hwait : y.waitCount = (s.slot n).waitCount)
    (hstate : y.state = .admitted ∨ (∀ e, (s.claim e).holder ≠ some n ∧ n ∉ (s.claim e).waiters)) :
    Lawful (s.setSlot n y) := by
  have hslot k : ((s.setSlot n y).slot k).holdCount = (s.slot k).holdCount
      ∧ ((s.setSlot n y).slot k).waitCount = (s.slot k).waitCount := by
    rw [slot_setSlot]
    split
    · next h => simp [h.1, hhold, hwait]
    · simp
  have hadmitted {k : Nat} (hk : (s.slot k).state = .admitted)
      (huse : ∃ e, (s.claim e).holder = some k ∨ k ∈ (s.claim e).waiters) :
      ((s.setSlot n y).slot k).state = .admitted := by
    rw [slot_setSlot]
    split
    · next h =>
      obtain ⟨rfl, _⟩ := h
      rcases hstate with hstate | hnone
      · exact hstate
      · obtain ⟨e, huse⟩ := huse
        rcases huse with huse | huse
        · exact absurd huse (hnone e).1
        · exact absurd huse (hnone e).2
    · exact hk
  exact {
    holder_admitted := fun {e k} h => hadmitted (hs.holder_admitted h) ⟨e, .inl h⟩
    holder_notWaiting := fun h => hs.holder_notWaiting h
    waiter_admitted := fun {e k} h => hadmitted (hs.waiter_admitted h) ⟨e, .inr h⟩
    nodup := hs.nodup
    room := hs.room
    holdCount := fun k => by rw [(hslot k).1, hs.holdCount]; rfl
    waitCount := fun k => by rw [(hslot k).2, hs.waitCount]; rfl
    holds_le := hs.holds_le
    waits_le := hs.waits_le
    waits_of_two := hs.waits_of_two }

theorem lawful_rosterMove {s t : State} (h : RosterMove s t) (hs : Lawful s) : Lawful t := by
  cases h with
  | slot n y hmove hstate =>
    by_cases hadmitted : (s.slot n).state = .admitted
    · rcases hmove.counts with ⟨hhold, hwait⟩ | ⟨_, _, hnot⟩
      · exact lawful_setSlot hs hhold hwait (.inl (hstate hadmitted))
      · exact absurd (hstate hadmitted) hnot
    · have hnone e : (s.claim e).holder ≠ some n ∧ n ∉ (s.claim e).waiters :=
        ⟨fun h => hadmitted (hs.holder_admitted h), fun h => hadmitted (hs.waiter_admitted h)⟩
      have hholds : (s.slot n).holdCount = 0 := by rw [hs.holdCount, hs.holds_of_notAdmitted hadmitted]
      have hwaits : (s.slot n).waitCount = 0 := by rw [hs.waitCount, hs.waits_of_notAdmitted hadmitted]
      rcases hmove.counts with ⟨hhold, hwait⟩ | ⟨hhold, hwait, _⟩
      · exact lawful_setSlot hs hhold hwait (.inr hnone)
      · exact lawful_setSlot hs (hhold.trans hholds.symm) (hwait.trans hwaits.symm) (.inr hnone)
  | left n y hmove =>
    obtain ⟨hnone, hholds, hwaits⟩ := holdsNothing_dropClaims hs n
    rcases hmove.counts with ⟨hhold, hwait⟩ | ⟨hhold, hwait, _⟩
    · exact lawful_setSlot (lawful_dropClaims hs n) hhold hwait (.inr hnone)
    · exact lawful_setSlot (lawful_dropClaims hs n) (hhold.trans hholds.symm) (hwait.trans hwaits.symm) (.inr hnone)

-- The emptying (R90) and the clearing (R89)

/-- Counting down the wait counts of a list of slots. -/
theorem countWaits_slot (ws : List Nat) (s : State) (n : Nat) :
    (ws.foldl (fun s n => countWait n false s) s).slot n
      = { s.slot n with waitCount := (s.slot n).waitCount - ws.count n } := by
  induction ws generalizing s with
  | nil => rfl
  | cons w ws ih =>
    rw [List.foldl_cons, ih, List.count_cons]
    by_cases hn : n = w
    · subst hn
      by_cases hrange : 1 ≤ n ∧ n ≤ 24
      · simp [countWait, slot_modSlot, hrange, Nat.sub_sub, Nat.add_comm]
      · simp [slot_outside hrange, vacantSlot]
    · simp [countWait, slot_modSlot, hn, Ne.symm hn]

theorem countWaits_claim (ws : List Nat) (s : State) (e : Nat) :
    (ws.foldl (fun s n => countWait n false s) s).claim e = s.claim e :=
  foldl_keep (fun s => s.claim e) _ (fun s n => by simp) ws s

theorem emptyElement_claim (e k : Nat) (s : State) :
    (emptyElement e s).claim k = if k = e then emptyClaim else s.claim k := by
  unfold emptyElement
  rw [claim_setClaim]
  by_cases hk : k = e
  · by_cases he : 1 ≤ e ∧ e ≤ 32
    · simp [hk, he]
    · simp [hk, he, claim_outside he]
  · simp [hk, countWaits_claim, dropHolder_claim_other hk]

theorem emptyElement_slot_counts (e n : Nat) (s : State) :
    (emptyElement e s).slot n = { (dropHolder e s).slot n with
      waitCount := ((dropHolder e s).slot n).waitCount - (s.claim e).waiters.count n } := by
  unfold emptyElement
  exact countWaits_slot _ _ _

theorem lawful_emptyElement {s : State} (hs : Lawful s) (e : Nat) : Lawful (emptyElement e s) := by
  have hd := lawful_dropHolder hs e
  have hholders k : ((emptyElement e s).claim k).holder = ((dropHolder e s).claim k).holder := by
    rw [emptyElement_claim]
    split
    · next h => rw [h, dropHolder_holder]; rfl
    · next h => rw [dropHolder_claim_other h]
  have hmem {k m : Nat} : m ∈ ((emptyElement e s).claim k).waiters ↔ k ≠ e ∧ m ∈ (s.claim k).waiters := by
    rw [emptyElement_claim]
    split
    · next h => simp [h, emptyClaim]
    · next h => simp [h]
  have hwaits m : (emptyElement e s).waits m
      = (dropHolder e s).waits m - (s.claim e).waiters.count m := by
    by_cases he : 1 ≤ e ∧ e ≤ 32
    · have hupdate := waits_update he (s := dropHolder e s) (t := emptyElement e s)
        (fun k hk => by rw [emptyElement_claim, if_neg hk, dropHolder_claim_other hk]) m
      simp only [dropHolder_claim_waiters, hmem, ne_eq, not_true, false_and, if_false, Nat.add_zero] at hupdate
      rw [List.Nodup.count (hs.nodup e)]
      omega
    · rw [claim_outside he]
      refine waits_congr (fun k => ?_) m
      rw [emptyElement_claim, dropHolder_claim_waiters]
      split
      · next h => rw [h, claim_outside he]
      · rfl
  exact {
    holder_admitted := fun h => by simpa using hd.holder_admitted (hholders _ ▸ h)
    holder_notWaiting := fun h hm =>
      hd.holder_notWaiting (hholders _ ▸ h) (by rw [dropHolder_claim_waiters]; exact (hmem.mp hm).2)
    waiter_admitted := fun h => by simpa using hs.waiter_admitted (hmem.mp h).2
    nodup := fun k => by
      rw [emptyElement_claim]
      split
      · exact List.nodup_nil
      · exact hs.nodup k
    room := fun k => by
      rw [emptyElement_claim]
      split
      · simp [emptyClaim]
      · exact hs.room k
    holdCount := fun m => by rw [emptyElement_slot_counts, holds_congr hholders, ← hd.holdCount]
    waitCount := fun m => by rw [emptyElement_slot_counts, hwaits, ← hd.waitCount]
    holds_le := fun m => by rw [holds_congr hholders]; exact hd.holds_le m
    waits_le := fun m => by rw [hwaits]; exact (Nat.sub_le _ _).trans (hd.waits_le m)
    waits_of_two := fun m htwo => by
      rw [hwaits, hd.waits_of_two m (holds_congr hholders m ▸ htwo), Nat.zero_sub] }

theorem clearElement_claim (e k : Nat) (s : State) :
    (clearElement e s).claim k = if k = e then emptyClaim else s.claim k := by
  have hset : (s.setClaim e emptyClaim).claim k = if k = e then emptyClaim else s.claim k := by
    rw [claim_setClaim]
    by_cases hk : k = e
    · by_cases he : 1 ≤ e ∧ e ≤ 32
      · simp [hk, he]
      · simp [hk, he, claim_outside he]
    · simp [hk]
  unfold clearElement
  dsimp only
  split
  · simpa [clearAccumulator] using hset
  · simpa [clearAccumulator] using hset

theorem clearElements_claim (l : List Nat) (s : State) (k : Nat) :
    (l.foldl (fun s e => clearElement e s) s).claim k = if k ∈ l then emptyClaim else s.claim k := by
  induction l generalizing s with
  | nil => rfl
  | cons e l ih =>
    rw [List.foldl_cons, ih, clearElement_claim]
    by_cases hk : k ∈ l <;> by_cases he : k = e <;> simp [hk, he]

theorem clearClaims_claim (s : State) (e : Nat) : (clearClaims s).claim e = emptyClaim := by
  unfold clearClaims
  rw [clearElements_claim]
  split
  · rfl
  · next h => exact claim_outside (fun he => h (mem_elementNumbers.mpr he)) s

theorem clearClaims_slot_counts (s : State) (n : Nat) :
    (clearClaims s).slot n = { s.slot n with holdCount := 0, waitCount := 0 } := by
  unfold clearClaims
  have hfold (t : State) : (elementNumbers.foldl (fun s e => clearElement e s) t).slot n = t.slot n :=
    foldl_keep (fun s => s.slot n) _ (fun s e => by simp) elementNumbers t
  rw [hfold]
  exact at1_mapTable _ _ _ _ _ rfl

theorem lawful_of_empty {s : State} (hclaims : ∀ e, s.claim e = emptyClaim)
    (hcounts : ∀ n, (s.slot n).holdCount = 0 ∧ (s.slot n).waitCount = 0) : Lawful s := by
  have hholds n : s.holds n = 0 := holds_eq_zero fun e => by simp [hclaims, emptyClaim]
  have hwaits n : s.waits n = 0 := waits_eq_zero fun e => by simp [hclaims, emptyClaim]
  constructor <;> simp [hclaims, hcounts, hholds, hwaits, emptyClaim]

-- Time and start-ups

/-- A tower that accrues gains a microsecond (R137). -/
def accrue (s : State) (e : Nat) : State :=
  if s.accrues e then s.setElemScore e { s.elemScore e with accumulator := (s.elemScore e).accumulator + 1 } else s

/-- The state with other score states of the elements. -/
def State.withScores (x : Vector ElementScore 32) (s : State) : State := { s with score := { s.score with elements := x } }

theorem withScores_accrue (x : Vector ElementScore 32) (s : State) (e : Nat) :
    (accrue s e).withScores x = s.withScores x := by
  unfold accrue
  split <;> rfl

/-- The accrual of the towers reaches the elements' score states alone (R137). -/
theorem withScores_tickTowers (x : Vector ElementScore 32) (s : State) :
    (tickTowers s).withScores x = s.withScores x :=
  foldl_keep (State.withScores x) accrue (withScores_accrue x) elementNumbers s

@[simp] theorem tickTowers_frame (s : State) :
    (tickTowers s).clock = s.clock ∧ (tickTowers s).roster = s.roster ∧ (tickTowers s).table = s.table
      ∧ (tickTowers s).claims = s.claims ∧ (tickTowers s).bus = s.bus ∧ (tickTowers s).lights = s.lights
      ∧ (tickTowers s).score.alliances = s.score.alliances ∧ (tickTowers s).stop = s.stop
      ∧ (tickTowers s).link = s.link ∧ (tickTowers s).console = s.console ∧ (tickTowers s).attention = s.attention
      ∧ (tickTowers s).settings = s.settings ∧ (tickTowers s).store = s.store ∧ (tickTowers s).uptime = s.uptime
      ∧ (tickTowers s).resetAsserted = s.resetAsserted ∧ (tickTowers s).freeCount = s.freeCount
      ∧ (tickTowers s).meetings = s.meetings ∧ (tickTowers s).pending = s.pending := by
  have h := withScores_tickTowers s.score.elements s
  generalize tickTowers s = t at h ⊢
  cases t
  cases s
  simp_all [State.withScores]

theorem passTime_claim (s : State) (e : Nat) : (passTime s).claim e = tickClaim s.driveTime (s.claim e) := by
  have htick : tickClaim s.driveTime emptyClaim = emptyClaim := by simp [tickClaim, emptyClaim, tickIf, tickTimer]
  simp only [State.claim, passTime, tickTowers_frame]
  exact at1_mapTable _ _ _ _ _ htick

theorem passTime_slot (s : State) (n : Nat) : (passTime s).slot n = tickSlot s.matchTime (s.slot n) := by
  simp only [State.slot, passTime, tickTowers_frame]
  exact at1_mapTable _ _ _ _ _ rfl

theorem startUpWith_claim (g : Settings) (defs : Vector ElementDef 32) (flags : FlagSet) (completes : Bool) (s : State)
    (e : Nat) : (startUpWith g defs flags completes s).claim e = emptyClaim := by
  simp [State.claim, startUpWith, resetClaims]

theorem startUpWith_slot (g : Settings) (defs : Vector ElementDef 32) (flags : FlagSet) (completes : Bool) (s : State)
    (n : Nat) : (startUpWith g defs flags completes s).slot n = vacantSlot := by
  simp [State.slot, startUpWith, resetRoster]

-- Every move keeps the law

theorem lawful_elementMove {s t : State} (h : ElementMove s t) (hs : Lawful s) : Lawful t := by
  cases h with
  | withdrawn e => exact lawful_emptyElement (s := s.modRun e _) (hs.congr_claims_roster rfl rfl) e
  | _ => exact hs.congr_claims_roster (by simp) (by simp)

theorem lawful_moves {s t : State} (h : Moves s t) (hs : Lawful s) : Lawful t :=
  kept_of_moves (R := ElementMove) (fun _ _ => lawful_elementMove) h hs

theorem Off.sameClaims {e : Nat} {s u : State} (h : Off e s u) : u.claims = s.claims ∧ u.roster = s.roster := by
  cases h <;> exact ⟨rfl, rfl⟩

theorem RawOff.sameClaims {s u : State} (h : RawOff s u) : u.claims = s.claims ∧ u.roster = s.roster := by
  cases h <;> exact ⟨rfl, rfl⟩

theorem lawful_endActuation {s : State} (hs : Lawful s) (e : Nat) (o : ActOutcome) : Lawful (endActuation e o s) :=
  lawful_moves (moves_endActuation e o s) (hs.congr_claims_roster rfl rfl)

theorem lawful_event {s t : State} (h : Event s t) (hs : Lawful s) : Lawful t := by
  cases h with
  | element h => exact lawful_elementMove h hs
  | roster h => exact lawful_rosterMove h hs
  | closed _ h _ =>
    exact kept_of_moves (R := RosterMove) (fun _ _ => lawful_rosterMove) h (hs.congr_claims_roster rfl rfl)
  | ended c h => exact lawful_of_empty (clearClaims_claim _) (by simp [clearClaims_slot_counts])
  | startedUp g defs flags completes asserted h =>
    exact lawful_of_empty (startUpWith_claim _ _ _ _ _) (by simp [startUpWith_slot, vacantSlot])
  | timePassed =>
    exact hs.congr (by simp [passTime_claim, tickClaim]) (by simp [passTime_claim, tickClaim])
      (by simp [passTime_slot, tickSlot]) (by simp [passTime_slot, tickSlot]) (by simp [passTime_slot, tickSlot])
  | granted n e hopen hholder hwaiters hholds =>
    obtain ⟨hlow, hhigh, _, _, _, hadmitted, _⟩ := hopen
    exact lawful_becomeHolder hs ⟨hlow, hhigh⟩ hadmitted hholder hwaiters hholds
  | joined n e h hopen hholder hother hwaiters hholds hwaits hroom =>
    obtain ⟨hlow, hhigh, _, _, _, hadmitted, _⟩ := hopen
    exact lawful_joinList hs ⟨hlow, hhigh⟩ hadmitted (by simpa [hholder] using hother) hwaiters hholds hwaits hroom
  | leftList n e => exact lawful_leaveList hs n e
  | holdEnded h e withBar a hholder =>
    have hunheld : Lawful (unheld h e withBar s) := by
      unfold unheld
      split
      · exact lawful_bar (lawful_dropHolder hs e) h e
      · exact lawful_dropHolder hs e
    have hnone : ((unheld h e withBar s).claim e).holder = none := by
      have he := element_range_of_holder hholder
      unfold unheld
      split
      · rw [bar_claim_same he]
        exact dropHolder_holder e s
      · exact dropHolder_holder e s
    have hflagged : Lawful { unheld h e withBar s with attention := a } := hunheld.congr_claims_roster rfl rfl
    exact lawful_handover hflagged hnone
  | unbarred e =>
    have hclaim k : ((s.setClaim e { s.claim e with barred := none }).claim k).holder = (s.claim k).holder
        ∧ ((s.setClaim e { s.claim e with barred := none }).claim k).waiters = (s.claim k).waiters := by
      rw [claim_setClaim]
      split
      · next h => simp [h.1]
      · simp
    exact hs.congr (fun k => (hclaim k).1) (fun k => (hclaim k).2) (fun _ => rfl) (fun _ => rfl) (fun _ => rfl)
  | actuationStarted e argument t timer hcurrent hrequest hw =>
    exact (lawful_moves hw (hs.congr_claims_roster rfl rfl)).congr_claims_roster rfl rfl
  | actuationEnded e o hu hw =>
    obtain ⟨hclaims, hroster⟩ := hu.sameClaims
    exact lawful_endActuation (lawful_moves hw (hs.congr_claims_roster hclaims hroster)) e o
  | passArrived p _ hu hw =>
    obtain ⟨hclaims, hroster⟩ := hu.sameClaims
    exact (lawful_moves hw (hs.congr_claims_roster hclaims hroster)).congr_claims_roster rfl rfl
  | strangers l h => exact hs.congr (fun _ => rfl) (fun _ => rfl) (fun _ => rfl) (fun _ => rfl) (fun _ => rfl)
  | _ => exact hs.congr_claims_roster (by simp) (by simp)

/-- Settles O54, by the moves of a step: each keeps the law of holders, waiters and counts. -/
theorem claimLawKeptByEveryStep : Obligations.ClaimLawKeptByEveryStep := fun s t hs h =>
  (lawfulClaims_iff t).mpr (kept_of_step (fun _ _ => lawful_event) ((lawfulClaims_iff s).mp hs) h)

end Sys2Proof.Machine
end

section
/-! PROOFS. The operations on claims as writes of claim states, counts and scores with recomputations of lights between
them: what they leave alone on the bus and the lights follows once for all. -/

namespace Sys2Proof.Machine

open Relation (ReflTransGen)

/-- A step inside an operation on claims: records are written, or a light is recomputed. -/
inductive ClaimStep (s : State) : State → Prop
  | written (claims : Vector Claim 32) (slots : Vector Slot 24) (elements : Vector ElementScore 32) :
    ClaimStep s { s with claims := claims, roster := { s.roster with slots := slots },
                         score := { s.score with elements := elements } }
  | recomputed (e : Nat) : ClaimStep s (recompute e s)

/-- Steps inside operations on claims, one after another. -/
abbrev ClaimSteps : State → State → Prop := ReflTransGen ClaimStep

theorem claimSteps_written {s : State} (claims : Vector Claim 32) (slots : Vector Slot 24)
    (elements : Vector ElementScore 32) : ClaimSteps s { s with
      claims := claims, roster := { s.roster with slots := slots }, score := { s.score with elements := elements } } :=
  .single (.written claims slots elements)

theorem claimSteps_recompute_of {s t : State} (h : ClaimSteps s t) (e : Nat) : ClaimSteps s (recompute e t) :=
  h.tail (.recomputed e)

theorem claimSteps_setClaim (e : Nat) (c : Claim) (s : State) : ClaimSteps s (s.setClaim e c) :=
  claimSteps_written _ _ _

theorem claimSteps_countWait (n : Nat) (up : Bool) (s : State) : ClaimSteps s (countWait n up s) :=
  claimSteps_written _ _ _

theorem claimSteps_clearAccumulator (e : Nat) (s : State) : ClaimSteps s (clearAccumulator e s) :=
  claimSteps_written _ _ _

theorem claimSteps_leaveList (n e : Nat) (s : State) : ClaimSteps s (leaveList n e s) := by
  unfold leaveList
  split
  · exact claimSteps_recompute_of (claimSteps_written _ _ _) e
  · exact .refl

theorem claimSteps_modSlot (n : Nat) (f : Slot → Slot) (s : State) : ClaimSteps s (s.modSlot n f) :=
  claimSteps_written _ _ _

theorem claimSteps_leaveAllLists (n : Nat) (s : State) : ClaimSteps s (leaveAllLists n s) := by
  have hleft : ClaimSteps s (elementNumbers.foldl (fun s e => leaveList n e s) s) :=
    foldl_inv (ClaimSteps s) _ (fun t e h => h.trans (claimSteps_leaveList n e t)) elementNumbers s .refl
  exact hleft.trans (claimSteps_modSlot n _ _)

theorem claimSteps_becomeHolder (n e : Nat) (s : State) : ClaimSteps s (becomeHolder n e s) := by
  have hbegun : ClaimSteps s (beginHold n e s) := claimSteps_recompute_of (claimSteps_written _ _ _) e
  have heq : becomeHolder n e s = if ((beginHold n e s).slot n).holdCount = 2 then leaveAllLists n (beginHold n e s)
      else beginHold n e s := rfl
  rw [heq]
  split
  · exact hbegun.trans (claimSteps_leaveAllLists _ _)
  · exact hbegun

theorem claimSteps_handover (e : Nat) (s : State) : ClaimSteps s (handover e s) := by
  unfold handover
  split
  · exact claimSteps_recompute_of (claimSteps_clearAccumulator _ _) e
  · exact (claimSteps_written _ _ _).trans (claimSteps_becomeHolder _ _ _)

theorem claimSteps_dropHolder (e : Nat) (s : State) : ClaimSteps s (dropHolder e s) := by
  unfold dropHolder
  split
  · exact .refl
  · exact claimSteps_written _ _ _

theorem claimSteps_bar (n e : Nat) (s : State) : ClaimSteps s (bar n e s) := by
  unfold bar
  split
  · exact .refl
  · exact claimSteps_setClaim _ _ _

theorem claimSteps_unheld (h e : Nat) (withBar : Bool) (s : State) : ClaimSteps s (unheld h e withBar s) := by
  unfold unheld
  split
  · exact (claimSteps_dropHolder _ _).trans (claimSteps_bar _ _ _)
  · exact claimSteps_dropHolder _ _

theorem claimSteps_joinList (n e : Nat) (s : State) : ClaimSteps s (joinList n e s) :=
  claimSteps_recompute_of (claimSteps_written _ _ _) e

theorem claimSteps_dropClaims (n : Nat) (s : State) : ClaimSteps s (dropClaims n s) := by
  refine foldl_inv (ClaimSteps s) _ (fun t e h => ?_) elementNumbers _ (claimSteps_leaveAllLists n s)
  unfold endHoldOf
  split
  · exact (h.trans (claimSteps_dropHolder _ _)).trans (claimSteps_handover _ _)
  · exact h

theorem claimSteps_emptyElement (e : Nat) (s : State) : ClaimSteps s (emptyElement e s) :=
  (foldl_inv (ClaimSteps s) _ (fun t n h => h.trans (claimSteps_countWait n false t)) _ _
    (claimSteps_dropHolder e s)).trans (claimSteps_setClaim _ _ _)

theorem claimSteps_clearElement (e : Nat) (s : State) : ClaimSteps s (clearElement e s) := by
  unfold clearElement
  dsimp only
  split
  · exact claimSteps_recompute_of (claimSteps_written _ _ _) e
  · exact claimSteps_written _ _ _

theorem claimSteps_clearClaims (s : State) : ClaimSteps s (clearClaims s) := by
  unfold clearClaims
  have hcounts := claimSteps_written (s := s) s.claims
    (mapTable (fun x => { x with holdCount := 0, waitCount := 0 }) s.roster.slots) s.score.elements
  exact foldl_inv (ClaimSteps s) _ (fun t e h => h.trans (claimSteps_clearElement e t)) elementNumbers _ hcounts

theorem sameBus_claimStep {s t : State} (h : ClaimStep s t) : SameBus s t := by
  cases h with
  | written => exact ⟨rfl, rfl, rfl, rfl⟩
  | recomputed e => exact (ElementMove.recomputed e).sameBus

theorem sameBus_claimSteps {s t : State} (h : ClaimSteps s t) : SameBus s t := by
  induction h with
  | refl => exact .refl s
  | tail _ h ih => exact ih.trans (sameBus_claimStep h)

end Sys2Proof.Machine
end

section
/-! PROOFS. The law of owed lights and queued LIGHT entries (R97, R116, R120, R121) under every move. -/

namespace Sys2Proof.Machine

open Relation (ReflTransGen)

/-- The LIGHT entries of a queue for an element. -/
def lightsFor (e : Nat) (q : List Entry) : List Entry := q.filter (·.isLightFor e)

theorem lightQueued_eq_false_iff (s : State) (e : Nat) : s.lightQueued e = false ↔ lightsFor e s.bus.queue = [] := by
  simp [State.lightQueued, lightsFor]

theorem lightsFor_append (e : Nat) (q r : List Entry) : lightsFor e (q ++ r) = lightsFor e q ++ lightsFor e r :=
  List.filter_append q r

theorem lightsFor_lightEntry (e k : Nat) (d : Display) :
    lightsFor k [lightEntry e d] = if e = k then [lightEntry e d] else [] := by
  by_cases h : e = k <;> simp [lightsFor, lightEntry, Entry.isLightFor, h]

/-- The replacement of an entry's contents leaves each entry its element and kind (R97). -/
theorem length_lightsFor_replaceLight (e k : Nat) (d : Display) (q : List Entry) :
    (lightsFor k (replaceLight e d q)).length = (lightsFor k q).length := by
  have hfor (x : Entry) : (if x.isLightFor e then { x with arg := .light d } else x).isLightFor k = x.isLightFor k := by
    split
    · next h =>
      unfold Entry.isLightFor at h ⊢
      split at h <;> simp_all
    · rfl
  simp only [lightsFor, replaceLight, List.filter_map, List.length_map, Function.comp_def, hfor]

/-- The law reads which lights are owed, what they show and have shown, which elements are defined and how many LIGHT
entries stand in the queue; fewer entries and forgotten displays do no harm. -/
theorem lightLaw_of_less {s t : State} (hs : lightLaw s)
    (hlight : ∀ e, (t.light e).owed = true → (s.light e).owed = true ∧ (t.light e).computed = (s.light e).computed
      ∧ ((t.light e).issued = (s.light e).issued ∨ (t.light e).issued = none))
    (hdefined : ∀ e, t.defined e = s.defined e)
    (hqueue : ∀ e, (lightsFor e t.bus.queue).length ≤ (lightsFor e s.bus.queue).length) : lightLaw t := by
  intro e
  obtain ⟨howed, hone⟩ := hs e
  refine ⟨fun h => ?_, (hqueue e).trans hone⟩
  obtain ⟨hold, hcomputed, hissued⟩ := hlight e h
  obtain ⟨hd, hdiffer, hnone⟩ := howed hold
  rw [lightQueued_eq_false_iff] at hnone ⊢
  refine ⟨hdefined e ▸ hd, ?_, ?_⟩
  · rcases hissued with hissued | hissued
    · rwa [hissued, hcomputed]
    · simp [hissued]
  · have := hqueue e
    rw [hnone] at this
    exact List.length_eq_zero_iff.mp (Nat.le_zero.mp this)

theorem lightLaw_of_same {s t : State} (hs : lightLaw s) (hlights : t.lights = s.lights)
    (hqueue : t.bus.queue = s.bus.queue) (hdefs : t.table.defs = s.table.defs) : lightLaw t := by
  have hlight e : t.light e = s.light e := by simp only [State.light, hlights]
  exact lightLaw_of_less hs (fun e h => by rw [hlight] at h ⊢; exact ⟨h, rfl, .inl rfl⟩)
    (fun e => by simp only [State.defined, State.elemDef, hdefs]) (fun e => by rw [hqueue])

/-- An entry appended for an element that has none, whose light is then owed no longer. -/
theorem lightLaw_appendLight {s : State} (hs : lightLaw s) {e : Nat} (he : 1 ≤ e ∧ e ≤ 32)
    (hnone : s.lightQueued e = false) {l : Light} (hl : l.owed = false) (d : Display) :
    lightLaw ((s.setQueue (s.bus.queue ++ [lightEntry e d])).setLight e l) := by
  rw [lightQueued_eq_false_iff] at hnone
  intro k
  have happend : lightsFor k (s.bus.queue ++ [lightEntry e d])
      = lightsFor k s.bus.queue ++ if e = k then [lightEntry e d] else [] := by
    rw [lightsFor_append, lightsFor_lightEntry]
  obtain ⟨howed, hone⟩ := hs k
  refine ⟨fun h => ?_, (congrArg List.length happend).trans_le ?_⟩
  · rw [light_setLight] at h ⊢
    split at h
    · simp [hl] at h
    · next hk =>
      have hne : e ≠ k := fun heq => hk ⟨heq.symm, he⟩
      obtain ⟨hd', hdiffer, hnone'⟩ := howed h
      rw [lightQueued_eq_false_iff] at hnone' ⊢
      exact ⟨by simpa using hd', by simpa [hk] using hdiffer, happend.trans (by simp [hnone', hne])⟩
  · by_cases hk : e = k
    · subst hk
      simp [hnone]
    · rw [if_neg hk, List.append_nil]
      exact hone

/-- An issuing by the cases of R120, of a record that is owed as the element's own is. -/
theorem lightLaw_issueLight {s : State} (hs : lightLaw s) {e : Nat} (hd : s.defined e = true) {l : Light}
    (hl : l.owed = (s.light e).owed) : lightLaw (issueLight e l s) := by
  have he := element_range_of_defined hd
  unfold issueLight
  split_ifs with hissued hqueued hroom
  · refine lightLaw_of_less hs (fun k h => ?_) (by simp) (by simp)
    rw [light_setLight] at h ⊢
    split at h
    · simp at h
    · next hk => simpa [hk] using h
  · intro k
    have hlength := length_lightsFor_replaceLight e k l.computed s.bus.queue
    refine ⟨fun h => ?_, hlength.trans_le (hs k).2⟩
    rw [light_setLight] at h ⊢
    split at h
    · next hk =>
      obtain ⟨rfl, _⟩ := hk
      obtain ⟨_, _, hnone⟩ := (hs k).1 (hl ▸ h)
      simp [hnone] at hqueued
    · next hk =>
      obtain ⟨hd', hdiffer, hnone⟩ := (hs k).1 h
      rw [lightQueued_eq_false_iff] at hnone ⊢
      rw [hnone] at hlength
      exact ⟨by simpa using hd', by simpa [hk] using hdiffer, List.length_eq_zero_iff.mp hlength⟩
  · exact lightLaw_appendLight hs he (by simpa using hqueued) rfl _
  · intro k
    refine ⟨fun h => ?_, (hs k).2⟩
    rw [light_setLight] at h ⊢
    by_cases hk : k = e
    · subst hk
      simp only [he, and_self, if_true]
      exact ⟨by simpa using hd, hissued, by simpa [State.lightQueued] using hqueued⟩
    · simp only [hk, false_and, if_false] at h ⊢
      exact (hs k).1 h

theorem lightLaw_recompute {s : State} (hs : lightLaw s) (e : Nat) : lightLaw (recompute e s) := by
  unfold recompute
  split
  · next hd => exact lightLaw_issueLight hs hd rfl
  · exact hs

/-- A place that is taken goes to an owed light, for which no entry stands in the queue (R121). -/
theorem lightLaw_servePlace {s : State} (hs : lightLaw s) : lightLaw (servePlace s) := by
  rcases servePlace_cases s with h | ⟨e, hlowest, _, h⟩ <;> rw [h]
  · exact hs
  · have howed : (s.light e).owed = true := by simpa using List.find?_some hlowest
    obtain ⟨hd, _, hnone⟩ := (hs e).1 howed
    exact lightLaw_appendLight hs (element_range_of_defined hd) hnone rfl _

theorem lightLaw_claimStep {s t : State} (h : ClaimStep s t) (hs : lightLaw s) : lightLaw t := by
  cases h with
  | written => exact lightLaw_of_same hs rfl rfl rfl
  | recomputed e => exact lightLaw_recompute hs e

theorem lightLaw_claimSteps {s t : State} (h : ClaimSteps s t) (hs : lightLaw s) : lightLaw t :=
  kept_of_moves (R := ClaimStep) (fun _ _ => lightLaw_claimStep) h hs

theorem lightLaw_setLight_of_kept {s : State} (hs : lightLaw s) {e : Nat} {l : Light}
    (howed : l.owed = (s.light e).owed) (hcomputed : l.computed = (s.light e).computed)
    (hissued : l.issued = (s.light e).issued ∨ l.issued = none) : lightLaw (s.setLight e l) := by
  refine lightLaw_of_less hs (fun k h => ?_) (by simp) (fun _ => le_rfl)
  rw [light_setLight] at h ⊢
  split at h
  · next hk =>
    obtain ⟨rfl, hrange⟩ := hk
    simpa [hrange, ← howed, ← hcomputed, h] using hissued
  · next hk => simpa [hk] using h

theorem lightLaw_elementMove {s t : State} (h : ElementMove s t) (hs : lightLaw s) : lightLaw t := by
  cases h with
  | recomputed e => exact lightLaw_recompute hs e
  | placeServed => exact lightLaw_servePlace hs
  | pulsed e pulse credited => exact lightLaw_setLight_of_kept hs rfl rfl (.inl rfl)
  | lightFailed e =>
    unfold lightFailed
    split
    · exact lightLaw_setLight_of_kept hs rfl rfl (.inr rfl)
    · exact hs
  | withdrawn e => exact lightLaw_claimSteps (claimSteps_emptyElement e _) (lightLaw_of_same hs rfl rfl rfl)
  | _ => exact lightLaw_of_same hs (by simp) (by simp) (by simp)

theorem lightLaw_moves {s t : State} (h : Moves s t) (hs : lightLaw s) : lightLaw t :=
  kept_of_moves (R := ElementMove) (fun _ _ => lightLaw_elementMove) h hs

theorem lightLaw_setSlot {s : State} (hs : lightLaw s) (n : Nat) (y : Slot) : lightLaw (s.setSlot n y) :=
  lightLaw_of_same hs rfl rfl rfl

theorem lightLaw_rosterMove {s t : State} (h : RosterMove s t) (hs : lightLaw s) : lightLaw t := by
  cases h with
  | slot n y => exact lightLaw_setSlot hs n y
  | left n y => exact lightLaw_setSlot (lightLaw_claimSteps (claimSteps_dropClaims n s) hs) n y

/-- A definition replaces the light of an element that becomes undefined, and recomputes that of a defined one (R119). -/
theorem lightLaw_define {s : State} (hs : lightLaw s) (e : Nat) (d : ElementDef) : lightLaw (define e d s) := by
  have hdefined k : ((s.setDef e d).setRun e (freshRun d)).defined k
      = if k = e ∧ 1 ≤ e ∧ e ≤ 32 then d.kind != .none else s.defined k := by
    simp only [State.defined, setRun_reads, elemDef_setDef]
    split <;> rfl
  have hscored {t : State} (ht : lightLaw t) : lightLaw (defineScore e t) := lightLaw_of_same ht (by simp) (by simp) (by simp)
  unfold define
  dsimp only
  refine hscored ?_
  split
  · next hkind =>
    intro k
    refine ⟨fun h => ?_, (hs k).2⟩
    simp only [clearLight, light_setLight] at h ⊢
    split at h
    · simp [resetLight] at h
    · next hk =>
      simp only [hk, if_false]
      have hd := (hs k).1 h
      have hsame : (clearLight e ((s.setDef e d).setRun e (freshRun d))).defined k = s.defined k := by
        simpa [hk] using hdefined k
      exact ⟨hsame.trans hd.1, hd.2⟩
  · next hkind =>
    have hwritten : lightLaw ((s.setDef e d).setRun e (freshRun d)) := by
      refine fun k => ⟨fun h => ?_, (hs k).2⟩
      obtain ⟨hd, hrest⟩ := (hs k).1 h
      refine ⟨?_, hrest⟩
      rw [hdefined]
      split
      · simpa using hkind
      · exact hd
    exact lightLaw_recompute hwritten e

theorem lightLaw_recomputeAll {s : State} (hs : lightLaw s) (es : List Nat) : lightLaw (recomputeAll es s) :=
  foldl_inv lightLaw _ (fun _ e ht => lightLaw_recompute ht e) es s hs

theorem lightLaw_startUpWith (g : Settings) (defs : Vector ElementDef 32) (flags : FlagSet) (completes : Bool)
    (s : State) : lightLaw (startUpWith g defs flags completes s) := by
  unfold startUpWith
  refine lightLaw_recomputeAll (fun e => ⟨fun h => ?_, ?_⟩) elementNumbers
  · simp [State.light, resetLight] at h
  · simp [resetBus]

theorem lightLaw_passTime {s : State} (hs : lightLaw s) : lightLaw (passTime s) := by
  have hlight e : (passTime s).light e = { s.light e with pulse := tickTimer (s.light e).pulse } := by
    simp only [State.light, passTime, tickTowers_frame]
    exact at1_mapTable _ _ _ _ _ rfl
  refine lightLaw_of_less hs (fun e h => ?_) (fun e => ?_) (fun e => ?_)
  · rw [hlight] at h ⊢
    exact ⟨h, rfl, .inl rfl⟩
  · simp [State.defined, State.elemDef, passTime]
  · simp [passTime, tickBus]

theorem lightLaw_of_sublist {s t : State} (hs : lightLaw s) (hlights : t.lights = s.lights)
    (hqueue : List.Sublist t.bus.queue s.bus.queue) (hdefs : t.table.defs = s.table.defs) : lightLaw t := by
  have hlight e : t.light e = s.light e := by simp only [State.light, hlights]
  exact lightLaw_of_less hs (fun e h => by rw [hlight] at h ⊢; exact ⟨h, rfl, .inl rfl⟩)
    (fun e => by simp only [State.defined, State.elemDef, hdefs]) (fun e => (hqueue.filter _).length_le)

/-- An entry of another kind joins the queue (R97). -/
theorem lightLaw_append {s t : State} (hs : lightLaw s) {x : Entry} (hx : ∀ e, x.isLightFor e = false)
    (hlights : t.lights = s.lights) (hqueue : t.bus.queue = s.bus.queue ++ [x]) (hdefs : t.table.defs = s.table.defs) :
    lightLaw t := by
  have hlight e : t.light e = s.light e := by simp only [State.light, hlights]
  refine lightLaw_of_less hs (fun e h => by rw [hlight] at h ⊢; exact ⟨h, rfl, .inl rfl⟩)
    (fun e => by simp only [State.defined, State.elemDef, hdefs]) (fun e => ?_)
  rw [hqueue, lightsFor_append]
  simp [lightsFor, hx]

theorem Off.lightLaw {e : Nat} {s u : State} (h : Off e s u) (hs : lightLaw s) : lightLaw u := by
  cases h with
  | inFlight => exact hs
  | answered => exact lightLaw_of_same hs rfl rfl rfl
  | discarded x => exact lightLaw_of_sublist hs rfl List.erase_sublist rfl

theorem RawOff.lightLaw {s u : State} (h : RawOff s u) (hs : lightLaw s) : lightLaw u := by
  cases h with
  | answered => exact lightLaw_of_same hs rfl rfl rfl
  | discarded x => exact lightLaw_of_sublist hs rfl List.erase_sublist rfl

theorem lightLaw_event {s t : State} (h : Event s t) (hs : lightLaw s) : lightLaw t := by
  cases h with
  | element h => exact lightLaw_elementMove h hs
  | roster h => exact lightLaw_rosterMove h hs
  | closed _ h _ =>
    exact kept_of_moves (R := RosterMove) (fun _ _ => lightLaw_rosterMove) h (lightLaw_of_same hs rfl rfl rfl)
  | ended c h => exact lightLaw_claimSteps (claimSteps_clearClaims _) (lightLaw_of_same hs rfl rfl rfl)
  | startedUp g defs flags completes asserted h => exact lightLaw_startUpWith g defs flags completes _
  | timePassed => exact lightLaw_passTime hs
  | elementDefined e d => exact lightLaw_define hs e d
  | granted n e => exact lightLaw_claimSteps (claimSteps_becomeHolder n e s) hs
  | joined n e => exact lightLaw_claimSteps (claimSteps_joinList n e s) hs
  | leftList n e => exact lightLaw_claimSteps (claimSteps_leaveList n e s) hs
  | holdEnded h e withBar a =>
    have hunheld := lightLaw_claimSteps (claimSteps_unheld h e withBar s) hs
    have hflagged : lightLaw { unheld h e withBar s with attention := a } := lightLaw_of_same hunheld rfl rfl rfl
    exact lightLaw_claimSteps (claimSteps_handover e _) hflagged
  | entrySent x rest _ hq =>
    have hrest : List.Sublist rest s.bus.queue := by simp [hq]
    exact lightLaw_of_sublist hs rfl hrest rfl
  | actuationQueued e argument o c =>
    exact lightLaw_append (x := { element := e, arg := .actuate argument, origin := o, charge := c }) hs (fun _ => rfl)
      rfl rfl rfl
  | rawQueued x hx =>
    refine lightLaw_append (x := x) hs (fun e => ?_) rfl rfl rfl
    unfold Entry.isRaw at hx
    unfold Entry.isLightFor
    split at hx <;> simp_all
  | actuationStarted e argument t timer hcurrent hrequest hw =>
    exact lightLaw_of_same (lightLaw_moves hw (lightLaw_of_same hs rfl rfl rfl)) rfl rfl rfl
  | actuationEnded e o hu hw =>
    exact lightLaw_moves (moves_endActuation e o _) (lightLaw_of_same (lightLaw_moves hw (hu.lightLaw hs)) rfl rfl rfl)
  | passArrived p _ hu hw => exact lightLaw_of_same (lightLaw_moves hw (hu.lightLaw hs)) rfl rfl rfl
  | _ => exact lightLaw_of_same hs (by simp) (by simp) (by simp)

/-- Settles O57, by the moves of a step: each keeps the law of owed lights and LIGHT entries. -/
theorem lightLawKeptByEveryStep : Obligations.LightLawKeptByEveryStep := fun _ _ hs h =>
  kept_of_step (fun _ _ => lightLaw_event) hs h

end Sys2Proof.Machine
end

section
/-! PROOFS. The law of the field bus (R97, R100, R104, R112) under every move. -/

namespace Sys2Proof.Machine

open Relation (ReflTransGen)

/-- The ACTUATEs for an element in the command queue and on the bus. -/
def actuatesFor (b : FieldBus) (e : Nat) : Nat :=
  (b.queue.filter (·.isActuateFor e)).length + (actuateOnBus b e).toNat

/-- The RAWs in the command queue and on the bus. -/
def raws (b : FieldBus) : Nat := (b.queue.filter Entry.isRaw).length + (rawOnBus b).toNat

/-- An actuation record agrees with the number of ACTUATEs for its element (R100, R104). -/
def actAgrees (a : ActRecord) (actuates : Nat) : Prop :=
  actuates = (if a.state = .queued then 1 else 0) ∧ (a.timer.isSome = true ↔ a.state = .inFlight)

/-- The pass-through slot agrees with the number of RAWs (R112). -/
def passAgrees (p : PassSlot) (n : Nat) : Prop := n = if p = .pending then 1 else 0

theorem busLaw_iff (s : State) : busLaw s ↔
    (∀ e, actAgrees (s.act e) (actuatesFor s.bus e)) ∧ passAgrees s.bus.pass (raws s.bus) := by
  simp only [busLaw, actAgrees, passAgrees, actuatesFor, raws, Bool.toNat, Bool.cond_eq_ite]

/-- The request that is on the bus. -/
def FieldBus.request (b : FieldBus) : Option BusRequest := b.current.map Transaction.request

theorem actuateOnBus_eq_true_iff (b : FieldBus) (e : Nat) :
    actuateOnBus b e = true ↔ ∃ argument, b.request = some (.actuate e argument) := by
  unfold actuateOnBus FieldBus.request
  split
  · next e' argument h => rw [h]; simp
  · next h => exact ⟨fun hf => absurd hf (by simp), fun ⟨argument, ha⟩ => absurd ha (h e argument)⟩

theorem rawOnBus_eq_true_iff (b : FieldBus) : rawOnBus b = true ↔ ∃ e bytes, b.request = some (.raw e bytes) := by
  unfold rawOnBus FieldBus.request
  split
  · next e bytes h => rw [h]; simp
  · next h => exact ⟨fun hf => absurd hf (by simp), fun ⟨e, bytes, ha⟩ => absurd ha (h e bytes)⟩

theorem actuateOnBus_congr {b c : FieldBus} (h : c.request = b.request) (e : Nat) :
    actuateOnBus c e = actuateOnBus b e := by
  rw [Bool.eq_iff_iff, actuateOnBus_eq_true_iff, actuateOnBus_eq_true_iff, h]

theorem rawOnBus_congr {b c : FieldBus} (h : c.request = b.request) : rawOnBus c = rawOnBus b := by
  rw [Bool.eq_iff_iff, rawOnBus_eq_true_iff, rawOnBus_eq_true_iff, h]

theorem actuateOnBus_of_request {b : FieldBus} {e argument : Nat} (h : b.request = some (.actuate e argument))
    (k : Nat) : actuateOnBus b k = (e == k) := by
  rw [Bool.eq_iff_iff, actuateOnBus_eq_true_iff, h]
  simp

theorem actuateOnBus_eq_false {b : FieldBus} (h : ∀ e argument, b.request ≠ some (.actuate e argument)) (e : Nat) :
    actuateOnBus b e = false := by
  rw [Bool.eq_false_iff, ne_eq, actuateOnBus_eq_true_iff]
  exact fun ⟨argument, ha⟩ => h e argument ha

theorem rawOnBus_eq_false {b : FieldBus} (h : ∀ e bytes, b.request ≠ some (.raw e bytes)) : rawOnBus b = false := by
  rw [Bool.eq_false_iff, ne_eq, rawOnBus_eq_true_iff]
  exact fun ⟨e, bytes, ha⟩ => h e bytes ha

theorem actuateOnBus_of_none {b : FieldBus} (h : b.current = none) (e : Nat) : actuateOnBus b e = false :=
  actuateOnBus_eq_false (by simp [FieldBus.request, h]) e

theorem rawOnBus_of_none {b : FieldBus} (h : b.current = none) : rawOnBus b = false :=
  rawOnBus_eq_false (by simp [FieldBus.request, h])

theorem isActuateFor_iff (x : Entry) (e : Nat) : x.isActuateFor e = true ↔ x.isActuate = true ∧ x.element = e := by
  simp [Entry.isActuateFor]

theorem isActuateFor_commandEntry (e : Nat) (x : Entry) (h : x.isActuateFor e = true) :
    (x.isActuate || x.isRaw) = true := by simp [((isActuateFor_iff x e).mp h).1]

theorem SameBus.actuatesFor {s t : State} (h : SameBus s t) (e : Nat) : actuatesFor t.bus e = actuatesFor s.bus e := by
  have hfilter : t.bus.queue.filter (·.isActuateFor e) = s.bus.queue.filter (·.isActuateFor e) := by
    rw [← filter_commandEntries (isActuateFor_commandEntry e), h.entries,
      filter_commandEntries (isActuateFor_commandEntry e)]
  have hrequest : t.bus.request = s.bus.request := by simp only [FieldBus.request, h.current]
  simp only [Sys2Proof.Machine.actuatesFor, hfilter, actuateOnBus_congr hrequest]

theorem SameBus.raws {s t : State} (h : SameBus s t) : raws t.bus = raws s.bus := by
  have hfilter : t.bus.queue.filter Entry.isRaw = s.bus.queue.filter Entry.isRaw := by
    rw [← filter_commandEntries isRaw_commandEntry, h.entries, filter_commandEntries isRaw_commandEntry]
  have hrequest : t.bus.request = s.bus.request := by simp only [FieldBus.request, h.current]
  simp only [Sys2Proof.Machine.raws, hfilter, rawOnBus_congr hrequest]

theorem SameBus.act {s t : State} (h : SameBus s t) (e : Nat) : t.act e = s.act e := by
  simp only [State.act, h.acts]

theorem SameBus.busLaw {s t : State} (h : SameBus s t) (hs : busLaw s) : busLaw t := by
  rw [busLaw_iff] at hs ⊢
  obtain ⟨hacts, hpass⟩ := hs
  exact ⟨fun e => by rw [h.act, h.actuatesFor]; exact hacts e, by rw [h.pass, h.raws]; exact hpass⟩

-- Ends of actuations and of the RAW

/-- The law of the bus but for one element, whose ACTUATE stands nowhere. -/
structure BusLawBut (e : Nat) (u : State) : Prop where
  others : ∀ k, k ≠ e → actAgrees (u.act k) (actuatesFor u.bus k)
  none : actuatesFor u.bus e = 0
  pass : passAgrees u.bus.pass (raws u.bus)

theorem BusLawBut.sameBus {e : Nat} {u w : State} (hu : BusLawBut e u) (h : SameBus u w) : BusLawBut e w where
  others k hk := by rw [h.act, h.actuatesFor]; exact hu.others k hk
  none := by rw [h.actuatesFor]; exact hu.none
  pass := by rw [h.pass, h.raws]; exact hu.pass

/-- A record that says neither QUEUED nor anything wrong of its timer completes the law. -/
theorem BusLawBut.setAct {e : Nat} {w : State} (hw : BusLawBut e w) {a : ActRecord} (hqueued : a.state ≠ .queued)
    (htimer : a.timer.isSome = true ↔ a.state = .inFlight) : busLaw (w.setAct e a) := by
  rw [busLaw_iff]
  refine ⟨fun k => ?_, hw.pass⟩
  have hactuates : actuatesFor (w.setAct e a).bus k = actuatesFor w.bus k := rfl
  rw [hactuates, act_setAct]
  by_cases hk : k = e
  · subst hk
    rw [hw.none]
    split
    · exact ⟨by simp [hqueued], htimer⟩
    · next hout =>
      rw [show w.act k = restAct from at1_outside _ _ _ (by simpa using hout)]
      exact ⟨by simp [restAct], by simp [restAct]⟩
  · rw [if_neg (by simp [hk])]
    exact hw.others k hk

theorem filter_erase_of_false {p : Entry → Bool} {x : Entry} (hx : p x = false) (q : List Entry) :
    (q.erase x).filter p = q.filter p := by
  rw [← List.erase_filter, List.erase_of_not_mem]
  simp [hx]

theorem length_filter_erase {p : Entry → Bool} {x : Entry} {q : List Entry} (hx : p x = true) (hq : x ∈ q) :
    ((q.erase x).filter p).length = (q.filter p).length - 1 := by
  rw [← List.erase_filter, List.length_erase_of_mem (List.mem_filter.mpr ⟨hq, hx⟩)]

theorem isRaw_eq_false_of_isActuate {x : Entry} (h : x.isActuate = true) : x.isRaw = false := by
  cases hx : x.isRaw with
  | false => rfl
  | true => rw [isActuate_eq_false_of_isRaw x hx] at h; exact absurd h (by simp)

theorem actuatesFor_erase (s : State) (x : Entry) (k : Nat) :
    actuatesFor (s.setQueue (s.bus.queue.erase x)).bus k
      = ((s.bus.queue.erase x).filter (·.isActuateFor k)).length + (actuateOnBus s.bus k).toNat := rfl

theorem raws_erase (s : State) (x : Entry) :
    raws (s.setQueue (s.bus.queue.erase x)).bus
      = ((s.bus.queue.erase x).filter Entry.isRaw).length + (rawOnBus s.bus).toNat := rfl

theorem actuatesFor_freed (s : State) (k : Nat) : actuatesFor ({ s.bus with current := none } : FieldBus) k
    = (s.bus.queue.filter (·.isActuateFor k)).length := by
  simp [actuatesFor, actuateOnBus_of_none]

theorem raws_freed (s : State) : raws ({ s.bus with current := none } : FieldBus)
    = (s.bus.queue.filter Entry.isRaw).length := by
  simp [raws, rawOnBus_of_none]

/-- An ACTUATE that stands on the bus or in the queue is the only one for its element (R97, R100). -/
theorem busLawBut_of_off {e : Nat} {s u : State} (h : Off e s u) (hs : busLaw s) : BusLawBut e u := by
  rw [busLaw_iff] at hs
  obtain ⟨hacts, hpass⟩ := hs
  obtain ⟨hcount, _⟩ := hacts e
  have hone : actuatesFor s.bus e ≤ 1 := by rw [hcount]; split <;> simp
  cases h with
  | inFlight hact => exact ⟨fun k _ => hacts k, by simpa [hact] using hcount, hpass⟩
  | answered t argument hcurrent hrequest =>
    have hreq : s.bus.request = some (.actuate e argument) := by simp [FieldBus.request, hcurrent, hrequest]
    have hon := actuateOnBus_of_request hreq
    refine ⟨fun k hk => ?_, ?_, ?_⟩
    · have hsame : actuatesFor s.bus k = (s.bus.queue.filter (·.isActuateFor k)).length := by
        simp [actuatesFor, hon, Ne.symm hk]
      rw [actuatesFor_freed, ← hsame]
      exact hacts k
    · rw [actuatesFor_freed]
      simp only [actuatesFor, hon, BEq.rfl, Bool.toNat_true] at hone
      omega
    · have hraw : rawOnBus s.bus = false := rawOnBus_eq_false (by simp [hreq])
      have hsame : raws s.bus = (s.bus.queue.filter Entry.isRaw).length := by simp [raws, hraw]
      rw [raws_freed, ← hsame]
      exact hpass
  | discarded x hx hfor =>
    obtain ⟨hactuate, helement⟩ := (isActuateFor_iff x e).mp hfor
    refine ⟨fun k hk => ?_, ?_, ?_⟩
    · have hnot : x.isActuateFor k = false := by simp [Entry.isActuateFor, helement, Ne.symm hk]
      rw [actuatesFor_erase, filter_erase_of_false (p := (·.isActuateFor k)) hnot]
      exact hacts k
    · have hpos : 1 ≤ (s.bus.queue.filter (·.isActuateFor e)).length :=
        List.length_pos_of_mem (List.mem_filter.mpr ⟨hx, hfor⟩)
      rw [actuatesFor_erase, length_filter_erase (p := (·.isActuateFor e)) hfor hx]
      simp only [actuatesFor] at hone
      omega
    · rw [raws_erase, filter_erase_of_false (isRaw_eq_false_of_isActuate hactuate)]
      exact hpass

/-- The law of the bus but for the pass-through slot, whose RAW stands nowhere. -/
theorem busLaw_setPass {u w : State} (hacts : ∀ e, actAgrees (u.act e) (actuatesFor u.bus e)) (hraws : raws u.bus = 0)
    (h : SameBus u w) {p : PassSlot} (hp : p ≠ .pending) : busLaw (w.setPass p) := by
  rw [busLaw_iff]
  refine ⟨fun e => ?_, ?_⟩
  · have hactuates : actuatesFor (w.setPass p).bus e = actuatesFor w.bus e := rfl
    have hact : (w.setPass p).act e = w.act e := rfl
    rw [hactuates, h.actuatesFor, hact, h.act]
    exact hacts e
  · have hraws' : raws (w.setPass p).bus = raws w.bus := rfl
    rw [hraws', h.raws, hraws]
    simp [passAgrees, State.setPass, hp]

theorem busLaw_of_rawOff {s u : State} (h : RawOff s u) (hs : busLaw s) :
    (∀ e, actAgrees (u.act e) (actuatesFor u.bus e)) ∧ raws u.bus = 0 := by
  rw [busLaw_iff] at hs
  obtain ⟨hacts, hpass⟩ := hs
  have hone : raws s.bus ≤ 1 := by rw [hpass]; split <;> simp
  cases h with
  | answered hraw =>
    obtain ⟨e', bytes, hreq⟩ := (rawOnBus_eq_true_iff _).mp hraw
    have hnot := actuateOnBus_eq_false (b := s.bus) (by simp [hreq])
    refine ⟨fun e => ?_, ?_⟩
    · have hsame : actuatesFor s.bus e = (s.bus.queue.filter (·.isActuateFor e)).length := by
        simp [actuatesFor, hnot]
      rw [actuatesFor_freed, ← hsame]
      exact hacts e
    · rw [raws_freed]
      simp only [raws, hraw, Bool.toNat_true] at hone
      omega
  | discarded x hx hraw =>
    refine ⟨fun e => ?_, ?_⟩
    · have hnot : x.isActuateFor e = false := by simp [Entry.isActuateFor, isActuate_eq_false_of_isRaw x hraw]
      rw [actuatesFor_erase, filter_erase_of_false (p := (·.isActuateFor e)) hnot]
      exact hacts e
    · have hpos : 1 ≤ (s.bus.queue.filter Entry.isRaw).length :=
        List.length_pos_of_mem (List.mem_filter.mpr ⟨hx, hraw⟩)
      rw [raws_erase, length_filter_erase hraw hx]
      simp only [raws] at hone
      omega

-- Entries that are sent or queued

/-- The head of the queue goes on the free bus: what stood in the queue stands on the bus (R98). -/
theorem busLaw_entrySent {s : State} {x : Entry} {rest : List Entry} (hfree : s.bus.current = none)
    (hq : s.bus.queue = x :: rest) (hs : busLaw s) : busLaw (sendRequest (entryRequest x) (s.setQueue rest)) := by
  rw [busLaw_iff] at hs ⊢
  obtain ⟨hacts, hpass⟩ := hs
  have hqueue : (sendRequest (entryRequest x) (s.setQueue rest)).bus.queue = rest := rfl
  have hrequest : (sendRequest (entryRequest x) (s.setQueue rest)).bus.request = some (entryRequest x) := rfl
  have hactuates e : actuatesFor (sendRequest (entryRequest x) (s.setQueue rest)).bus e = actuatesFor s.bus e := by
    have hon : actuateOnBus (sendRequest (entryRequest x) (s.setQueue rest)).bus e = x.isActuateFor e := by
      rw [Bool.eq_iff_iff, actuateOnBus_eq_true_iff, hrequest, isActuateFor_iff]
      cases harg : x.arg <;> simp [entryRequest, Entry.isActuate, harg]
    simp only [actuatesFor, hqueue, hon, hq, actuateOnBus_of_none hfree, List.filter_cons]
    cases x.isActuateFor e <;> simp
  have hraws : raws (sendRequest (entryRequest x) (s.setQueue rest)).bus = raws s.bus := by
    have hon : rawOnBus (sendRequest (entryRequest x) (s.setQueue rest)).bus = x.isRaw := by
      rw [Bool.eq_iff_iff, rawOnBus_eq_true_iff, hrequest]
      cases harg : x.arg <;> simp [entryRequest, Entry.isRaw, harg]
    simp only [raws, hqueue, hon, hq, rawOnBus_of_none hfree, List.filter_cons]
    cases x.isRaw <;> simp
  refine ⟨fun e => ?_, ?_⟩
  · rw [hactuates]
    exact hacts e
  · rw [hraws]
    exact hpass

theorem busLaw_actuationQueued {s : State} {e : Nat} (he : 1 ≤ e ∧ e ≤ 32) (hact : (s.act e).state = .none)
    (argument : Nat) (o : Origin) (c : Option Charge) (hs : busLaw s) : busLaw (queueActuation e argument o c s) := by
  rw [busLaw_iff] at hs ⊢
  obtain ⟨hacts, hpass⟩ := hs
  let x : Entry := { element := e, arg := .actuate argument, origin := o, charge := c }
  have hfor k : x.isActuateFor k = (e == k) := rfl
  have hactuates k : actuatesFor (queueActuation e argument o c s).bus k
      = actuatesFor s.bus k + if e = k then 1 else 0 := by
    have hqueue : (queueActuation e argument o c s).bus.queue = s.bus.queue ++ [x] := rfl
    have hbus : actuateOnBus (queueActuation e argument o c s).bus k = actuateOnBus s.bus k := rfl
    simp only [actuatesFor, hqueue, hbus, List.filter_append, List.length_append]
    by_cases hk : e = k
    · simp only [List.filter_cons, hfor, hk, BEq.rfl, if_true, List.filter_nil, List.length_singleton]
      omega
    · simp [hfor, hk]
  refine ⟨fun k => ?_, ?_⟩
  · rw [hactuates, queueActuation, act_setAct]
    by_cases hk : k = e
    · subst hk
      obtain ⟨hcount, _⟩ := hacts k
      rw [hcount]
      simp [actAgrees, he, hact]
    · simpa [hk, Ne.symm hk] using hacts k
  · have hqueue : (queueActuation e argument o c s).bus.queue = s.bus.queue ++ [x] := rfl
    have hraws : raws (queueActuation e argument o c s).bus = raws s.bus := by
      have hraw : [x].filter Entry.isRaw = [] := rfl
      have hbus : rawOnBus (queueActuation e argument o c s).bus = rawOnBus s.bus := rfl
      simp only [raws, hqueue, hbus, List.filter_append, hraw, List.append_nil]
    rw [hraws]
    exact hpass

theorem busLaw_rawQueued {s : State} {x : Entry} (hx : x.isRaw = true) (hempty : s.bus.pass ≠ .pending)
    (hs : busLaw s) : busLaw ((appendEntry x s).setPass .pending) := by
  rw [busLaw_iff] at hs ⊢
  obtain ⟨hacts, hpass⟩ := hs
  have hqueue : ((appendEntry x s).setPass .pending).bus.queue = s.bus.queue ++ [x] := rfl
  refine ⟨fun e => ?_, ?_⟩
  · have hnot : x.isActuateFor e = false := by simp [Entry.isActuateFor, isActuate_eq_false_of_isRaw x hx]
    have hbus : actuateOnBus ((appendEntry x s).setPass .pending).bus e = actuateOnBus s.bus e := rfl
    have hnone : [x].filter (·.isActuateFor e) = [] := by simp [hnot]
    have hsame : actuatesFor ((appendEntry x s).setPass .pending).bus e = actuatesFor s.bus e := by
      simp only [actuatesFor, hqueue, hbus, List.filter_append, hnone, List.append_nil]
    rw [hsame]
    exact hacts e
  · have hbus : rawOnBus ((appendEntry x s).setPass .pending).bus = rawOnBus s.bus := rfl
    have hone : [x].filter Entry.isRaw = [x] := by simp [hx]
    have hmore : raws ((appendEntry x s).setPass .pending).bus = raws s.bus + 1 := by
      simp only [raws, hqueue, hbus, List.filter_append, hone, List.length_append, List.length_singleton]
      omega
    rw [passAgrees, if_neg hempty] at hpass
    rw [hmore, hpass]
    rfl

-- The transaction on the bus

theorem busLaw_of_request {s t : State} (hs : busLaw s) (hacts : t.bus.acts = s.bus.acts)
    (hqueue : t.bus.queue = s.bus.queue) (hpass : t.bus.pass = s.bus.pass)
    (hactuate : ∀ e, actuateOnBus t.bus e = actuateOnBus s.bus e) (hraw : rawOnBus t.bus = rawOnBus s.bus) :
    busLaw t := by
  rw [busLaw_iff] at hs ⊢
  simpa only [actuatesFor, raws, State.act, hacts, hqueue, hpass, hactuate, hraw] using hs

theorem busLaw_requestSent {s : State} {r : BusRequest} (hfree : s.bus.current = none)
    (hactuate : ∀ e a, r ≠ .actuate e a) (hraw : ∀ e bytes, r ≠ .raw e bytes) (hs : busLaw s) :
    busLaw (sendRequest r s) := by
  have hrequest : (sendRequest r s).bus.request = some r := rfl
  refine busLaw_of_request hs rfl rfl rfl (fun e => ?_) ?_
  · rw [actuateOnBus_of_none hfree, actuateOnBus_eq_false (fun k a => by rw [hrequest]; simpa using hactuate k a)]
  · rw [rawOnBus_of_none hfree, rawOnBus_eq_false (fun k a => by rw [hrequest]; simpa using hraw k a)]

theorem busLaw_busFreed {s : State} {t : Transaction} (hcurrent : s.bus.current = some t)
    (hactuate : ∀ e a, t.request ≠ .actuate e a) (hraw : ∀ e bytes, t.request ≠ .raw e bytes) (hs : busLaw s) :
    busLaw { s with bus := { s.bus with current := none } } := by
  have hrequest : s.bus.request = some t.request := by simp [FieldBus.request, hcurrent]
  refine busLaw_of_request hs rfl rfl rfl (fun e => ?_) ?_
  · rw [actuateOnBus_of_none rfl, actuateOnBus_eq_false (by simpa [hrequest] using hactuate)]
  · rw [rawOnBus_of_none rfl, rawOnBus_eq_false (by simpa [hrequest] using hraw)]

theorem busLaw_passTime {s : State} (hs : busLaw s) : busLaw (passTime s) := by
  have hact e : (passTime s).act e = { s.act e with timer := tickTimer (s.act e).timer } := by
    simp only [State.act, passTime, tickTowers_frame, tickBus]
    exact at1_mapTable _ _ _ _ _ rfl
  have hrequest : (passTime s).bus.request = s.bus.request := by
    simp [FieldBus.request, passTime, tickBus, Function.comp_def]
  have hqueue : (passTime s).bus.queue = s.bus.queue := by simp [passTime, tickBus]
  have hpassed : (passTime s).bus.pass = s.bus.pass := by simp [passTime, tickBus]
  rw [busLaw_iff] at hs ⊢
  obtain ⟨hacts, hpass⟩ := hs
  refine ⟨fun e => ?_, ?_⟩
  · have hactuates : actuatesFor (passTime s).bus e = actuatesFor s.bus e := by
      simp only [actuatesFor, actuateOnBus_congr hrequest, hqueue]
    rw [hactuates, hact]
    obtain ⟨hcount, htimer⟩ := hacts e
    exact ⟨hcount, by simpa [tickTimer] using htimer⟩
  · simpa only [raws, rawOnBus_congr hrequest, hqueue, hpassed] using hpass

theorem sameBus_recomputeAll (es : List Nat) (s : State) : SameBus s (recomputeAll es s) :=
  foldl_inv (SameBus s) _ (fun _ e h => h.trans (ElementMove.recomputed e).sameBus) es s (.refl s)

theorem busLaw_startUpWith (g : Settings) (defs : Vector ElementDef 32) (flags : FlagSet) (completes : Bool)
    (s : State) : busLaw (startUpWith g defs flags completes s) := by
  unfold startUpWith
  refine (sameBus_recomputeAll elementNumbers _).busLaw ((busLaw_iff _).mpr ⟨fun e => ?_, ?_⟩)
  · simp [actAgrees, actuatesFor, actuateOnBus, State.act, resetBus, restAct]
  · simp [passAgrees, raws, rawOnBus, resetBus]

theorem sameBus_define (e : Nat) (d : ElementDef) (s : State) : SameBus s (define e d s) := by
  have hscored (t : State) : SameBus t (defineScore e t) := ⟨by simp, by simp, by simp, by simp⟩
  have hwritten : SameBus s ((s.setDef e d).setRun e (freshRun d)) := ⟨rfl, rfl, rfl, rfl⟩
  unfold define
  dsimp only
  refine SameBus.trans ?_ (hscored _)
  split
  · exact hwritten.trans ⟨rfl, rfl, rfl, rfl⟩
  · exact hwritten.trans (ElementMove.recomputed e).sameBus

theorem sameBus_rosterMove {s t : State} (h : RosterMove s t) : SameBus s t := by
  have hset (u : State) (n : Nat) (y : Slot) : SameBus u (u.setSlot n y) := ⟨rfl, rfl, rfl, rfl⟩
  cases h with
  | slot n y => exact hset s n y
  | left n y => exact (sameBus_claimSteps (claimSteps_dropClaims n s)).trans (hset _ n y)

theorem sameBus_closed {s t : State} (h : ReflTransGen RosterMove s t) : SameBus s t := by
  induction h with
  | refl => exact .refl s
  | tail _ h ih => exact ih.trans (sameBus_rosterMove h)

theorem busLaw_event {s t : State} (h : Event s t) (hs : busLaw s) : busLaw t := by
  cases h with
  | element h => exact h.sameBus.busLaw hs
  | roster h => exact (sameBus_rosterMove h).busLaw hs
  | closed _ h _ => exact (sameBus_closed h).busLaw hs
  | ended c h => exact (sameBus_claimSteps (claimSteps_clearClaims { s with clock := c })).busLaw hs
  | startedUp g defs flags completes asserted h => exact busLaw_startUpWith g defs flags completes _
  | timePassed => exact busLaw_passTime hs
  | elementDefined e d => exact (sameBus_define e d s).busLaw hs
  | granted n e => exact (sameBus_claimSteps (claimSteps_becomeHolder n e s)).busLaw hs
  | joined n e => exact (sameBus_claimSteps (claimSteps_joinList n e s)).busLaw hs
  | leftList n e => exact (sameBus_claimSteps (claimSteps_leaveList n e s)).busLaw hs
  | holdEnded h e withBar a =>
    have hunheld : busLaw { unheld h e withBar s with attention := a } :=
      (sameBus_claimSteps (claimSteps_unheld h e withBar s)).busLaw hs
    exact (sameBus_claimSteps (claimSteps_handover e _)).busLaw hunheld
  | requestSent r hfree hr =>
    refine busLaw_requestSent hfree (fun e a => ?_) (fun e bytes => ?_) hs <;> rcases hr with ⟨e', rfl⟩ | rfl <;> simp
  | entrySent x rest hfree hq => exact busLaw_entrySent hfree hq hs
  | windowSet t w hcurrent =>
    have hrequest : ({ s.bus with current := some { t with window := w } } : FieldBus).request = s.bus.request := by
      simp [FieldBus.request, hcurrent]
    exact busLaw_of_request hs rfl rfl rfl (actuateOnBus_congr hrequest) (rawOnBus_congr hrequest)
  | busFreed t hcurrent hact hraw => exact busLaw_busFreed hcurrent hact hraw hs
  | actuationQueued e argument o c he hact => exact busLaw_actuationQueued he hact argument o c hs
  | rawQueued x hx hpass => exact busLaw_rawQueued hx hpass hs
  | actuationStarted e argument t timer hcurrent hrequest hw =>
    have hoff := busLawBut_of_off (.answered t argument hcurrent hrequest) hs
    exact (hoff.sameBus (Moves.sameBus hw)).setAct (by simp) (by simp)
  | actuationEnded e o hu hw =>
    have hrest := ((busLawBut_of_off hu hs).sameBus (Moves.sameBus hw)).setAct (a := restAct) (by simp [restAct])
      (by simp [restAct])
    exact (sameBus_endActuation e o _).busLaw hrest
  | passArrived p hp hu hw =>
    obtain ⟨hacts, hraws⟩ := busLaw_of_rawOff hu hs
    exact busLaw_setPass hacts hraws (Moves.sameBus hw) hp
  | frameArrived f => exact SameBus.busLaw (t := joinUplink f s) ⟨by simp, by simp, by simp, by simp⟩ hs
  | stopped c => exact SameBus.busLaw (t := stopClock _) ⟨by simp, by simp, by simp, by simp⟩ hs
  | _ => exact SameBus.busLaw ⟨rfl, rfl, rfl, rfl⟩ hs

/-- Settles O58, by the moves of a step: each keeps the law of the bus. -/
theorem busLawKeptByEveryStep : Obligations.BusLawKeptByEveryStep := fun _ _ hs h =>
  kept_of_step (fun _ _ => busLaw_event) hs h

end Sys2Proof.Machine
end

section
/-! PROOFS. The laws of the stop and the clock (R3, R15, R144, R152) under every move. -/

namespace Sys2Proof.Machine

open Relation (ReflTransGen)

/-- What no move of the elements and no operation on claims reaches. -/
structure SameFrame (s t : State) : Prop where
  clock : t.clock = s.clock
  stop : t.stop = s.stop
  reset : t.resetAsserted = s.resetAsserted
  settings : t.settings = s.settings
  store : t.store = s.store
  defs : t.table.defs = s.table.defs
  link : t.link = s.link
  strangers : t.roster.strangers = s.roster.strangers
  commandCount : t.bus.commandCount = s.bus.commandCount

theorem SameFrame.refl (s : State) : SameFrame s s := ⟨rfl, rfl, rfl, rfl, rfl, rfl, rfl, rfl, rfl⟩

theorem SameFrame.trans {s t u : State} (h : SameFrame s t) (h' : SameFrame t u) : SameFrame s u :=
  ⟨h'.clock.trans h.clock, h'.stop.trans h.stop, h'.reset.trans h.reset, h'.settings.trans h.settings,
    h'.store.trans h.store, h'.defs.trans h.defs, h'.link.trans h.link, h'.strangers.trans h.strangers,
    h'.commandCount.trans h.commandCount⟩

theorem sameFrame_recompute (e : Nat) (s : State) : SameFrame s (recompute e s) :=
  ⟨by simp, by simp, by simp, by simp, by simp, by simp, by simp, by simp, by simp⟩

theorem ClaimStep.sameFrame {s t : State} (h : ClaimStep s t) : SameFrame s t := by
  cases h with
  | written => exact ⟨rfl, rfl, rfl, rfl, rfl, rfl, rfl, rfl, rfl⟩
  | recomputed e => exact sameFrame_recompute e s

theorem ClaimSteps.sameFrame {s t : State} (h : ClaimSteps s t) : SameFrame s t := by
  induction h with
  | refl => exact .refl s
  | tail _ h ih => exact ih.trans h.sameFrame

theorem ElementMove.sameFrame {s t : State} (h : ElementMove s t) : SameFrame s t := by
  cases h with
  | withdrawn e =>
    have hwritten : SameFrame s (s.modRun e fun r => { r with withdrawn := true, withdrawPending := false }) :=
      ⟨rfl, rfl, rfl, rfl, rfl, rfl, rfl, rfl, rfl⟩
    exact hwritten.trans (ClaimSteps.sameFrame (claimSteps_emptyElement e _))
  | _ => exact ⟨by simp, by simp, by simp, by simp, by simp, by simp, by simp, by simp, by simp⟩

theorem Moves.sameFrame {s t : State} (h : Moves s t) : SameFrame s t := by
  induction h with
  | refl => exact .refl s
  | tail _ h ih => exact ih.trans h.sameFrame

theorem RosterMove.sameFrame {s t : State} (h : RosterMove s t) : SameFrame s t := by
  have hset (u : State) (n : Nat) (y : Slot) : SameFrame u (u.setSlot n y) :=
    ⟨rfl, rfl, rfl, rfl, rfl, rfl, rfl, rfl, rfl⟩
  cases h with
  | slot n y => exact hset s n y
  | left n y => exact (ClaimSteps.sameFrame (claimSteps_dropClaims n s)).trans (hset _ n y)

theorem sameFrame_rosterMoves {s t : State} (h : ReflTransGen RosterMove s t) : SameFrame s t := by
  induction h with
  | refl => exact .refl s
  | tail _ h ih => exact ih.trans h.sameFrame

theorem Off.sameFrame {e : Nat} {s u : State} (h : Off e s u) : SameFrame s u := by
  cases h <;> exact ⟨rfl, rfl, rfl, rfl, rfl, rfl, rfl, rfl, rfl⟩

theorem RawOff.sameFrame {s u : State} (h : RawOff s u) : SameFrame s u := by
  cases h <;> exact ⟨rfl, rfl, rfl, rfl, rfl, rfl, rfl, rfl, rfl⟩

theorem sameFrame_endActuation (e : Nat) (o : ActOutcome) (s : State) : SameFrame s (endActuation e o s) := by
  have hrest : SameFrame s (s.setAct e restAct) := ⟨rfl, rfl, rfl, rfl, rfl, rfl, rfl, rfl, rfl⟩
  exact hrest.trans (Moves.sameFrame (moves_endActuation e o s))

theorem sameFrame_holdEnded (h e : Nat) (withBar : Bool) (a : Attention) (s : State) :
    SameFrame s (handover e { unheld h e withBar s with attention := a }) := by
  have hunheld := ClaimSteps.sameFrame (claimSteps_unheld h e withBar s)
  have hflagged : SameFrame (unheld h e withBar s) { unheld h e withBar s with attention := a } :=
    ⟨rfl, rfl, rfl, rfl, rfl, rfl, rfl, rfl, rfl⟩
  exact (hunheld.trans hflagged).trans (ClaimSteps.sameFrame (claimSteps_handover e _))

theorem sameFrame_actuationStarted {e : Nat} {a : ActRecord} {s w : State}
    (hw : Moves { s with bus := { s.bus with current := none } } w) : SameFrame s (w.setAct e a) := by
  have hfreed : SameFrame s { s with bus := { s.bus with current := none } } :=
    ⟨rfl, rfl, rfl, rfl, rfl, rfl, rfl, rfl, rfl⟩
  exact (hfreed.trans (Moves.sameFrame hw)).trans ⟨rfl, rfl, rfl, rfl, rfl, rfl, rfl, rfl, rfl⟩

theorem sameFrame_actuationEnded {e : Nat} {o : ActOutcome} {s u w : State} (hu : Off e s u) (hw : Moves u w) :
    SameFrame s (endActuation e o w) :=
  (hu.sameFrame.trans (Moves.sameFrame hw)).trans (sameFrame_endActuation e o w)

theorem sameFrame_passArrived {p : PassSlot} {s u w : State} (hu : RawOff s u) (hw : Moves u w) :
    SameFrame s (w.setPass p) :=
  (hu.sameFrame.trans (Moves.sameFrame hw)).trans ⟨rfl, rfl, rfl, rfl, rfl, rfl, rfl, rfl, rfl⟩

-- The Stop Unit's law

theorem stopLaw_of_same {s t : State} (hs : stopLaw s) (hclock : t.clock.phase = s.clock.phase) (hstop : t.stop = s.stop)
    (hreset : t.resetAsserted = s.resetAsserted) : stopLaw t := by
  unfold stopLaw at hs ⊢
  rwa [hclock, hstop, hreset]

theorem SameFrame.stopLaw {s t : State} (h : SameFrame s t) (hs : stopLaw s) : stopLaw t :=
  stopLaw_of_same hs (by rw [h.clock]) h.stop h.reset

/-- A clock that is not RUNNING, or on a field that is not STOPPED, meets the law. -/
theorem stopLaw_setClock {s : State} (hs : stopLaw s) {c : Clock}
    (h : c.phase ≠ .running ∨ s.stop.stopped = false) : stopLaw { s with clock := c } := by
  obtain ⟨hlatched, hreset, _⟩ := hs
  refine ⟨hlatched, hreset, fun hstopped => ?_⟩
  rcases h with h | h
  · exact h
  · exact absurd (h.symm.trans hstopped) (by simp)

theorem stopLaw_latch {u : StopUnit} (c : Cause) :
    ((latch c u).pin || (latch c u).brk || (latch c u).console || (latch c u).reset) = true := by
  cases c <;> simp [latch]

theorem latch_stopped (c : Cause) (u : StopUnit) : (latch c u).stopped = u.stopped := by
  cases c <;> rfl

theorem stopClock_phase_ne_running (s : State) : (stopClock s).clock.phase ≠ .running := by
  unfold stopClock
  split
  · simp [enterHeld, enterPhase, State.makeBeaconDue]
  · assumption

theorem startUpWith_clock (g : Settings) (defs : Vector ElementDef 32) (flags : FlagSet) (completes : Bool) (s : State) :
    (startUpWith g defs flags completes s).clock = resetClock := by simp [startUpWith]

theorem startUpWith_stop (g : Settings) (defs : Vector ElementDef 32) (flags : FlagSet) (completes : Bool) (s : State) :
    (startUpWith g defs flags completes s).stop = resetStop s.stop.stopIn completes := by simp [startUpWith]

theorem stopLaw_event {s t : State} (h : Event s t) (hs : stopLaw s) : stopLaw t := by
  obtain ⟨hlatched, hreset, hrunning⟩ := hs
  have hs : stopLaw s := ⟨hlatched, hreset, hrunning⟩
  cases h with
  | element h => exact h.sameFrame.stopLaw hs
  | roster h => exact h.sameFrame.stopLaw hs
  | closed _ h _ => exact (sameFrame_rosterMoves h).stopLaw (stopLaw_setClock hs (.inl (by simp)))
  | clock c h =>
    cases h with
    | started r _ hstop => exact stopLaw_setClock hs (.inr hstop)
    | resumed _ hstop => exact stopLaw_setClock hs (.inr hstop)
    | wentOn r hphase _ =>
      refine stopLaw_setClock hs (.inr ?_)
      rcases hphase with hphase | ⟨_, hstop⟩
      · exact Bool.eq_false_iff.mpr fun hstopped => hrunning hstopped hphase
      · exact hstop
    | planned p hphase _ => exact stopLaw_setClock hs (.inl (by simp [hphase]))
    | staged => exact stopLaw_setClock hs (.inl (by simp))
    | held => exact stopLaw_setClock hs (.inl (by simp))
  | ended c h =>
    have hphase : c.phase ≠ .running := by cases h <;> simp
    exact (ClaimSteps.sameFrame (claimSteps_clearClaims _)).stopLaw (stopLaw_setClock hs (.inl hphase))
  | stopIn b => exact ⟨hlatched, hreset, hrunning⟩
  | causeJoined c hstopped =>
    have hjoined : (latch c s.stop).stopped = true := (latch_stopped c s.stop).trans hstopped
    exact ⟨hjoined.trans (stopLaw_latch c).symm, fun _ => hjoined, fun _ => hrunning hstopped⟩
  | stopped c _ =>
    have hentered : (latch c { unlatch s.stop with stopped := true }).stopped = true := latch_stopped c _
    refine ⟨?_, fun _ => ?_, fun _ => stopClock_phase_ne_running _⟩
    · simpa using hentered.trans (stopLaw_latch c).symm
    · simpa using hentered
  | stopReleased hawake => exact ⟨rfl, fun h => absurd (hawake.symm.trans h) (by simp), by simp⟩
  | resetReleased hasserted =>
    have hstopped := hreset hasserted
    refine ⟨?_, by simp, fun _ => hrunning hstopped⟩
    rw [hlatched] at hstopped
    cases hin : s.stop.stopIn <;> simp_all
  | startedUp g defs flags completes asserted _ =>
    refine ⟨?_, ?_, ?_⟩
    · simp [startUpWith_stop, resetStop]
    · simp [startUpWith_stop, resetStop]
    · simp [startUpWith_clock, resetClock]
  | timePassed => exact stopLaw_of_same hs (by simp [passTime, tickClock]) (by simp [passTime]) (by simp [passTime])
  | elementDefined e d => exact stopLaw_of_same hs (by simp) (by simp) (by simp)
  | granted n e => exact (ClaimSteps.sameFrame (claimSteps_becomeHolder n e s)).stopLaw hs
  | joined n e => exact (ClaimSteps.sameFrame (claimSteps_joinList n e s)).stopLaw hs
  | leftList n e => exact (ClaimSteps.sameFrame (claimSteps_leaveList n e s)).stopLaw hs
  | holdEnded h e withBar a => exact (sameFrame_holdEnded h e withBar a s).stopLaw hs
  | actuationStarted e argument t timer _ _ hw => exact (sameFrame_actuationStarted hw).stopLaw hs
  | actuationEnded e o hu hw => exact (sameFrame_actuationEnded hu hw).stopLaw hs
  | passArrived p _ hu hw => exact (sameFrame_passArrived hu hw).stopLaw hs
  | _ => exact stopLaw_of_same hs (by simp) (by simp) (by simp)

-- The Match Clock's law

theorem clockLaw_of_same {s t : State} (hs : clockLaw s) (hclock : t.clock = s.clock) : clockLaw t := by
  unfold clockLaw State.periodCount at hs ⊢
  rwa [hclock]

theorem SameFrame.clockLaw {s t : State} (h : SameFrame s t) (hs : clockLaw s) : clockLaw t :=
  clockLaw_of_same hs h.clock

theorem clockLaw_clockMove {s : State} {c : Clock} (h : ClockMove s c) (hs : clockLaw s) :
    clockLaw { s with clock := c } := by
  obtain ⟨hmark, hgrace, hremaining, hindex, hpositive, hbound, hplan, hrange⟩ := hs
  cases h with
  | planned p hphase hp =>
    have hzero := hindex (.inl hphase)
    exact ⟨hmark, hgrace, hremaining, hindex, hpositive, by simp [hzero], by simp,
      fun q hq => by simp only [Option.some.injEq] at hq; exact hq ▸ hp⟩
  | staged hphase hsome => exact ⟨by simp, by simp, by simp, by simp, by simp, by simp, fun _ => hsome, hrange⟩
  | started r hphase _ =>
    have hsome := hplan (by simp [hphase])
    obtain ⟨p, hp⟩ := Option.isSome_iff_exists.mp hsome
    have hone : 1 ≤ s.periodCount := by
      simpa [State.periodCount, hp] using (hrange p hp).1
    exact ⟨by simp, by simp, by simp, by simp, by simp, hone, fun _ => hsome, hrange⟩
  | wentOn r hphase hnext =>
    have hsome := hplan (by rcases hphase with h | ⟨h, _⟩ <;> simp [h])
    exact ⟨by simp, by simp, by simp, by simp, by simp, hnext, fun _ => hsome, hrange⟩
  | resumed hphase _ =>
    have hone := hpositive (.inr (.inl hphase))
    exact ⟨by simp, by simp, by simp, by simp, fun _ => hone, hbound, fun _ => hplan (by simp [hphase]), hrange⟩
  | held mark r hphase hne hr =>
    have hone := hpositive (.inl hphase)
    exact ⟨by simpa using hne, by simp, fun _ h => hr h, by simp, fun _ => hone, hbound,
      fun _ => hplan (by simp [hphase]), hrange⟩

theorem clockLaw_endMove {s : State} {c : Clock} (h : EndMove s c) (hs : clockLaw s) :
    clockLaw { s with clock := c } := by
  obtain ⟨hmark, hgrace, hremaining, hindex, hpositive, hbound, hplan, hrange⟩ := hs
  cases h with
  | finished hphase => exact ⟨by simp, by simp, by simp, by simp, by simp, hbound, fun _ => hplan hphase, hrange⟩
  | grace t hphase =>
    have hone := hpositive (by rcases hphase with h | h <;> simp [h])
    exact ⟨by simp, by simp, by simp, by simp, fun _ => hone, hbound,
      fun _ => hplan (by rcases hphase with h | h <;> simp [h]), hrange⟩

/-- Entering the stop holds a running clock as a pause does (R15). -/
theorem clockLaw_stopClock {s : State} (hs : clockLaw s) : clockLaw (stopClock s) := by
  unfold stopClock
  split
  · next hphase =>
    exact clockLaw_of_same (clockLaw_clockMove (.held .paused s.clock.remaining hphase (by simp) (by simp)) hs) rfl
  · exact hs

theorem clockLaw_passTime {s : State} (hs : clockLaw s) : clockLaw (passTime s) := by
  obtain ⟨hmark, hgrace, hremaining, hindex, hpositive, hbound, hplan, hrange⟩ := hs
  have hclock : (passTime s).clock = tickClock s.clock := by simp [passTime]
  unfold clockLaw State.periodCount
  simp only [hclock, tickClock, tickTimer, Option.isSome_map]
  refine ⟨hmark, hgrace, fun hphase hpaused => ?_, hindex, hpositive, hbound, hplan, hrange⟩
  rw [if_neg hphase]
  exact hremaining hphase hpaused

theorem clockLaw_event {s t : State} (h : Event s t) (hs : clockLaw s) : clockLaw t := by
  cases h with
  | element h => exact h.sameFrame.clockLaw hs
  | roster h => exact h.sameFrame.clockLaw hs
  | closed _ h _ =>
    obtain ⟨hmark, hgrace, hremaining, hindex, hpositive, hbound, hplan, hrange⟩ := hs
    refine (sameFrame_rosterMoves h).clockLaw ?_
    exact ⟨by simp, by simp, by simp, by simp, by simp, by simp, by simp, hrange⟩
  | clock c h => exact clockLaw_clockMove h hs
  | ended c h => exact (ClaimSteps.sameFrame (claimSteps_clearClaims _)).clockLaw (clockLaw_endMove h hs)
  | stopped c _ => exact clockLaw_stopClock (clockLaw_of_same hs rfl)
  | startedUp g defs flags completes asserted _ =>
    exact clockLaw_of_same (s := { s with clock := resetClock })
      (by simp [clockLaw, resetClock, State.periodCount]) (startUpWith_clock _ _ _ _ _)
  | timePassed => exact clockLaw_passTime hs
  | granted n e => exact (ClaimSteps.sameFrame (claimSteps_becomeHolder n e s)).clockLaw hs
  | joined n e => exact (ClaimSteps.sameFrame (claimSteps_joinList n e s)).clockLaw hs
  | leftList n e => exact (ClaimSteps.sameFrame (claimSteps_leaveList n e s)).clockLaw hs
  | holdEnded h e withBar a => exact (sameFrame_holdEnded h e withBar a s).clockLaw hs
  | actuationStarted e argument t timer _ _ hw => exact (sameFrame_actuationStarted hw).clockLaw hs
  | actuationEnded e o hu hw => exact (sameFrame_actuationEnded hu hw).clockLaw hs
  | passArrived p _ hu hw => exact (sameFrame_passArrived hu hw).clockLaw hs
  | _ => exact clockLaw_of_same hs (by simp)

/-- Settles O53, by the moves of a step: each keeps the law of the stop, and each the law of the clock. -/
theorem stopAndClockLawsKeptByEveryStep : Obligations.StopAndClockLawsKeptByEveryStep :=
  ⟨fun _ _ hs h => kept_of_step (fun _ _ => stopLaw_event) hs h,
    fun _ _ hs h => kept_of_step (fun _ _ => clockLaw_event) hs h⟩

end Sys2Proof.Machine
end

section
/-! PROOFS. Holders only in play, waiters only behind holders, and withdrawals pending only behind actuations (R51, R55, R57,
R66, R89), under every move. -/

namespace Sys2Proof.Machine

open Relation (ReflTransGen)

/-- A claim state has a holder only under a condition, and waiters only behind a holder. -/
def claimPlays (inPlay : Prop) (c : Claim) : Prop :=
  (c.holder ≠ none → inPlay) ∧ (c.holder = none → c.waiters = [])

/-- Every claim state does so under its element's condition. -/
def Plays (inPlay : Nat → Prop) (s : State) : Prop := ∀ e, claimPlays (inPlay e) (s.claim e)

/-- The condition under which an element may have a holder (R89). -/
def State.inPlay (s : State) (e : Nat) : Prop :=
  (s.clock.phase = .running ∨ s.clock.phase = .held) ∧ (s.run e).withdrawn = false

theorem playLaw_iff (s : State) : playLaw s ↔ Plays s.inPlay s := by
  refine forall_congr' fun e => ⟨fun ⟨hphase, hwithdrawn, hwaiters⟩ => ⟨fun h => ⟨?_, ?_⟩, hwaiters⟩,
    fun ⟨hplay, hwaiters⟩ => ⟨fun hrunning hheld => ?_, fun hwithdrawn => ?_, hwaiters⟩⟩
  · by_contra hnot
    obtain ⟨hrunning, hheld⟩ := not_or.mp hnot
    exact h (hphase hrunning hheld)
  · exact Bool.eq_false_iff.mpr fun hin => h (hwithdrawn hin)
  · by_contra h
    exact (hplay h).1.elim hrunning hheld
  · by_contra h
    exact absurd (hwithdrawn.symm.trans (hplay h).2) (by simp)

theorem claimPlays_emptyClaim (p : Prop) : claimPlays p emptyClaim := ⟨by simp [emptyClaim], fun _ => rfl⟩

/-- Holders that stay and waiters that leave do no harm. -/
theorem claimPlays_of_less {p q : Prop} {c d : Claim} (h : claimPlays p c) (hpq : p → q) (hholder : d.holder = c.holder)
    (hwaiters : c.waiters = [] → d.waiters = []) : claimPlays q d :=
  ⟨fun hd => hpq (h.1 (hholder ▸ hd)), fun hd => hwaiters (h.2 (hholder ▸ hd))⟩

theorem plays_of_less {p q : Nat → Prop} {s t : State} (hs : Plays p s) (hpq : ∀ e, p e → q e)
    (hclaim : ∀ e, (t.claim e).holder = (s.claim e).holder ∧ ((s.claim e).waiters = [] → (t.claim e).waiters = [])) :
    Plays q t := fun e => claimPlays_of_less (hs e) (hpq e) (hclaim e).1 (hclaim e).2

theorem plays_of_claims {p q : Nat → Prop} {s t : State} (hs : Plays p s) (hpq : ∀ e, p e → q e)
    (hclaims : t.claims = s.claims) : Plays q t :=
  plays_of_less hs hpq fun e => by simp [State.claim, hclaims]

theorem plays_leaveList {p : Nat → Prop} {s : State} (hs : Plays p s) (n e : Nat) : Plays p (leaveList n e s) := by
  refine plays_of_less hs (fun _ => id) fun k => ?_
  by_cases hk : k = e
  · subst hk
    rw [leaveList_claim_same]
    exact ⟨rfl, fun h => by simp [h]⟩
  · rw [leaveList_claim_other hk]
    exact ⟨rfl, id⟩

theorem plays_leaveAllLists {p : Nat → Prop} {s : State} (hs : Plays p s) (n : Nat) : Plays p (leaveAllLists n s) :=
  plays_of_less hs (fun _ => id) fun k => by rw [leaveAllLists_claim]; exact ⟨rfl, fun h => by simp [h]⟩

/-- An element in play gets a holder (R73). -/
theorem plays_becomeHolder {p : Nat → Prop} {s : State} {e : Nat} (hs : ∀ k, k ≠ e → claimPlays (p k) (s.claim k))
    (he : p e) (hrange : 1 ≤ e ∧ e ≤ 32) (n : Nat) : Plays p (becomeHolder n e s) := by
  have hbegun : Plays p (beginHold n e s) := by
    intro k
    by_cases hk : k = e
    · subst hk
      rw [beginHold_claim_same hrange]
      exact ⟨fun _ => he, by simp⟩
    · rw [beginHold_claim_other hk]
      exact hs k hk
  have heq : becomeHolder n e s = if ((beginHold n e s).slot n).holdCount = 2 then leaveAllLists n (beginHold n e s)
      else beginHold n e s := rfl
  rw [heq]
  split
  · exact plays_leaveAllLists hbegun n
  · exact hbegun

/-- An element without a holder is handed over: where somebody waits for it, it is in play (R79). -/
theorem plays_handover {p : Nat → Prop} {s : State} {e : Nat} (hs : ∀ k, k ≠ e → claimPlays (p k) (s.claim k))
    (hholder : (s.claim e).holder = none) (he : (s.claim e).waiters ≠ [] → p e) : Plays p (handover e s) := by
  cases hw : (s.claim e).waiters with
  | nil =>
    intro k
    rw [handover_claim_of_noWaiter hw]
    by_cases hk : k = e
    · subst hk
      exact ⟨fun h => absurd hholder h, fun _ => hw⟩
    · exact hs k hk
  | cons n rest =>
    have hrange := element_range_of_waiter (s := s) (e := e) (n := n) (by simp [hw])
    rw [handover_of_waiter hw]
    refine plays_becomeHolder (fun k hk => ?_) (he (by simp [hw])) hrange n
    rw [popWaiter_claim_other hk]
    exact hs k hk

theorem plays_endHold {p : Nat → Prop} {s : State} (hs : Plays p s) {e n : Nat} (hholder : (s.claim e).holder = some n) :
    Plays p (endHold e s) :=
  plays_handover (fun k hk => by rw [dropHolder_claim_other hk]; exact hs k) (dropHolder_holder e s)
    fun _ => (hs e).1 (by simp [hholder])

theorem plays_dropClaims {p : Nat → Prop} {s : State} (hs : Plays p s) (n : Nat) : Plays p (dropClaims n s) := by
  refine foldl_inv (Plays p) _ (fun t e ht => ?_) elementNumbers _ (plays_leaveAllLists hs n)
  unfold endHoldOf
  split
  · next h => exact plays_endHold ht h
  · exact ht

theorem unheld_claim_holder_waiters {s : State} {e h : Nat} (hholder : (s.claim e).holder = some h) (withBar : Bool) :
    ((unheld h e withBar s).claim e).holder = none
      ∧ ((unheld h e withBar s).claim e).waiters = (s.claim e).waiters := by
  have he := element_range_of_holder hholder
  unfold unheld
  split
  · rw [bar_claim_same he]
    exact ⟨dropHolder_holder e s, dropHolder_claim_waiters e e s⟩
  · exact ⟨dropHolder_holder e s, dropHolder_claim_waiters e e s⟩

theorem unheld_claim_other {e k : Nat} (hk : k ≠ e) (h : Nat) (withBar : Bool) (s : State) :
    (unheld h e withBar s).claim k = s.claim k := by
  unfold unheld
  split
  · rw [bar_claim_other hk, dropHolder_claim_other hk]
  · exact dropHolder_claim_other hk s

theorem plays_setSlot {p : Nat → Prop} {s : State} (hs : Plays p s) (n : Nat) (y : Slot) : Plays p (s.setSlot n y) :=
  plays_of_claims hs (fun _ => id) rfl

theorem run_setSlot (n k : Nat) (y : Slot) (s : State) : (s.setSlot n y).run k = s.run k := rfl

theorem define_run (e k : Nat) (d : ElementDef) (s : State) :
    (define e d s).run k = if k = e ∧ 1 ≤ e ∧ e ≤ 32 then freshRun d else s.run k := by
  have hwritten : ((s.setDef e d).setRun e (freshRun d)).run k
      = if k = e ∧ 1 ≤ e ∧ e ≤ 32 then freshRun d else s.run k := run_setRun _ _ _ _
  rw [← hwritten]
  unfold define
  dsimp only
  split <;> simp [defineScore, State.run]

theorem plays_rosterMove {p : Nat → Prop} {s t : State} (h : RosterMove s t) (hs : Plays p s) : Plays p t := by
  cases h with
  | slot n y => exact plays_setSlot hs n y
  | left n y => exact plays_setSlot (plays_dropClaims hs n) n y

-- What the operations leave of the run-time parts and the actuations

theorem ClaimSteps.table {s t : State} (h : ClaimSteps s t) : t.table = s.table := by
  induction h with
  | refl => rfl
  | tail _ h ih =>
    rw [← ih]
    cases h with
    | written => rfl
    | recomputed e => simp

theorem ClaimSteps.run {s t : State} (h : ClaimSteps s t) (e : Nat) : t.run e = s.run e := by
  simp only [State.run, ClaimSteps.table h]

theorem ClaimSteps.inPlay {s t : State} (h : ClaimSteps s t) (e : Nat) : t.inPlay e = s.inPlay e := by
  simp only [State.inPlay, ClaimSteps.run h, (ClaimSteps.sameFrame h).clock]

theorem rosterMove_run {s t : State} (h : RosterMove s t) (e : Nat) : t.run e = s.run e := by
  cases h with
  | slot n y => exact run_setSlot n e y s
  | left n y => exact (run_setSlot n e y _).trans (ClaimSteps.run (claimSteps_dropClaims n s) e)

theorem rosterMoves_run {s t : State} (h : ReflTransGen RosterMove s t) (e : Nat) : t.run e = s.run e := by
  induction h with
  | refl => rfl
  | tail _ h ih => rw [rosterMove_run h, ih]

theorem Off.run {e : Nat} {s u : State} (h : Off e s u) (k : Nat) : u.run k = s.run k := by cases h <;> rfl

theorem RawOff.run {s u : State} (h : RawOff s u) (k : Nat) : u.run k = s.run k := by cases h <;> rfl

theorem inPlay_congr {s t : State} (hclock : t.clock = s.clock) (hrun : ∀ e, t.run e = s.run e) (e : Nat) :
    s.inPlay e → t.inPlay e := by
  simp only [State.inPlay, hclock, hrun]
  exact id

theorem inPlay_of_openTo {n e : Nat} {s : State} (h : openTo n e s) : s.inPlay e := by
  obtain ⟨_, _, _, hmode, _, _, hdrive⟩ := h
  refine ⟨.inl ?_, Bool.eq_false_iff.mpr fun hin => by simp [State.mode, hin] at hmode⟩
  simp only [State.driveTime, State.matchTime, Bool.and_eq_true, decide_eq_true_eq] at hdrive
  exact hdrive.1

-- The law of holders in play

theorem playLaw_of_claims {s t : State} (hs : playLaw s) (hclaims : t.claims = s.claims)
    (hplay : ∀ e, s.inPlay e → t.inPlay e) : playLaw t :=
  (playLaw_iff t).mpr (plays_of_claims ((playLaw_iff s).mp hs) hplay hclaims)

theorem playLaw_of_same {s t : State} (hs : playLaw s) (hclaims : t.claims = s.claims) (hclock : t.clock = s.clock)
    (hruns : t.table.runs = s.table.runs) : playLaw t :=
  playLaw_of_claims hs hclaims (inPlay_congr hclock fun e => by simp only [State.run, hruns])

/-- An operation on claims that keeps holders in play keeps the law. -/
theorem playLaw_of_claimSteps {s t : State} (h : ClaimSteps s t) (ht : Plays s.inPlay t) : playLaw t :=
  (playLaw_iff t).mpr fun e => by rw [ClaimSteps.inPlay h]; exact ht e

theorem playLaw_elementMove {s t : State} (h : ElementMove s t) (hs : playLaw s) : playLaw t := by
  cases h with
  | runWritten e r hin hpending =>
    refine playLaw_of_claims hs rfl fun k => ?_
    rintro ⟨hphase, hrun⟩
    refine ⟨hphase, ?_⟩
    rw [run_setRun]
    split
    · next hk =>
      obtain ⟨rfl, _⟩ := hk
      exact Bool.eq_false_iff.mpr fun h => absurd (hrun.symm.trans (hin h)) (by simp)
    · exact hrun
  | withdrawn e =>
    rw [playLaw_iff]
    intro k
    rw [emptyElement_claim]
    split
    · exact claimPlays_emptyClaim _
    · next hk =>
      refine claimPlays_of_less ((playLaw_iff s).mp hs k) ?_ rfl id
      rintro ⟨hphase, hrun⟩
      exact ⟨by simpa using hphase, by simpa [run_modRun, hk, State.run] using hrun⟩
  | _ => exact playLaw_of_same hs (by simp) (by simp) (by simp)

theorem playLaw_moves {s t : State} (h : Moves s t) (hs : playLaw s) : playLaw t :=
  kept_of_moves (R := ElementMove) (fun _ _ => playLaw_elementMove) h hs

theorem playLaw_of_empty {s : State} (h : ∀ e, s.claim e = emptyClaim) : playLaw s :=
  (playLaw_iff s).mpr fun e => by rw [h]; exact claimPlays_emptyClaim _

theorem playLaw_off {e : Nat} {s u : State} (h : Off e s u) (hs : playLaw s) : playLaw u :=
  playLaw_of_claims hs h.sameClaims.1 (inPlay_congr h.sameFrame.clock h.run)

theorem playLaw_endActuation {s : State} (hs : playLaw s) (e : Nat) (o : ActOutcome) : playLaw (endActuation e o s) :=
  playLaw_moves (moves_endActuation e o s) (playLaw_of_same hs rfl rfl rfl)

/-- The phases in which elements are held are left only with every claim cleared (R89). -/
theorem inPlay_clockMove {s : State} {c : Clock} (h : ClockMove s c) (e : Nat) (hs : s.inPlay e) :
    State.inPlay { s with clock := c } e := by
  obtain ⟨hphase, hrun⟩ := hs
  refine ⟨?_, hrun⟩
  cases h with
  | planned => exact hphase
  | staged hidle => simp [hidle] at hphase
  | started => exact .inl rfl
  | wentOn => exact .inl rfl
  | resumed => exact .inl rfl
  | held => exact .inr rfl

theorem stopClock_inPlay {s : State} {e : Nat} (h : s.inPlay e) : (stopClock s).inPlay e := by
  obtain ⟨hphase, hrun⟩ := h
  refine ⟨?_, by simpa using hrun⟩
  unfold stopClock
  split
  · exact .inr (by simp [enterHeld, enterPhase, State.makeBeaconDue])
  · exact hphase

theorem playLaw_event {s t : State} (h : Event s t) (hs : playLaw s) : playLaw t := by
  have hplays := (playLaw_iff s).mp hs
  cases h with
  | element h => exact playLaw_elementMove h hs
  | roster h =>
    rw [playLaw_iff]
    exact plays_of_less (plays_rosterMove h hplays) (inPlay_congr h.sameFrame.clock (rosterMove_run h))
      fun _ => ⟨rfl, id⟩
  | @closed t hphase h _ =>
    have hnone : Plays (fun _ => False) s := fun e => by
      refine claimPlays_of_less (hplays e) (fun hin => ?_) rfl id
      rcases hin.1 with h | h <;> simp [h] at hphase
    have ht : Plays (fun _ => False) t :=
      kept_of_moves (R := RosterMove) (fun _ _ => plays_rosterMove) h (plays_of_claims hnone (fun _ => id) rfl)
    exact (playLaw_iff _).mpr (plays_of_less ht (fun _ h => h.elim) fun _ => ⟨rfl, id⟩)
  | clock c h => exact playLaw_of_claims hs rfl (inPlay_clockMove h)
  | ended c h => exact playLaw_of_empty (clearClaims_claim _)
  | stopped c _ =>
    refine playLaw_of_claims hs (by simp) fun e he => stopClock_inPlay ?_
    exact inPlay_congr (t := { s with stop := _ }) rfl (fun _ => rfl) e he
  | startedUp g defs flags completes asserted _ => exact playLaw_of_empty (startUpWith_claim _ _ _ _ _)
  | timePassed =>
    refine (playLaw_iff _).mpr (plays_of_less hplays (fun e he => ?_) fun e => ?_)
    · obtain ⟨hphase, hrun⟩ := he
      exact ⟨by simpa [passTime, tickClock] using hphase, by simpa [State.run, passTime] using hrun⟩
    · rw [passTime_claim]
      exact ⟨rfl, id⟩
  | elementDefined e d =>
    refine playLaw_of_claims hs (by simp) fun k hk => ?_
    obtain ⟨hphase, hrun⟩ := hk
    refine ⟨by simpa using hphase, ?_⟩
    rw [define_run]
    split
    · rfl
    · exact hrun
  | withdrawalAsked e =>
    refine playLaw_of_claims hs rfl fun k hk => ⟨hk.1, ?_⟩
    rw [run_modRun]
    split
    · next heq => exact heq.1 ▸ hk.2
    · exact hk.2
  | granted n e hopen =>
    have hplay := inPlay_of_openTo hopen
    obtain ⟨hlow, hhigh, _⟩ := hopen
    exact playLaw_of_claimSteps (claimSteps_becomeHolder n e s)
      (plays_becomeHolder (fun k _ => hplays k) hplay ⟨hlow, hhigh⟩ n)
  | joined n e h hopen hholder =>
    obtain ⟨hlow, hhigh, _⟩ := hopen
    refine playLaw_of_claimSteps (claimSteps_joinList n e s) fun k => ?_
    by_cases hk : k = e
    · subst hk
      rw [joinList_claim_same ⟨hlow, hhigh⟩]
      exact ⟨(hplays k).1, by simp [hholder]⟩
    · rw [joinList_claim_other hk]
      exact hplays k
  | leftList n e => exact playLaw_of_claimSteps (claimSteps_leaveList n e s) (plays_leaveList hplays n e)
  | holdEnded h e withBar a hholder =>
    obtain ⟨hnone, hwaiters⟩ := unheld_claim_holder_waiters hholder withBar
    have hplay := (hplays e).1 (by simp [hholder])
    have ht : Plays s.inPlay (handover e { unheld h e withBar s with attention := a }) :=
      plays_handover (fun k hk => by
        have hsame : ({ unheld h e withBar s with attention := a } : State).claim k = s.claim k :=
          unheld_claim_other hk h withBar s
        rw [hsame]
        exact hplays k) hnone fun _ => hplay
    refine (playLaw_iff _).mpr (plays_of_less ht (fun k hk => ?_) fun _ => ⟨rfl, id⟩)
    have hrun : ∀ j, (handover e { unheld h e withBar s with attention := a }).run j = s.run j := fun j =>
      (ClaimSteps.run (claimSteps_handover e _) j).trans (ClaimSteps.run (claimSteps_unheld h e withBar s) j)
    exact inPlay_congr (sameFrame_holdEnded h e withBar a s).clock hrun k hk
  | unbarred e =>
    refine (playLaw_iff _).mpr (plays_of_less hplays (fun _ => id) fun k => ?_)
    rw [claim_setClaim]
    split
    · next h => simp [h.1]
    · exact ⟨rfl, id⟩
  | actuationStarted e argument t timer _ _ hw =>
    exact playLaw_of_same (playLaw_moves hw (playLaw_of_same hs rfl rfl rfl)) rfl rfl rfl
  | actuationEnded e o hu hw => exact playLaw_endActuation (playLaw_moves hw (playLaw_off hu hs)) e o
  | passArrived p _ hu hw =>
    have hoff := playLaw_of_claims hs hu.sameClaims.1 (inPlay_congr hu.sameFrame.clock hu.run)
    exact playLaw_of_same (playLaw_moves hw hoff) rfl rfl rfl
  | _ => exact playLaw_of_same hs (by simp) (by simp) (by simp)

-- The law of withdrawals

/-- No withdrawal is both in force and pending, and one is pending only where an element is busy (R51). -/
def WithdrawalsBehind (busy : Nat → Prop) (s : State) : Prop :=
  ∀ e, ¬((s.run e).withdrawn = true ∧ (s.run e).withdrawPending = true) ∧ ((s.run e).withdrawPending = true → busy e)

/-- An actuation of the element is outstanding. -/
def State.busy (s : State) (e : Nat) : Prop := (s.act e).state ≠ .none

theorem withdrawalLaw_iff (s : State) : withdrawalLaw s ↔ WithdrawalsBehind s.busy s := Iff.rfl

theorem withdrawalsBehind_of_run {p q : Nat → Prop} {s t : State} (hs : WithdrawalsBehind p s)
    (hrun : ∀ e, t.run e = s.run e) (hpq : ∀ e, p e → q e) : WithdrawalsBehind q t := fun e => by
  rw [hrun]
  exact ⟨(hs e).1, fun h => hpq e ((hs e).2 h)⟩

theorem withdrawalLaw_of_acts {s t : State} (hs : withdrawalLaw s) (hrun : ∀ e, t.run e = s.run e)
    (hact : ∀ e, s.busy e → t.busy e) : withdrawalLaw t := withdrawalsBehind_of_run hs hrun hact

theorem busy_congr {s t : State} (hacts : t.bus.acts = s.bus.acts) (e : Nat) : s.busy e → t.busy e := by
  simp only [State.busy, State.act, hacts]
  exact id

theorem withdrawalLaw_of_same {s t : State} (hs : withdrawalLaw s) (hruns : t.table.runs = s.table.runs)
    (hacts : t.bus.acts = s.bus.acts) : withdrawalLaw t :=
  withdrawalLaw_of_acts hs (fun e => by simp only [State.run, hruns]) (busy_congr hacts)

theorem withdrawalLaw_claimSteps {s t : State} (h : ClaimSteps s t) (hs : withdrawalLaw s) : withdrawalLaw t :=
  withdrawalLaw_of_same hs (by rw [ClaimSteps.table h]) (sameBus_claimSteps h).acts

/-- One run-time part changes: where its withdrawal is pending, it is not in force and the element is busy. -/
theorem withdrawalsBehind_setRun {p : Nat → Prop} {s : State} (hs : WithdrawalsBehind p s) {e : Nat} {r : ElementRun}
    (h : r.withdrawPending = true → r.withdrawn = false ∧ p e) : WithdrawalsBehind p (s.setRun e r) := by
  intro k
  rw [run_setRun]
  split
  · next hk =>
    obtain ⟨rfl, _⟩ := hk
    exact ⟨fun ⟨hin, hpending⟩ => absurd ((h hpending).1.symm.trans hin) (by simp), fun hpending => (h hpending).2⟩
  · exact hs k

theorem withdrawalsBehind_elementMove {p : Nat → Prop} {s t : State} (h : ElementMove s t)
    (hs : WithdrawalsBehind p s) : WithdrawalsBehind p t := by
  cases h with
  | runWritten e r hin hpending =>
    refine withdrawalsBehind_setRun hs fun h => ⟨Bool.eq_false_iff.mpr fun hr => ?_, (hs e).2 (hpending h)⟩
    exact (hs e).1 ⟨hin hr, hpending h⟩
  | withdrawn e =>
    have hset : WithdrawalsBehind p (s.modRun e fun r => { r with withdrawn := true, withdrawPending := false }) :=
      withdrawalsBehind_setRun hs (by simp)
    exact withdrawalsBehind_of_run hset (ClaimSteps.run (claimSteps_emptyElement e _)) fun _ => id
  | _ => exact withdrawalsBehind_of_run hs (by simp [State.run]) fun _ => id

theorem withdrawalsBehind_moves {p : Nat → Prop} {s t : State} (h : Moves s t) (hs : WithdrawalsBehind p s) :
    WithdrawalsBehind p t := kept_of_moves (R := ElementMove) (fun _ _ => withdrawalsBehind_elementMove) h hs

theorem withdrawalLaw_elementMove {s t : State} (h : ElementMove s t) (hs : withdrawalLaw s) : withdrawalLaw t :=
  withdrawalsBehind_of_run (withdrawalsBehind_elementMove h hs) (fun _ => rfl) (busy_congr h.sameBus.acts)

theorem withdrawalLaw_moves {s t : State} (h : Moves s t) (hs : withdrawalLaw s) : withdrawalLaw t :=
  withdrawalsBehind_of_run (withdrawalsBehind_moves h hs) (fun _ => rfl) (busy_congr (Moves.sameBus h).acts)

theorem run_outside {e : Nat} (he : ¬(1 ≤ e ∧ e ≤ 32)) (s : State) : s.run e = freshRun undefinedElement :=
  at1_outside _ _ _ (by simpa using he)

/-- No withdrawal is pending behind the end of the element's actuation (R57). -/
theorem endActuation_notPending (e : Nat) (o : ActOutcome) (s : State) :
    ((endActuation e o s).run e).withdrawPending = false := by
  by_cases he : 1 ≤ e ∧ e ≤ 32
  · have hend : (endActuation e o s).run e
        = (actuationEnded e o (refundCharge e o (s.act e).charge (s.setAct e restAct))).run e := by simp [endActuation]
    rw [hend, actuationEnded_eq]
    split
    · have hrun (u : State) : (withdrawNow e u).run e = { u.run e with withdrawn := true, withdrawPending := false } := by
        unfold withdrawNow
        simp [clearAccumulator, State.run, State.modRun, at1_set1, he]
      rw [hrun]
    · next h => exact Bool.eq_false_iff.mpr h
  · rw [run_outside he]
    rfl

theorem withdrawalLaw_endActuation {s : State} (hs : withdrawalLaw s) (e : Nat) (o : ActOutcome) :
    withdrawalLaw (endActuation e o s) := by
  have hrest : WithdrawalsBehind s.busy (s.setAct e restAct) := withdrawalsBehind_of_run hs (fun _ => rfl) fun _ => id
  have hended := withdrawalsBehind_moves (moves_endActuation e o s) hrest
  refine fun k => ⟨(hended k).1, fun hpending => ?_⟩
  have hk : k ≠ e := fun hk => by simp [hk, endActuation_notPending] at hpending
  have hact : (endActuation e o s).act k = s.act k :=
    (SameBus.act (sameBus_endActuation e o s) k).trans (by simp [act_setAct, hk])
  rw [hact]
  exact (hended k).2 hpending

theorem withdrawalLaw_off {e : Nat} {s u : State} (h : Off e s u) (hs : withdrawalLaw s) : withdrawalLaw u := by
  cases h with
  | inFlight => exact hs
  | answered => exact withdrawalLaw_of_same hs rfl rfl
  | discarded x => exact withdrawalLaw_of_same hs rfl rfl

theorem withdrawalLaw_rawOff {s u : State} (h : RawOff s u) (hs : withdrawalLaw s) : withdrawalLaw u := by
  cases h with
  | answered => exact withdrawalLaw_of_same hs rfl rfl
  | discarded x => exact withdrawalLaw_of_same hs rfl rfl

theorem withdrawalLaw_event {s t : State} (h : Event s t) (hs : withdrawalLaw s) : withdrawalLaw t := by
  cases h with
  | element h => exact withdrawalLaw_elementMove h hs
  | roster h =>
    exact withdrawalLaw_of_acts hs (rosterMove_run h) (busy_congr (sameBus_rosterMove h).acts)
  | closed _ h _ =>
    have hidle : withdrawalLaw { s with clock := { s.clock with
        phase := .idle, index := 0, remaining := 0, mark := .none, graceTimer := none } } :=
      withdrawalLaw_of_same hs rfl rfl
    exact withdrawalLaw_of_acts hidle (rosterMoves_run h) (busy_congr (sameBus_closed h).acts)
  | ended c h => exact withdrawalLaw_claimSteps (claimSteps_clearClaims _) (withdrawalLaw_of_same hs rfl rfl)
  | startedUp g defs flags completes asserted _ =>
    intro e
    have hrun : ((startUpWith g defs flags completes { s with resetAsserted := asserted }).run e)
        = freshRun (at1 defs e undefinedElement) := by
      simp only [State.run, startUpWith, recomputeAll_frame, resetTable]
      exact at1_mapTable _ _ _ _ _ rfl
    rw [hrun]
    exact ⟨by simp [freshRun], by simp [freshRun]⟩
  | timePassed =>
    refine withdrawalLaw_of_acts hs (fun e => by simp [State.run, passTime]) fun e he => ?_
    have hact : (passTime s).act e = { s.act e with timer := tickTimer (s.act e).timer } := by
      simp only [State.act, passTime, tickTowers_frame, tickBus]
      exact at1_mapTable _ _ _ _ _ rfl
    rw [State.busy, hact]
    exact he
  | elementDefined e d =>
    have hacts : (define e d s).bus.acts = s.bus.acts := by simp
    intro k
    rw [define_run]
    split
    · exact ⟨by simp [freshRun], by simp [freshRun]⟩
    · exact ⟨(hs k).1, fun h => busy_congr hacts k ((hs k).2 h)⟩
  | withdrawalAsked e hact hin => exact withdrawalsBehind_setRun hs fun _ => ⟨hin, hact⟩
  | granted n e => exact withdrawalLaw_claimSteps (claimSteps_becomeHolder n e s) hs
  | joined n e => exact withdrawalLaw_claimSteps (claimSteps_joinList n e s) hs
  | leftList n e => exact withdrawalLaw_claimSteps (claimSteps_leaveList n e s) hs
  | holdEnded h e withBar a =>
    have hunheld := withdrawalLaw_claimSteps (claimSteps_unheld h e withBar s) hs
    have hflagged : withdrawalLaw { unheld h e withBar s with attention := a } := withdrawalLaw_of_same hunheld rfl rfl
    exact withdrawalLaw_claimSteps (claimSteps_handover e _) hflagged
  | actuationQueued e argument o c =>
    refine withdrawalLaw_of_acts hs (fun _ => rfl) fun k => ?_
    rw [State.busy, State.busy, queueActuation, act_setAct]
    split
    · exact fun _ => by simp
    · exact id
  | actuationStarted e argument t timer _ _ hw =>
    refine withdrawalLaw_of_acts (withdrawalLaw_moves hw (withdrawalLaw_of_same hs rfl rfl)) (fun _ => rfl) fun k => ?_
    rw [State.busy, State.busy, act_setAct]
    split
    · exact fun _ => by simp
    · exact id
  | actuationEnded e o hu hw =>
    exact withdrawalLaw_endActuation (withdrawalLaw_moves hw (withdrawalLaw_off hu hs)) e o
  | passArrived p _ hu hw =>
    exact withdrawalLaw_of_same (withdrawalLaw_moves hw (withdrawalLaw_rawOff hu hs)) rfl rfl
  | _ => exact withdrawalLaw_of_same hs (by simp) (by simp)

/-- Settles O55, by the moves of a step: each keeps the law of holders in play, and each the law of withdrawals. -/
theorem playAndWithdrawalLawsKeptByEveryStep : Obligations.PlayAndWithdrawalLawsKeptByEveryStep :=
  ⟨fun _ _ hs h => kept_of_step (fun _ _ => playLaw_event) hs h,
    fun _ _ hs h => kept_of_step (fun _ _ => withdrawalLaw_event) hs h⟩

end Sys2Proof.Machine
end

section
/-! PROOFS. The Roster's law of states, disables and timers (R19, R20, R31, R35, R38, R43) under every move. -/

namespace Sys2Proof.Machine

open Relation (ReflTransGen)

/-- The slot records are as they were in what the laws read of them beside their counts. -/
structure SameSlots (s t : State) : Prop where
  state : ∀ n, (t.slot n).state = (s.slot n).state
  alliance : ∀ n, (t.slot n).alliance = (s.slot n).alliance
  permitted : ∀ n, (t.slot n).permitted = (s.slot n).permitted
  disable : ∀ n, (t.slot n).disable = (s.slot n).disable
  confirmTimer : ∀ n, (t.slot n).confirmTimer = (s.slot n).confirmTimer
  silenceTimer : ∀ n, (t.slot n).silenceTimer = (s.slot n).silenceTimer

theorem sameSlots_of_slots {s t : State} (h : t.roster.slots = s.roster.slots) : SameSlots s t := by
  have hslot n : t.slot n = s.slot n := by simp only [State.slot, h]
  exact ⟨by simp [hslot], by simp [hslot], by simp [hslot], by simp [hslot], by simp [hslot], by simp [hslot]⟩

theorem SameSlots.refl (s : State) : SameSlots s s := sameSlots_of_slots rfl

theorem SameSlots.trans {s t u : State} (h : SameSlots s t) (h' : SameSlots t u) : SameSlots s u :=
  ⟨fun n => (h'.state n).trans (h.state n), fun n => (h'.alliance n).trans (h.alliance n),
    fun n => (h'.permitted n).trans (h.permitted n), fun n => (h'.disable n).trans (h.disable n),
    fun n => (h'.confirmTimer n).trans (h.confirmTimer n), fun n => (h'.silenceTimer n).trans (h.silenceTimer n)⟩

theorem sameSlots_unheld (h e : Nat) (withBar : Bool) (s : State) : SameSlots s (unheld h e withBar s) := by
  have hdropped : SameSlots s (dropHolder e s) := ⟨by simp, by simp, by simp, by simp, by simp, by simp⟩
  unfold unheld
  split
  · refine hdropped.trans ?_
    unfold bar
    split
    · exact .refl _
    · exact sameSlots_of_slots rfl
  · exact hdropped

theorem sameSlots_handover (e : Nat) (s : State) : SameSlots s (handover e s) :=
  ⟨by simp, by simp, by simp, by simp, by simp, by simp⟩

theorem sameSlots_dropClaims (n : Nat) (s : State) : SameSlots s (dropClaims n s) :=
  ⟨by simp, by simp, by simp, by simp, by simp, by simp⟩

theorem ElementMove.sameSlots {s t : State} (h : ElementMove s t) : SameSlots s t := by
  cases h with
  | withdrawn e => exact ⟨by simp, by simp, by simp, by simp, by simp, by simp⟩
  | _ => exact sameSlots_of_slots (by simp)

theorem Moves.sameSlots {s t : State} (h : Moves s t) : SameSlots s t := by
  induction h with
  | refl => exact .refl s
  | tail _ h ih => exact ih.trans h.sameSlots

theorem sameSlots_clearClaims (s : State) : SameSlots s (clearClaims s) :=
  ⟨by simp, by simp, by simp, by simp, by simp, by simp⟩

theorem sameSlots_becomeHolder (n e : Nat) (s : State) : SameSlots s (becomeHolder n e s) :=
  ⟨by simp, by simp, by simp, by simp, by simp, by simp⟩

theorem sameSlots_joinList (n e : Nat) (s : State) : SameSlots s (joinList n e s) :=
  ⟨by simp, by simp, by simp, by simp, by simp, by simp⟩

theorem sameSlots_leaveList (n e : Nat) (s : State) : SameSlots s (leaveList n e s) :=
  ⟨by simp, by simp, by simp, by simp, by simp, by simp⟩

theorem sameSlots_holdEnded (h e : Nat) (withBar : Bool) (a : Attention) (s : State) :
    SameSlots s (handover e { unheld h e withBar s with attention := a }) := by
  have hflagged : SameSlots (unheld h e withBar s) { unheld h e withBar s with attention := a } :=
    sameSlots_of_slots rfl
  exact ((sameSlots_unheld h e withBar s).trans hflagged).trans (sameSlots_handover e _)

theorem sameSlots_actuationStarted {e : Nat} {a : ActRecord} {s w : State}
    (hw : Moves { s with bus := { s.bus with current := none } } w) : SameSlots s (w.setAct e a) := by
  have hfreed : SameSlots s { s with bus := { s.bus with current := none } } := sameSlots_of_slots rfl
  exact (hfreed.trans (Moves.sameSlots hw)).trans (sameSlots_of_slots rfl)

theorem sameSlots_actuationEnded {e : Nat} {o : ActOutcome} {s u w : State} (hu : Off e s u) (hw : Moves u w) :
    SameSlots s (endActuation e o w) := by
  have hoff : SameSlots s u := sameSlots_of_slots (by rw [hu.sameClaims.2])
  have hrest : SameSlots w (w.setAct e restAct) := sameSlots_of_slots rfl
  exact ((hoff.trans (Moves.sameSlots hw)).trans hrest).trans (Moves.sameSlots (moves_endActuation e o w))

theorem sameSlots_passArrived {p : PassSlot} {s u w : State} (hu : RawOff s u) (hw : Moves u w) :
    SameSlots s (w.setPass p) := by
  have hoff : SameSlots s u := sameSlots_of_slots (by rw [hu.sameClaims.2])
  exact (hoff.trans (Moves.sameSlots hw)).trans (sameSlots_of_slots rfl)

-- The law of one slot record, and of all

/-- The Roster's law of one slot record. -/
structure SlotLaw (x : Slot) : Prop where
  permitted : x.state ≠ .empty → x.permitted ≠ 0
  disabled : x.state = .disabled → x.disable.isSome = true
  admitted : x.state = .admitted → x.disable = none
  confirm : x.confirmTimer.isSome = true ↔ x.state = .offered
  silence : x.silenceTimer.isSome = true ↔ x.state = .admitted ∨ x.state = .disabled

/-- In IDLE only EMPTY and EXPECTED slots exist (R43). -/
def IdleLaw (s : State) : Prop :=
  s.clock.phase = .idle → ∀ n, (s.slot n).state = .empty ∨ (s.slot n).state = .expected

theorem rosterLaw_iff (s : State) : rosterLaw s ↔ IdleLaw s ∧ ∀ n, SlotLaw (s.slot n) := by
  constructor
  · intro h
    exact ⟨fun hidle n => (h n).1 hidle, fun n => ⟨(h n).2.1, (h n).2.2.1, (h n).2.2.2.1, (h n).2.2.2.2.1, (h n).2.2.2.2.2⟩⟩
  · rintro ⟨hidle, h⟩ n
    exact ⟨fun hphase => hidle hphase n, (h n).permitted, (h n).disabled, (h n).admitted, (h n).confirm, (h n).silence⟩

theorem SameSlots.slotLaw {s t : State} (h : SameSlots s t) {n : Nat} (hs : SlotLaw (s.slot n)) : SlotLaw (t.slot n) where
  permitted := by rw [h.state, h.permitted]; exact hs.permitted
  disabled := by rw [h.state, h.disable]; exact hs.disabled
  admitted := by rw [h.state, h.disable]; exact hs.admitted
  confirm := by rw [h.state, h.confirmTimer]; exact hs.confirm
  silence := by rw [h.state, h.silenceTimer]; exact hs.silence

theorem SameSlots.rosterLaw {s t : State} (h : SameSlots s t) (hphase : t.clock.phase = .idle → s.clock.phase = .idle)
    (hs : rosterLaw s) : rosterLaw t := by
  rw [rosterLaw_iff] at hs ⊢
  exact ⟨fun hidle n => by rw [h.state]; exact hs.1 (hphase hidle) n, fun n => h.slotLaw (hs.2 n)⟩

theorem slotLaw_of_slotMove {s : State} {x y : Slot} (h : SlotMove s x y) (hx : SlotLaw x) : SlotLaw y := by
  obtain ⟨hpermitted, hdisabled, hadmitted, hconfirm, hsilence⟩ := hx
  cases h with
  | registered => constructor <;> simp [registeredSlot, vacantSlot, allTiers]
  | vacated => constructor <;> simp [vacantSlot]
  | disabled d hempty =>
    by_cases hstate : x.state = .admitted
    · constructor <;> simp_all [disableSlot]
    · constructor <;> simp_all [disableSlot]
  | enabled =>
    by_cases hstate : x.state = .disabled
    · constructor <;> simp_all [endDisable]
    · constructor <;> simp_all [endDisable]
  | undisabled hstate => rcases hstate with hstate | hstate <;> constructor <;> simp_all
  | tiersRestored => exact ⟨by simp [allTiers], hdisabled, hadmitted, hconfirm, hsilence⟩
  | advertised => exact ⟨hpermitted, hdisabled, hadmitted, hconfirm, hsilence⟩
  | returned a hempty => constructor <;> simp_all [toExpected]
  | lost hstate => rcases hstate with hstate | hstate <;> constructor <;> simp_all [toLost]
  | offered a tier cap wasLost _ hempty => constructor <;> simp_all [toOffered]
  | offerRepeated t hstate => constructor <;> simp_all
  | admitted hstate => cases hd : x.disable <;> constructor <;> simp_all [toAdmitted]
  | lapsed attempts permitted hstate hp => cases hl : x.wasLost <;> constructor <;> simp_all [lapseOffer]
  | heard t hstate => constructor <;> simp_all

/-- In IDLE a slot record stays EMPTY or EXPECTED: robots are offered tiers in no other phase (R26, R43). -/
theorem idle_slotMove {s : State} {x y : Slot} (h : SlotMove s x y) (hidle : s.clock.phase = .idle)
    (hx : x.state = .empty ∨ x.state = .expected) : y.state = .empty ∨ y.state = .expected := by
  cases h with
  | registered => exact .inr rfl
  | vacated => exact .inl rfl
  | disabled d => rcases hx with hx | hx <;> simp [disableSlot, hx]
  | enabled => rcases hx with hx | hx <;> simp [endDisable, hx]
  | returned => exact .inr rfl
  | lost hstate => rcases hx with hx | hx <;> simp [hx] at hstate
  | offered _ _ _ _ hphase => exact absurd hidle hphase
  | offerRepeated t hstate => rcases hx with hx | hx <;> simp [hx] at hstate
  | admitted hstate => rcases hx with hx | hx <;> simp [hx] at hstate
  | lapsed _ _ hstate => rcases hx with hx | hx <;> simp [hx] at hstate
  | _ => exact hx

theorem slotLaw_setSlot {s : State} (hs : ∀ k, SlotLaw (s.slot k)) {n : Nat} {y : Slot} (hy : SlotLaw y) (k : Nat) :
    SlotLaw ((s.setSlot n y).slot k) := by
  rw [slot_setSlot]
  split
  · exact hy
  · exact hs k

theorem slotLaw_rosterMove {s t : State} (h : RosterMove s t) (hs : ∀ n, SlotLaw (s.slot n)) :
    ∀ n, SlotLaw (t.slot n) := by
  cases h with
  | slot n y h => exact slotLaw_setSlot hs (slotLaw_of_slotMove h (hs n))
  | left n y h =>
    have hdropped k := (sameSlots_dropClaims n s).slotLaw (hs k)
    exact slotLaw_setSlot hdropped (slotLaw_of_slotMove h (hdropped n))

theorem idleLaw_setSlot {s : State} (hs : IdleLaw s) {n : Nat} {y : Slot}
    (hy : s.clock.phase = .idle → y.state = .empty ∨ y.state = .expected) : IdleLaw (s.setSlot n y) := by
  intro hidle k
  rw [slot_setSlot]
  split
  · exact hy hidle
  · exact hs hidle k

theorem idleLaw_rosterMove {s t : State} (h : RosterMove s t) (hs : IdleLaw s) : IdleLaw t := by
  cases h with
  | slot n y h => exact idleLaw_setSlot hs fun hidle => idle_slotMove h hidle (hs hidle n)
  | left n y h =>
    have hsame := sameSlots_dropClaims n s
    have hclock : (dropClaims n s).clock = s.clock := by simp
    have hdropped : IdleLaw (dropClaims n s) := fun hidle k => by
      rw [hsame.state]
      exact hs (hclock ▸ hidle) k
    refine idleLaw_setSlot hdropped fun hidle => idle_slotMove h (hclock ▸ hidle) (hdropped hidle n)

theorem slotLaw_vacant : SlotLaw vacantSlot := by constructor <;> simp [vacantSlot]

theorem slotLaw_tickSlot {x : Slot} (hx : SlotLaw x) (m : Bool) : SlotLaw (tickSlot m x) := by
  obtain ⟨hpermitted, hdisabled, hadmitted, hconfirm, hsilence⟩ := hx
  have hsome : (tickDisable m x.disable).isSome = x.disable.isSome := by
    rcases x.disable with _ | _ | _ <;> rfl
  refine ⟨hpermitted, fun h => hsome.trans (hdisabled h), fun h => ?_, by simpa [tickSlot, tickTimer] using hconfirm,
    by simpa [tickSlot, tickTimer] using hsilence⟩
  simp [tickSlot, hadmitted h, tickDisable]

theorem rosterLaw_of_slots {s t : State} (hs : rosterLaw s) (hslots : t.roster.slots = s.roster.slots)
    (hphase : t.clock.phase = .idle → s.clock.phase = .idle) : rosterLaw t :=
  (sameSlots_of_slots hslots).rosterLaw hphase hs

theorem SameFrame.idle {s t : State} (h : SameFrame s t) : t.clock.phase = .idle → s.clock.phase = .idle := by
  rw [h.clock]
  exact id

theorem rosterLaw_event {s t : State} (h : Event s t) (hs : rosterLaw s) : rosterLaw t := by
  cases h with
  | element h => exact h.sameSlots.rosterLaw h.sameFrame.idle hs
  | roster h =>
    rw [rosterLaw_iff] at hs ⊢
    exact ⟨idleLaw_rosterMove h hs.1, slotLaw_rosterMove h hs.2⟩
  | closed _ h hslots =>
    rw [rosterLaw_iff] at hs ⊢
    refine ⟨fun _ => hslots, ?_⟩
    exact kept_of_moves (R := RosterMove) (P := fun s => ∀ n, SlotLaw (s.slot n)) (fun _ _ => slotLaw_rosterMove) h hs.2
  | clock c h => exact rosterLaw_of_slots hs rfl (by cases h <;> simp_all)
  | ended c h =>
    have hphase : c.phase ≠ .idle := by cases h <;> simp
    have hclock : rosterLaw { s with clock := c } := rosterLaw_of_slots hs rfl fun h => absurd h hphase
    exact (sameSlots_clearClaims _).rosterLaw (by simp) hclock
  | stopped c _ =>
    refine rosterLaw_of_slots hs (by simp) ?_
    unfold stopClock
    split
    · simp [enterHeld, enterPhase, State.makeBeaconDue]
    · exact id
  | startedUp g defs flags completes asserted _ =>
    rw [rosterLaw_iff]
    have hslot n : (startUpWith g defs flags completes { s with resetAsserted := asserted }).slot n = vacantSlot :=
      startUpWith_slot _ _ _ _ _ n
    exact ⟨fun _ n => .inl (by rw [hslot]; rfl), fun n => by rw [hslot]; exact slotLaw_vacant⟩
  | timePassed =>
    rw [rosterLaw_iff] at hs ⊢
    refine ⟨fun hidle n => ?_, fun n => by rw [passTime_slot]; exact slotLaw_tickSlot (hs.2 n) _⟩
    rw [passTime_slot]
    exact hs.1 (by simpa [passTime, tickClock] using hidle) n
  | granted n e =>
    exact (sameSlots_becomeHolder n e s).rosterLaw (ClaimSteps.sameFrame (claimSteps_becomeHolder n e s)).idle hs
  | joined n e => exact (sameSlots_joinList n e s).rosterLaw (ClaimSteps.sameFrame (claimSteps_joinList n e s)).idle hs
  | leftList n e =>
    exact (sameSlots_leaveList n e s).rosterLaw (ClaimSteps.sameFrame (claimSteps_leaveList n e s)).idle hs
  | holdEnded h e withBar a =>
    exact (sameSlots_holdEnded h e withBar a s).rosterLaw (sameFrame_holdEnded h e withBar a s).idle hs
  | actuationStarted e argument t timer _ _ hw =>
    exact (sameSlots_actuationStarted hw).rosterLaw (sameFrame_actuationStarted hw).idle hs
  | actuationEnded e o hu hw =>
    exact (sameSlots_actuationEnded hu hw).rosterLaw (sameFrame_actuationEnded hu hw).idle hs
  | passArrived p _ hu hw => exact (sameSlots_passArrived hu hw).rosterLaw (sameFrame_passArrived hu hw).idle hs
  | _ => exact rosterLaw_of_slots hs (by simp) (by simp)

/-- Settles O56, by the moves of a step: each keeps the law of every slot record, and in IDLE their states. -/
theorem rosterLawKeptByEveryStep : Obligations.RosterLawKeptByEveryStep := fun _ _ hs h =>
  kept_of_step (fun _ _ => rosterLaw_event) hs h

end Sys2Proof.Machine
end

section
/-! PROOFS. The places of queues and lists, the range of scores and settings, and alliances within ALLIANCE COUNT (R22, R25,
R47, R97, R98, R124, R154, R158, R186, R187), under every move. -/

namespace Sys2Proof.Machine

open Relation (ReflTransGen)

-- The scores (R124)

/-- An alliance record within two bytes. -/
def recordFits (r : AllianceRecord) : Prop := r.score ≤ 65535 ∧ r.penalty ≤ 65535 ∧ r.clampLoss ≤ 65535

theorem scoreLaw_iff (s : State) : scoreLaw s ↔ ∀ a, recordFits (s.alliance a) := Iff.rfl

theorem scoreLaw_of_same {s t : State} (hs : scoreLaw s) (h : t.score.alliances = s.score.alliances) : scoreLaw t :=
  fun a => by simpa only [State.alliance, h] using hs a

theorem scoreLaw_setAlliance {s : State} (hs : scoreLaw s) (a : Nat) {r : AllianceRecord} (hr : recordFits r) :
    scoreLaw (s.setAlliance a r) := by
  intro k
  rw [alliance_setAlliance]
  split
  · exact hr
  · exact hs k

theorem satAdd_le (a b : Nat) : satAdd a b ≤ 65535 := by
  unfold satAdd countLimit
  omega

theorem scoreLaw_addPoints {s : State} (hs : scoreLaw s) (a n : Nat) : scoreLaw (addPoints a n s) := by
  obtain ⟨_, hpenalty, hloss⟩ := hs a
  unfold addPoints
  dsimp only
  split
  · next hfits => exact scoreLaw_setAlliance hs a ⟨hfits, hpenalty, hloss⟩
  · have hclamped : recordFits { s.alliance a with
        score := countLimit, clampLoss := satAdd (s.alliance a).clampLoss ((s.alliance a).score + n - countLimit) } :=
      ⟨le_rfl, hpenalty, satAdd_le _ _⟩
    exact scoreLaw_of_same (scoreLaw_setAlliance hs a hclamped) rfl

theorem scoreLaw_takePoints {s : State} (hs : scoreLaw s) (a n : Nat) : scoreLaw (takePoints a n s) := by
  obtain ⟨hscore, _, hloss⟩ := hs a
  unfold takePoints
  dsimp only
  split
  · exact scoreLaw_setAlliance hs a ⟨by simp only; omega, satAdd_le _ _, hloss⟩
  · exact scoreLaw_of_same (scoreLaw_setAlliance hs a ⟨by simp, satAdd_le _ _, satAdd_le _ _⟩) rfl

theorem scoreLaw_fresh {s : State} {defs : Vector ElementDef 32} (h : s.score = freshScores defs) : scoreLaw s := by
  intro a
  have hzero : s.alliance a = zeroAlliance := by simp [State.alliance, h, freshScores]
  rw [hzero]
  exact ⟨by simp [zeroAlliance], by simp [zeroAlliance], by simp [zeroAlliance]⟩

theorem ClaimSteps.alliances {s t : State} (h : ClaimSteps s t) : t.score.alliances = s.score.alliances := by
  induction h with
  | refl => rfl
  | tail _ h ih =>
    rw [← ih]
    cases h with
    | written => rfl
    | recomputed e => simp

theorem scoreLaw_elementMove {s t : State} (h : ElementMove s t) (hs : scoreLaw s) : scoreLaw t := by
  cases h with
  | pointsAdded a n => exact scoreLaw_addPoints hs a n
  | pointsTaken a n => exact scoreLaw_takePoints hs a n
  | _ => exact scoreLaw_of_same hs (by simp)

theorem scoreLaw_moves {s t : State} (h : Moves s t) (hs : scoreLaw s) : scoreLaw t :=
  kept_of_moves (R := ElementMove) (fun _ _ => scoreLaw_elementMove) h hs

theorem rosterMove_alliances {s t : State} (h : RosterMove s t) : t.score.alliances = s.score.alliances := by
  have hset (u : State) (n : Nat) (y : Slot) : (u.setSlot n y).score.alliances = u.score.alliances := rfl
  cases h with
  | slot n y => exact hset s n y
  | left n y => exact (hset _ n y).trans (ClaimSteps.alliances (claimSteps_dropClaims n s))

theorem Off.score {e : Nat} {s u : State} (h : Off e s u) : u.score = s.score := by cases h <;> rfl

theorem RawOff.score {s u : State} (h : RawOff s u) : u.score = s.score := by cases h <;> rfl

theorem scoreLaw_event {s t : State} (h : Event s t) (hs : scoreLaw s) : scoreLaw t := by
  cases h with
  | element h => exact scoreLaw_elementMove h hs
  | roster h => exact scoreLaw_of_same hs (rosterMove_alliances h)
  | closed _ h _ =>
    exact kept_of_moves (R := RosterMove) (P := scoreLaw) (fun _ _ h hs => scoreLaw_of_same hs (rosterMove_alliances h)) h
      (scoreLaw_of_same hs rfl)
  | ended c h =>
    have hcleared := ClaimSteps.alliances (claimSteps_clearClaims { s with clock := c })
    exact scoreLaw_of_same hs hcleared
  | startedUp g defs flags completes asserted _ => exact scoreLaw_fresh (defs := defs) (by simp [startUpWith])
  | scoresSet => exact scoreLaw_fresh (defs := s.table.defs) rfl
  | timePassed => exact scoreLaw_of_same hs (by simp [passTime])
  | granted n e => exact scoreLaw_of_same hs (ClaimSteps.alliances (claimSteps_becomeHolder n e s))
  | joined n e => exact scoreLaw_of_same hs (ClaimSteps.alliances (claimSteps_joinList n e s))
  | leftList n e => exact scoreLaw_of_same hs (ClaimSteps.alliances (claimSteps_leaveList n e s))
  | holdEnded h e withBar a =>
    have hunheld := ClaimSteps.alliances (claimSteps_unheld h e withBar s)
    exact scoreLaw_of_same hs ((ClaimSteps.alliances (claimSteps_handover e _)).trans hunheld)
  | actuationStarted e argument t timer _ _ hw =>
    exact scoreLaw_of_same (scoreLaw_moves hw (scoreLaw_of_same hs rfl)) rfl
  | actuationEnded e o hu hw =>
    have hmoved := scoreLaw_moves hw (scoreLaw_of_same hs (by rw [hu.score]))
    exact scoreLaw_moves (moves_endActuation e o _) (scoreLaw_of_same hmoved rfl)
  | passArrived p _ hu hw =>
    exact scoreLaw_of_same (scoreLaw_moves hw (scoreLaw_of_same hs (by rw [hu.score]))) rfl
  | _ => exact scoreLaw_of_same hs (by simp)

-- The queues and lists (R25, R97, R98, R154, R158)

/-- The command queue within its places. -/
def QueueFits (s : State) : Prop := s.bus.queue.length ≤ 16

theorem queueFits_recompute {s : State} (hs : QueueFits s) (e : Nat) : QueueFits (recompute e s) := by
  unfold recompute issueLight
  split_ifs with _ _ _ hroom
  · exact hs
  · unfold QueueFits at hs ⊢
    simpa [replaceLight] using hs
  · unfold QueueFits queuePlaces at *
    simp only [setLight_bus, setQueue_bus, List.length_append, List.length_singleton]
    omega
  · exact hs
  · exact hs

theorem queueFits_servePlace {s : State} (hs : QueueFits s) : QueueFits (servePlace s) := by
  rcases servePlace_cases s with h | ⟨e, _, hroom, h⟩ <;> rw [h]
  · exact hs
  · unfold QueueFits queuePlaces at *
    simp only [setLight_bus, setQueue_bus, List.length_append, List.length_singleton]
    omega

theorem queueFits_of_same {s t : State} (hs : QueueFits s) (h : t.bus.queue = s.bus.queue) : QueueFits t := by
  unfold QueueFits
  rwa [h]

theorem queueFits_of_sublist {s t : State} (hs : QueueFits s) (h : List.Sublist t.bus.queue s.bus.queue) : QueueFits t :=
  h.length_le.trans hs

theorem queueFits_claimSteps {s t : State} (h : ClaimSteps s t) (hs : QueueFits s) : QueueFits t := by
  refine kept_of_moves (R := ClaimStep) (fun u v h hu => ?_) h hs
  cases h with
  | written => exact queueFits_of_same hu rfl
  | recomputed e => exact queueFits_recompute hu e

theorem queueFits_elementMove {s t : State} (h : ElementMove s t) (hs : QueueFits s) : QueueFits t := by
  cases h with
  | recomputed e => exact queueFits_recompute hs e
  | placeServed => exact queueFits_servePlace hs
  | withdrawn e => exact queueFits_claimSteps (claimSteps_emptyElement e _) (queueFits_of_same hs rfl)
  | _ => exact queueFits_of_same hs (by simp)

theorem queueFits_moves {s t : State} (h : Moves s t) (hs : QueueFits s) : QueueFits t :=
  kept_of_moves (R := ElementMove) (fun _ _ => queueFits_elementMove) h hs

theorem queueFits_rosterMove {s t : State} (h : RosterMove s t) (hs : QueueFits s) : QueueFits t := by
  have hset (u : State) (n : Nat) (y : Slot) (hu : QueueFits u) : QueueFits (u.setSlot n y) := hu
  cases h with
  | slot n y => exact hset s n y hs
  | left n y => exact hset _ n y (queueFits_claimSteps (claimSteps_dropClaims n s) hs)

theorem Off.queueFits {e : Nat} {s u : State} (h : Off e s u) (hs : QueueFits s) : QueueFits u := by
  cases h with
  | inFlight => exact hs
  | answered => exact queueFits_of_same hs rfl
  | discarded x => exact queueFits_of_sublist hs List.erase_sublist

theorem RawOff.queueFits {s u : State} (h : RawOff s u) (hs : QueueFits s) : QueueFits u := by
  cases h with
  | answered => exact queueFits_of_same hs rfl
  | discarded x => exact queueFits_of_sublist hs List.erase_sublist

theorem queueFits_define {s : State} (hs : QueueFits s) (e : Nat) (d : ElementDef) : QueueFits (define e d s) := by
  have hscored (t : State) (ht : QueueFits t) : QueueFits (defineScore e t) := queueFits_of_same ht (by simp)
  have hwritten : QueueFits ((s.setDef e d).setRun e (freshRun d)) := hs
  unfold define
  dsimp only
  refine hscored _ ?_
  split
  · exact queueFits_of_same hwritten rfl
  · exact queueFits_recompute hwritten e

theorem queueFits_startUpWith (g : Settings) (defs : Vector ElementDef 32) (flags : FlagSet) (completes : Bool)
    (s : State) : QueueFits (startUpWith g defs flags completes s) := by
  have hall (es : List Nat) (u : State) (hu : QueueFits u) : QueueFits (recomputeAll es u) :=
    foldl_inv QueueFits _ (fun _ e h => queueFits_recompute h e) es u hu
  unfold startUpWith
  exact hall elementNumbers _ (by simp [QueueFits, resetBus])

theorem queueFits_append {s t : State} {x : Entry} (hroom : s.bus.queue.length < queuePlaces)
    (h : t.bus.queue = s.bus.queue ++ [x]) : QueueFits t := by
  unfold QueueFits queuePlaces at *
  rw [h, List.length_append, List.length_singleton]
  omega

theorem queueFits_event {s t : State} (h : Event s t) (hs : QueueFits s) : QueueFits t := by
  cases h with
  | element h => exact queueFits_elementMove h hs
  | roster h => exact queueFits_rosterMove h hs
  | closed _ h _ =>
    exact kept_of_moves (R := RosterMove) (fun _ _ => queueFits_rosterMove) h (queueFits_of_same hs rfl)
  | ended c h =>
    exact queueFits_claimSteps (claimSteps_clearClaims { s with clock := c }) (queueFits_of_same hs rfl)
  | startedUp g defs flags completes asserted _ => exact queueFits_startUpWith _ _ _ _ _
  | timePassed => exact queueFits_of_same hs (by simp [passTime, tickBus])
  | elementDefined e d => exact queueFits_define hs e d
  | granted n e => exact queueFits_claimSteps (claimSteps_becomeHolder n e s) hs
  | joined n e => exact queueFits_claimSteps (claimSteps_joinList n e s) hs
  | leftList n e => exact queueFits_claimSteps (claimSteps_leaveList n e s) hs
  | holdEnded h e withBar a =>
    have hunheld := queueFits_claimSteps (claimSteps_unheld h e withBar s) hs
    have hflagged : QueueFits { unheld h e withBar s with attention := a } := queueFits_of_same hunheld rfl
    exact queueFits_claimSteps (claimSteps_handover e _) hflagged
  | entrySent x rest _ hq =>
    have hrest : List.Sublist rest s.bus.queue := by simp [hq]
    exact queueFits_of_sublist hs hrest
  | actuationQueued e argument o c _ _ hroom => exact queueFits_append hroom rfl
  | rawQueued x _ _ hroom => exact queueFits_append hroom rfl
  | actuationStarted e argument t timer _ _ hw =>
    exact queueFits_of_same (queueFits_moves hw (queueFits_of_same hs rfl)) rfl
  | actuationEnded e o hu hw =>
    exact queueFits_moves (moves_endActuation e o _) (queueFits_of_same (queueFits_moves hw (hu.queueFits hs)) rfl)
  | passArrived p _ hu hw => exact queueFits_of_same (queueFits_moves hw (hu.queueFits hs)) rfl
  | _ => exact queueFits_of_same hs (by simp)

/-- The lists of the link, the stranger list and the command count within their places. -/
structure ListsFit (s : State) : Prop where
  commandCount : s.bus.commandCount ≤ 4
  replies : s.link.replies.length ≤ 8
  uplink : s.link.uplink.length ≤ 8
  share : ∀ n, shareOf n s.link.uplink ≤ 2
  strangers : s.roster.strangers.length ≤ 4

theorem queueLaw_iff (s : State) : queueLaw s ↔ QueueFits s ∧ ListsFit s :=
  ⟨fun ⟨hqueue, hcount, hreplies, huplink, hshare, hstrangers⟩ =>
    ⟨hqueue, hcount, hreplies, huplink, hshare, hstrangers⟩,
  fun ⟨hqueue, hcount, hreplies, huplink, hshare, hstrangers⟩ =>
    ⟨hqueue, hcount, hreplies, huplink, hshare, hstrangers⟩⟩

theorem listsFit_of_same {s t : State} (hs : ListsFit s) (hcount : t.bus.commandCount = s.bus.commandCount)
    (hreplies : t.link.replies = s.link.replies) (huplink : t.link.uplink = s.link.uplink)
    (hstrangers : t.roster.strangers = s.roster.strangers) : ListsFit t where
  commandCount := hcount ▸ hs.commandCount
  replies := hreplies ▸ hs.replies
  uplink := huplink ▸ hs.uplink
  share n := huplink ▸ hs.share n
  strangers := hstrangers ▸ hs.strangers

theorem SameFrame.listsFit {s t : State} (h : SameFrame s t) (hs : ListsFit s) : ListsFit t :=
  listsFit_of_same hs h.commandCount (by rw [h.link]) (by rw [h.link]) h.strangers

theorem shareOf_append (n : Nat) (q : List UplinkFrame) (f : UplinkFrame) :
    shareOf n (q ++ [f]) = shareOf n q + if f.slot = n then 1 else 0 := by
  by_cases h : f.slot = n <;> simp [shareOf, List.filter_append, h]

/-- A frame joins where its slot has fewer than 2 waiting and the queue fewer than 8 (R154). -/
theorem listsFit_joinUplink {s : State} (hs : ListsFit s) (f : UplinkFrame) : ListsFit (joinUplink f s) := by
  unfold joinUplink
  split_ifs with hshare hfull
  · exact hs
  · exact listsFit_of_same hs rfl rfl rfl rfl
  · refine ⟨hs.commandCount, hs.replies, ?_, fun n => ?_, hs.strangers⟩
    · simp only [List.length_append, List.length_singleton]
      omega
    · rw [shareOf_append]
      have hold := hs.share n
      split
      · next h =>
        subst h
        omega
      · exact hold

theorem listsFit_frameTaken {s : State} (hs : ListsFit s) {f : UplinkFrame} {rest : List UplinkFrame}
    (h : s.link.uplink = f :: rest) : ListsFit { s with link := { s.link with uplink := rest } } := by
  have hsub : List.Sublist rest s.link.uplink := by simp [h]
  exact ⟨hs.commandCount, hs.replies, hsub.length_le.trans hs.uplink,
    fun n => (hsub.filter _).length_le.trans (hs.share n), hs.strangers⟩

theorem listsFit_event {s t : State} (h : Event s t) (hs : ListsFit s) : ListsFit t := by
  cases h with
  | element h => exact h.sameFrame.listsFit hs
  | roster h => exact h.sameFrame.listsFit hs
  | closed _ h _ => exact (sameFrame_rosterMoves h).listsFit (listsFit_of_same hs rfl rfl rfl rfl)
  | link l hreplies huplink =>
    have hless := hs.replies
    exact ⟨hs.commandCount, by simp only; omega, huplink ▸ hs.uplink, fun n => huplink ▸ hs.share n, hs.strangers⟩
  | frameTaken f rest h => exact listsFit_frameTaken hs h
  | frameArrived f => exact listsFit_joinUplink hs f
  | strangers l h =>
    have hless := hs.strangers
    exact ⟨hs.commandCount, hs.replies, hs.uplink, hs.share, by simp only [setStrangers_roster]; omega⟩
  | ended c h =>
    exact (ClaimSteps.sameFrame (claimSteps_clearClaims { s with clock := c })).listsFit
      (listsFit_of_same hs rfl rfl rfl rfl)
  | startedUp g defs flags completes asserted _ =>
    constructor <;> simp [startUpWith, resetBus, resetLink, resetRoster, shareOf]
  | timePassed => exact listsFit_of_same hs (by simp [passTime, tickBus]) (by simp [passTime]) (by simp [passTime]) (by simp [passTime])
  | granted n e => exact (ClaimSteps.sameFrame (claimSteps_becomeHolder n e s)).listsFit hs
  | joined n e => exact (ClaimSteps.sameFrame (claimSteps_joinList n e s)).listsFit hs
  | leftList n e => exact (ClaimSteps.sameFrame (claimSteps_leaveList n e s)).listsFit hs
  | holdEnded h e withBar a => exact (sameFrame_holdEnded h e withBar a s).listsFit hs
  | busCounted halt k last hk =>
    have hless := hs.commandCount
    exact ⟨by simp only; omega, hs.replies, hs.uplink, hs.share, hs.strangers⟩
  | actuationStarted e argument t timer _ _ hw => exact (sameFrame_actuationStarted hw).listsFit hs
  | actuationEnded e o hu hw => exact (sameFrame_actuationEnded hu hw).listsFit hs
  | passArrived p _ hu hw => exact (sameFrame_passArrived hu hw).listsFit hs
  | _ => exact listsFit_of_same hs (by simp) (by simp) (by simp) (by simp)

/-- Settles O59, by the moves of a step: each keeps the command queue, the lists and the scores within their places. -/
theorem queuesAndScoresStayWithinTheirPlaces : Obligations.QueuesAndScoresStayWithinTheirPlaces := by
  intro s t hqueue hscore h
  obtain ⟨hfits, hlists⟩ := (queueLaw_iff s).mp hqueue
  exact ⟨(queueLaw_iff t).mpr ⟨kept_of_step (fun _ _ => queueFits_event) hfits h,
    kept_of_step (fun _ _ => listsFit_event) hlists h⟩, kept_of_step (fun _ _ => scoreLaw_event) hscore h⟩

-- The settings and the alliances (R22, R47, R186, R187)

theorem settingsInRange_factory : settingsInRange factorySettings := by
  refine ⟨by decide, by decide, by decide, by decide, fun t hlow hhigh => ?_, by decide, by decide, by decide, by decide,
    by decide, by decide, by decide, by decide, by decide, by decide, by decide, by decide, by decide, by decide⟩
  interval_cases t <;> decide

theorem clampTo_bounds {lo hi : Nat} (h : lo ≤ hi) (v : Nat) : lo ≤ clampTo lo hi v ∧ clampTo lo hi v ≤ hi := by
  unfold clampTo
  omega

theorem settingsInRange_writeSetting {g : Settings} (hg : settingsInRange g) {id v : Nat}
    (hid : settingInRange id = true) (hcode : settingCodeOk id v = true) :
    settingsInRange (writeSetting id (clampSetting id v) g) := by
  obtain ⟨hrate, hcount, hcount', htiers, hcaps, hrest⟩ := hg
  have hrange : 1 ≤ id ∧ id ≤ 16 := by simpa [settingInRange] using hid
  by_cases hcap : 4 ≤ id ∧ id ≤ 7
  · have hclamp : clampSetting id v = clampTo 10 100 v := by
      have h2 : id ≠ 2 := by omega
      simp [clampSetting, h2, hcap]
    have hwrite w : writeSetting id w g = { g with tierCaps := set1 g.tierCaps (id - 3) w } := by
      have h1 : id ≠ 1 := by omega
      have h2 : id ≠ 2 := by omega
      have h3 : id ≠ 3 := by omega
      simp [writeSetting, h1, h2, h3, hcap]
    rw [hclamp, hwrite]
    refine ⟨hrate, hcount, hcount', htiers, fun t hlow hhigh => ?_, hrest⟩
    rw [at1_set1]
    split
    · exact clampTo_bounds (by decide) v
    · exact hcaps t hlow hhigh
  · obtain ⟨hb, hb', hs, hs', hc, hc', hd, hd', hr, hr', ha, ha', hp, hp'⟩ := hrest
    obtain ⟨hlow, hhigh⟩ := hrange
    have hcounts := clampTo_bounds (show 2 ≤ 4 by decide) v
    have hbeacon := clampTo_bounds (show 20 ≤ 500 by decide) v
    have hsilence := clampTo_bounds (show 200 ≤ 5000 by decide) v
    have hconfirm := clampTo_bounds (show 100 ≤ 2000 by decide) v
    have hdownshift := clampTo_bounds (show 1 ≤ 15 by decide) v
    have hrestore := clampTo_bounds (show 2 ≤ 255 by decide) v
    have hanswer := clampTo_bounds (show 1 ≤ 20 by decide) v
    have hpulse := clampTo_bounds (show 100 ≤ 1000 by decide) v
    have hids : id = 1 ∨ id = 2 ∨ id = 3 ∨ id = 8 ∨ id = 9 ∨ id = 10 ∨ id = 11 ∨ id = 12 ∨ id = 13 ∨ id = 14 ∨ id = 15
        ∨ id = 16 := by omega
    rcases hids with rfl | rfl | rfl | rfl | rfl | rfl | rfl | rfl | rfl | rfl | rfl | rfl
    · have hlisted : v ∈ [57600, 115200, 230400, 460800] := by simpa [settingCodeOk] using hcode
      exact ⟨hlisted, hcount, hcount', htiers, hcaps, hb, hb', hs, hs', hc, hc', hd, hd', hr, hr', ha, ha', hp, hp'⟩
    · exact ⟨hrate, hcounts.1, hcounts.2, htiers, hcaps, hb, hb', hs, hs', hc, hc', hd, hd', hr, hr', ha, ha', hp, hp'⟩
    · have hset : (1 ≤ v ∧ v ≤ 15) := by simpa [settingCodeOk] using hcode
      have hnonzero : BitVec.ofNat 4 v ≠ 0 := by
        intro h
        have hzero : v % 16 = 0 := congrArg BitVec.toNat h
        omega
      exact ⟨hrate, hcount, hcount', hnonzero, hcaps, hb, hb', hs, hs', hc, hc', hd, hd', hr, hr', ha, ha', hp, hp'⟩
    · exact ⟨hrate, hcount, hcount', htiers, hcaps, hbeacon.1, hbeacon.2, hs, hs', hc, hc', hd, hd', hr, hr', ha, ha',
        hp, hp'⟩
    · exact ⟨hrate, hcount, hcount', htiers, hcaps, hb, hb', hsilence.1, hsilence.2, hc, hc', hd, hd', hr, hr', ha, ha',
        hp, hp'⟩
    · exact ⟨hrate, hcount, hcount', htiers, hcaps, hb, hb', hs, hs', hconfirm.1, hconfirm.2, hd, hd', hr, hr', ha, ha',
        hp, hp'⟩
    · exact ⟨hrate, hcount, hcount', htiers, hcaps, hb, hb', hs, hs', hc, hc', hdownshift.1, hdownshift.2, hr, hr', ha,
        ha', hp, hp'⟩
    · exact ⟨hrate, hcount, hcount', htiers, hcaps, hb, hb', hs, hs', hc, hc', hd, hd', hr, hr', ha, ha', hp, hp'⟩
    · exact ⟨hrate, hcount, hcount', htiers, hcaps, hb, hb', hs, hs', hc, hc', hd, hd', hrestore.1, hrestore.2, ha, ha',
        hp, hp'⟩
    · exact ⟨hrate, hcount, hcount', htiers, hcaps, hb, hb', hs, hs', hc, hc', hd, hd', hr, hr', ha, ha', hp, hp'⟩
    · exact ⟨hrate, hcount, hcount', htiers, hcaps, hb, hb', hs, hs', hc, hc', hd, hd', hr, hr', hanswer.1, hanswer.2,
        hp, hp'⟩
    · exact ⟨hrate, hcount, hcount', htiers, hcaps, hb, hb', hs, hs', hc, hc', hd, hd', hr, hr', ha, ha', hpulse.1,
        hpulse.2⟩

/-- The store as the laws read it: what is standing and what is being written. -/
theorem settingsLaw_of_same {s t : State} (hs : settingsLaw s) (hsettings : t.settings = s.settings)
    (hstore : t.store = s.store) : settingsLaw t := by
  unfold settingsLaw at hs ⊢
  rwa [hsettings, hstore]

theorem SameFrame.settingsLaw {s t : State} (h : SameFrame s t) (hs : settingsLaw s) : settingsLaw t :=
  settingsLaw_of_same hs h.settings h.store

theorem settingsLaw_event {s t : State} (h : Event s t) (hs : settingsLaw s) : settingsLaw t := by
  obtain ⟨hlive, hstanding, hwriting⟩ := hs
  have hs : settingsLaw s := ⟨hlive, hstanding, hwriting⟩
  cases h with
  | element h => exact h.sameFrame.settingsLaw hs
  | roster h => exact h.sameFrame.settingsLaw hs
  | closed _ h _ => exact (sameFrame_rosterMoves h).settingsLaw (settingsLaw_of_same hs rfl rfl)
  | storeBegun left =>
    refine ⟨hlive, hstanding, fun w hw => ?_⟩
    simp only [Option.some.injEq] at hw
    exact hw ▸ hlive
  | storeDone w hw => exact ⟨hlive, hwriting w hw, by simp⟩
  | setting id v hid hcode _ => exact ⟨settingsInRange_writeSetting hlive hid hcode, hstanding, hwriting⟩
  | ended c h =>
    exact (ClaimSteps.sameFrame (claimSteps_clearClaims { s with clock := c })).settingsLaw
      (settingsLaw_of_same hs rfl rfl)
  | startedUp g defs flags completes asserted h =>
    have hg : settingsInRange g := by
      rcases h with ⟨rfl, _⟩ | ⟨rfl, _⟩ | ⟨rfl, _⟩
      · exact hlive
      · exact hstanding
      · exact settingsInRange_factory
    unfold settingsLaw
    simpa [startUpWith, abandonWrite] using ⟨hg, hstanding⟩
  | timePassed =>
    unfold settingsLaw
    simpa [passTime, tickStore] using ⟨hlive, hstanding, hwriting⟩
  | granted n e => exact (ClaimSteps.sameFrame (claimSteps_becomeHolder n e s)).settingsLaw hs
  | joined n e => exact (ClaimSteps.sameFrame (claimSteps_joinList n e s)).settingsLaw hs
  | leftList n e => exact (ClaimSteps.sameFrame (claimSteps_leaveList n e s)).settingsLaw hs
  | holdEnded h e withBar a => exact (sameFrame_holdEnded h e withBar a s).settingsLaw hs
  | actuationStarted e argument t timer _ _ hw => exact (sameFrame_actuationStarted hw).settingsLaw hs
  | actuationEnded e o hu hw => exact (sameFrame_actuationEnded hu hw).settingsLaw hs
  | passArrived p _ hu hw => exact (sameFrame_passArrived hu hw).settingsLaw hs
  | _ => exact settingsLaw_of_same hs (by simp) (by simp)

/-- The alliances of registered slots lie within a count. -/
def SlotsWithin (count : Nat) (s : State) : Prop := ∀ n, (s.slot n).state ≠ .empty → (s.slot n).alliance ≤ count

/-- The sides lie within the counts, in the live state and in the stored copies. -/
structure SidesLaw (s : State) : Prop where
  live : sidesWithin s.settings.allianceCount s.table.defs
  standing : sidesWithin s.store.standing.settings.allianceCount s.store.standing.defs
  writing : ∀ w, s.store.writing = some w → sidesWithin w.copy.settings.allianceCount w.copy.defs

theorem allianceLaw_iff (s : State) : allianceLaw s ↔ SlotsWithin s.settings.allianceCount s ∧ SidesLaw s :=
  ⟨fun ⟨hslots, hlive, hstanding, hwriting⟩ => ⟨hslots, hlive, hstanding, hwriting⟩,
    fun ⟨hslots, hlive, hstanding, hwriting⟩ => ⟨hslots, hlive, hstanding, hwriting⟩⟩

theorem SidesLaw.of_same {s t : State} (hs : SidesLaw s) (hsettings : t.settings = s.settings)
    (hdefs : t.table.defs = s.table.defs) (hstore : t.store = s.store) : SidesLaw t where
  live := by rw [hsettings, hdefs]; exact hs.live
  standing := by rw [hstore]; exact hs.standing
  writing := by rw [hstore]; exact hs.writing

theorem allianceLaw_of_same {s t : State} (hs : allianceLaw s) (hslots : SameSlots s t)
    (hsettings : t.settings = s.settings) (hdefs : t.table.defs = s.table.defs) (hstore : t.store = s.store) :
    allianceLaw t := by
  rw [allianceLaw_iff] at hs ⊢
  refine ⟨fun n => ?_, hs.2.of_same hsettings hdefs hstore⟩
  rw [hslots.state, hslots.alliance, hsettings]
  exact hs.1 n

theorem allianceLaw_of_frame {s t : State} (hs : allianceLaw s) (hslots : SameSlots s t) (h : SameFrame s t) :
    allianceLaw t := allianceLaw_of_same hs hslots h.settings h.defs h.store

/-- A slot move registers a slot with an alliance of the field, or leaves the alliance of a registered one (R22). -/
theorem alliance_slotMove {s : State} {x y : Slot} (h : SlotMove s x y)
    (hx : x.state ≠ .empty → x.alliance ≤ s.settings.allianceCount) :
    y.state ≠ .empty → y.alliance ≤ s.settings.allianceCount := by
  cases h with
  | registered kit alliance team hempty halliance => exact fun _ => halliance
  | vacated => exact fun h => absurd rfl h
  | disabled d hempty => exact fun _ => hx hempty
  | enabled =>
    refine fun hy => hx fun hempty => hy ?_
    simp [endDisable, hempty]
  | returned a hempty => exact fun _ => hx hempty
  | lost hstate => exact fun _ => hx (by rcases hstate with h | h <;> simp [h])
  | offered _ _ _ _ _ hempty => exact fun _ => hx hempty
  | admitted hstate => exact fun _ => hx (by simp [hstate])
  | lapsed _ _ hstate => exact fun _ => hx (by simp [hstate])
  | _ => exact hx

theorem setSlot_frame (s : State) (n : Nat) (y : Slot) : (s.setSlot n y).settings = s.settings
    ∧ (s.setSlot n y).table = s.table ∧ (s.setSlot n y).store = s.store := by simp

theorem allianceLaw_setSlot {s : State} (hs : allianceLaw s) {n : Nat} {y : Slot}
    (hy : y.state ≠ .empty → y.alliance ≤ s.settings.allianceCount) : allianceLaw (s.setSlot n y) := by
  obtain ⟨hslots, hsides⟩ := hs
  obtain ⟨hsettings, htable, hstore⟩ := setSlot_frame s n y
  unfold allianceLaw
  rw [hsettings, htable, hstore]
  refine ⟨fun k => ?_, hsides⟩
  rw [slot_setSlot]
  split
  · exact hy
  · exact hslots k

theorem allianceLaw_rosterMove {s t : State} (h : RosterMove s t) (hs : allianceLaw s) : allianceLaw t := by
  cases h with
  | slot n y h => exact allianceLaw_setSlot hs (alliance_slotMove h (hs.1 n))
  | left n y h =>
    have hdropped : allianceLaw (dropClaims n s) :=
      allianceLaw_of_frame hs (sameSlots_dropClaims n s) (ClaimSteps.sameFrame (claimSteps_dropClaims n s))
    have hsettings : (dropClaims n s).settings = s.settings := by simp
    have hbefore : ((dropClaims n s).slot n).state ≠ .empty →
        ((dropClaims n s).slot n).alliance ≤ s.settings.allianceCount := hsettings ▸ hdropped.1 n
    exact allianceLaw_setSlot hdropped (by rw [hsettings]; exact alliance_slotMove h hbefore)

theorem writeSetting_allianceCount {id : Nat} (hid : id ≠ 2) (v : Nat) (g : Settings) :
    (writeSetting id v g).allianceCount = g.allianceCount := by
  simp only [writeSetting, if_neg hid, apply_ite Settings.allianceCount, ite_self]

/-- ALLIANCE COUNT is lowered only to where no registered slot and no defined element stands above it (R187). -/
theorem allianceLaw_setting {s : State} (hs : allianceLaw s) {id w : Nat}
    (huse : id = 2 → s.allianceInUseAbove w = false) :
    allianceLaw { s with settings := writeSetting id w s.settings } := by
  rw [allianceLaw_iff] at hs ⊢
  obtain ⟨hslots, hlive, hstanding, hwriting⟩ := hs
  by_cases hid : id = 2
  · have hcount : (writeSetting id w s.settings).allianceCount = w := by simp [hid, writeSetting]
    have hunused := huse hid
    simp only [State.allianceInUseAbove, Bool.or_eq_false_iff, List.any_eq_false, Bool.and_eq_true, bne_iff_ne,
      decide_eq_true_eq, not_and, not_lt] at hunused
    obtain ⟨hslotsBelow, hsidesBelow⟩ := hunused
    refine ⟨fun n hn => ?_, fun e a hkind hside => ?_, hstanding, hwriting⟩
    · have hrange := slot_range_of_registered hn
      simp only [hcount]
      exact hslotsBelow n (by simp [slotNumbers, List.mem_range'_1]; omega) hn
    · have hd : s.defined e = true := by simpa [State.defined, State.elemDef] using hkind
      simp only [hcount]
      have hbelow := hsidesBelow e (mem_elementNumbers.mpr (element_range_of_defined hd)) hd
      have hsame : (s.elemDef e).side = some a := hside
      simpa [hsame, orZero] using hbelow
  · have hcount := writeSetting_allianceCount hid w s.settings
    refine ⟨fun n => ?_, ?_, hstanding, hwriting⟩
    · simp only [hcount]
      exact hslots n
    · simp only [hcount]
      exact hlive

theorem define_defs (e : Nat) (d : ElementDef) (s : State) : (define e d s).table.defs = set1 s.table.defs e d := by
  unfold define
  dsimp only
  split <;> simp [defineScore]

theorem sidesWithin_noDefinitions (count : Nat) : sidesWithin count noDefinitions := fun e a h => by
  rw [noDefinitions, at1_replicate] at h
  exact absurd rfl h

theorem allianceLaw_event {s t : State} (h : Event s t) (hs : allianceLaw s) : allianceLaw t := by
  cases h with
  | element h => exact allianceLaw_of_frame hs h.sameSlots h.sameFrame
  | roster h => exact allianceLaw_rosterMove h hs
  | closed _ h _ =>
    exact kept_of_moves (R := RosterMove) (fun _ _ => allianceLaw_rosterMove) h
      (allianceLaw_of_same hs (sameSlots_of_slots rfl) rfl rfl rfl)
  | storeBegun left =>
    obtain ⟨hslots, hlive, hstanding, hwriting⟩ := hs
    refine ⟨hslots, hlive, hstanding, fun w hw => ?_⟩
    simp only [Option.some.injEq] at hw
    exact hw ▸ hlive
  | storeDone w hw =>
    obtain ⟨hslots, hlive, hstanding, hwriting⟩ := hs
    exact ⟨hslots, hlive, hwriting w hw, by simp⟩
  | setting id v _ _ huse => exact allianceLaw_setting hs huse
  | ended c h =>
    have hclock : allianceLaw { s with clock := c } := allianceLaw_of_same hs (sameSlots_of_slots rfl) rfl rfl rfl
    exact allianceLaw_of_frame hclock (sameSlots_clearClaims _) (ClaimSteps.sameFrame (claimSteps_clearClaims _))
  | startedUp g defs flags completes asserted h =>
    obtain ⟨hslots, hlive, hstanding, hwriting⟩ := hs
    have hsides : sidesWithin g.allianceCount defs := by
      rcases h with ⟨rfl, rfl⟩ | ⟨rfl, rfl⟩ | ⟨rfl, rfl⟩
      · exact hlive
      · exact hstanding
      · exact sidesWithin_noDefinitions _
    refine ⟨fun n h => ?_, ?_⟩
    · rw [startUpWith_slot] at h
      exact absurd rfl h
    · simpa [startUpWith, abandonWrite, resetTable] using ⟨hsides, hstanding⟩
  | timePassed =>
    obtain ⟨hslots, hlive, hstanding, hwriting⟩ := hs
    refine ⟨fun n => ?_, by simpa [passTime, tickStore] using ⟨hlive, hstanding, hwriting⟩⟩
    rw [passTime_slot]
    simpa [passTime, tickSlot] using hslots n
  | elementDefined e d _ hside =>
    obtain ⟨hslots, hlive, hstanding, hwriting⟩ := hs
    have hsettings : (define e d s).settings = s.settings := by simp
    have hstore : (define e d s).store = s.store := by simp
    unfold allianceLaw
    rw [hsettings, hstore, define_defs]
    refine ⟨by simpa using hslots, fun k a hkind hk => ?_, hstanding, hwriting⟩
    rw [at1_set1] at hkind hk
    split at hkind
    · next h => exact hside a hkind (by simpa [h] using hk)
    · next h => exact hlive k a hkind (by simpa [h] using hk)
  | granted n e =>
    exact allianceLaw_of_frame hs (sameSlots_becomeHolder n e s) (ClaimSteps.sameFrame (claimSteps_becomeHolder n e s))
  | joined n e =>
    exact allianceLaw_of_frame hs (sameSlots_joinList n e s) (ClaimSteps.sameFrame (claimSteps_joinList n e s))
  | leftList n e =>
    exact allianceLaw_of_frame hs (sameSlots_leaveList n e s) (ClaimSteps.sameFrame (claimSteps_leaveList n e s))
  | holdEnded h e withBar a =>
    exact allianceLaw_of_frame hs (sameSlots_holdEnded h e withBar a s) (sameFrame_holdEnded h e withBar a s)
  | actuationStarted e argument t timer _ _ hw =>
    exact allianceLaw_of_frame hs (sameSlots_actuationStarted hw) (sameFrame_actuationStarted hw)
  | actuationEnded e o hu hw =>
    exact allianceLaw_of_frame hs (sameSlots_actuationEnded hu hw) (sameFrame_actuationEnded hu hw)
  | passArrived p _ hu hw =>
    exact allianceLaw_of_frame hs (sameSlots_passArrived hu hw) (sameFrame_passArrived hu hw)
  | _ => exact allianceLaw_of_same hs (sameSlots_of_slots (by simp)) (by simp) (by simp) (by simp)

/-- Settles O60, by the moves of a step: each keeps the settings in range and the alliances within ALLIANCE COUNT. -/
theorem settingsStayInRange : Obligations.SettingsStayInRange := fun _ _ hsettings halliance h =>
  ⟨kept_of_step (fun _ _ => settingsLaw_event) hsettings h, kept_of_step (fun _ _ => allianceLaw_event) halliance h⟩

end Sys2Proof.Machine
end

section
/-! PROOFS. Console requests as such: every one is answered, a refusal changes nothing, and each command of the catalogue
serves its request (R174 to R177, R180). -/

namespace Sys2Proof.Machine

/-- The outcomes of requests; the two others answer records that name no request (R176). -/
def ofRequest (o : OutcomeCode) : Bool := o != .frameError && o != .unknownRequest

/-- What the serving of a request in a state leaves: the receiver is as it was, and a refusal carries the outcome alone and
changes nothing (R176, R180). -/
structure AnsweredFrom (u : State) (r : Served) : Prop where
  receiver : r.state.console.receiver = u.console.receiver
  outcome : ofRequest r.outcome = true
  refusal : carriedOut r.outcome = false → r.fields = [] ∧ r.state = u

section
variable {u t : State}

theorem answeredFrom_refuse {o : OutcomeCode} (ho : ofRequest o = true) : AnsweredFrom u (refuse o u) :=
  ⟨rfl, ho, fun _ => ⟨rfl, rfl⟩⟩

theorem answeredFrom_done {o : OutcomeCode} {fields : List Byte} (ho : carriedOut o = true)
    (h : t.console.receiver = u.console.receiver) : AnsweredFrom u { state := t, outcome := o, fields := fields } where
  receiver := h
  outcome := by cases o <;> simp_all [carriedOut, ofRequest]
  refusal hrefused := absurd (ho.symm.trans hrefused) (by simp)

theorem carriedOut_okIf (c : Bool) : carriedOut (okIf c) = true := by cases c <;> rfl

theorem answeredFrom_reading (fields : List Byte) : AnsweredFrom u (reading fields u) := answeredFrom_done rfl rfl

theorem answeredFrom_carryOut (h : t.console.receiver = u.console.receiver) : AnsweredFrom u (carryOut t) :=
  answeredFrom_done rfl h

theorem answeredFrom_settled {o : OutcomeCode} {fields : List Byte} (ho : carriedOut o = true)
    (h : t.console.receiver = u.console.receiver) :
    AnsweredFrom u (settled { state := t, outcome := o, fields := fields }) :=
  answeredFrom_done ho (by simpa using h)

/-- A check refuses, or leaves the request to the checks behind it. -/
theorem answeredFrom_check {c : Prop} [Decidable c] {o : OutcomeCode} (ho : ofRequest o = true) {r : Served}
    (h : AnsweredFrom u r) : AnsweredFrom u (if c then refuse o u else r) := by
  split
  · exact answeredFrom_refuse ho
  · exact h

-- The requests of the catalogue (R192)

theorem answered_setSetting (id v : Nat) : AnsweredFrom u (serveSetSetting id v u) := by
  refine answeredFrom_check rfl (answeredFrom_check rfl (answeredFrom_check rfl (answeredFrom_check rfl
    (answeredFrom_done (carriedOut_okIf _) ?_))))
  unfold changeSetting
  dsimp only
  split
  · simp
  · rfl

theorem answered_getSetting (id : Nat) : AnsweredFrom u (serveGetSetting id u) :=
  answeredFrom_check rfl (answeredFrom_reading _)

theorem answered_storeSettings : AnsweredFrom u (serveStoreSettings u) :=
  answeredFrom_check rfl (answeredFrom_done rfl rfl)

theorem answered_defineElement (e : Nat) (d : DefineFields) : AnsweredFrom u (serveDefineElement e d u) := by
  refine answeredFrom_check rfl (answeredFrom_check rfl ?_)
  split
  · exact answeredFrom_refuse rfl
  · exact answeredFrom_check rfl (answeredFrom_settled rfl (by simp))
  · exact answeredFrom_check rfl (answeredFrom_check rfl (answeredFrom_settled (carriedOut_okIf _) (by simp)))

theorem answered_readElement (e : Nat) : AnsweredFrom u (serveReadElement e u) :=
  answeredFrom_check rfl (answeredFrom_reading _)

theorem answered_setElementMode (e : Nat) (r q : Byte) : AnsweredFrom u (serveSetElementMode e r q u) := by
  refine answeredFrom_check rfl ?_
  split
  · exact answeredFrom_check rfl (answeredFrom_carryOut rfl)
  · exact answeredFrom_refuse rfl
  · exact answeredFrom_refuse rfl

theorem answered_withdraw (e : Nat) : AnsweredFrom u (serveWithdraw e u) := by
  refine answeredFrom_check rfl (answeredFrom_check rfl ?_)
  split_ifs
  · exact answeredFrom_carryOut rfl
  · exact answeredFrom_done rfl rfl
  · exact answeredFrom_settled rfl (by simp)
  · exact answeredFrom_settled rfl (by simp)

theorem answered_restoreElement (e : Nat) : AnsweredFrom u (serveRestoreElement e u) := by
  refine answeredFrom_check rfl (answeredFrom_check rfl ?_)
  split_ifs
  · exact answeredFrom_settled rfl (by simp)
  · exact answeredFrom_settled rfl (by simp)
  · exact answeredFrom_carryOut rfl

theorem answered_clearFaults (e : Nat) : AnsweredFrom u (serveClearFaults e u) := by
  unfold serveClearFaults
  split_ifs
  · exact answeredFrom_carryOut rfl
  · exact answeredFrom_refuse rfl
  · exact answeredFrom_carryOut rfl
  · exact answeredFrom_settled rfl (by simp)

theorem answered_register (n : Nat) (kit : Word) (a team : Nat) : AnsweredFrom u (serveRegister n kit a team u) :=
  answeredFrom_check rfl (answeredFrom_check rfl (answeredFrom_check rfl (answeredFrom_check rfl (answeredFrom_check rfl
    (answeredFrom_done (carriedOut_okIf _) (by simp))))))

theorem answered_unregister (n : Nat) : AnsweredFrom u (serveUnregister n u) :=
  answeredFrom_check rfl (answeredFrom_check rfl (answeredFrom_check rfl (answeredFrom_settled rfl (by simp))))

theorem answered_readSlot (n : Nat) : AnsweredFrom u (serveReadSlot n u) :=
  answeredFrom_check rfl (answeredFrom_reading _)

theorem answered_disableRobot (n duration : Nat) : AnsweredFrom u (serveDisableRobot n duration u) := by
  refine answeredFrom_check rfl (answeredFrom_check rfl (answeredFrom_settled (carriedOut_okIf _) ?_))
  split <;> simp

theorem answered_enableRobot (n : Nat) : AnsweredFrom u (serveEnableRobot n u) :=
  answeredFrom_check rfl (answeredFrom_check rfl (answeredFrom_carryOut (by simp)))

theorem answered_restoreTiers (n : Nat) : AnsweredFrom u (serveRestoreTiers n u) :=
  answeredFrom_check rfl (answeredFrom_check rfl (answeredFrom_carryOut (by simp)))

theorem answered_loadPlan (count grace : Nat) (records : Option (List PeriodFields)) :
    AnsweredFrom u (serveLoadPlan count grace records u) := by
  refine answeredFrom_check rfl (answeredFrom_check rfl ?_)
  split
  · exact answeredFrom_refuse rfl
  refine answeredFrom_check rfl ?_
  split
  · exact answeredFrom_refuse rfl
  split
  · exact answeredFrom_done (carriedOut_okIf _) rfl
  · exact answeredFrom_refuse rfl

theorem answered_stage : AnsweredFrom u (serveStage u) :=
  answeredFrom_check rfl (answeredFrom_check rfl (answeredFrom_settled rfl (by simp)))

theorem answered_start : AnsweredFrom u (serveStart u) :=
  answeredFrom_check rfl (answeredFrom_check rfl (answeredFrom_settled rfl (by simp)))

theorem answered_pause : AnsweredFrom u (servePause u) :=
  answeredFrom_check rfl (answeredFrom_settled rfl (by simp))

theorem answered_resume : AnsweredFrom u (serveResume u) :=
  answeredFrom_check rfl (answeredFrom_check rfl (answeredFrom_settled rfl (by simp)))

theorem answered_abortMatch : AnsweredFrom u (serveAbortMatch u) := by
  unfold serveAbortMatch
  split <;> [exact answeredFrom_refuse rfl; exact answeredFrom_refuse rfl; skip; skip; skip; skip] <;>
    exact answeredFrom_settled rfl (by simp)

theorem answered_closeMatch : AnsweredFrom u (serveCloseMatch u) := by
  unfold serveCloseMatch
  split <;> [skip; skip; exact answeredFrom_refuse rfl; exact answeredFrom_refuse rfl; exact answeredFrom_refuse rfl;
    exact answeredFrom_refuse rfl] <;> exact answeredFrom_settled rfl (by simp)

theorem answered_fieldStop : AnsweredFrom u (serveFieldStop u) := answeredFrom_settled rfl (by simp)

theorem answered_releaseStop : AnsweredFrom u (serveReleaseStop u) :=
  answeredFrom_check rfl (answeredFrom_check rfl (answeredFrom_settled rfl (by simp)))

theorem answered_readClaims (first : Nat) : AnsweredFrom u (serveReadClaims first u) :=
  answeredFrom_check rfl (answeredFrom_reading _)

theorem answered_revokeClaim (e : Nat) (b : Byte) (x : Nat) : AnsweredFrom u (serveRevokeClaim e b x u) := by
  refine answeredFrom_check rfl ?_
  split
  · exact answeredFrom_refuse rfl
  refine answeredFrom_check rfl ?_
  split
  · exact answeredFrom_refuse rfl
  · exact answeredFrom_check rfl (answeredFrom_settled rfl (by simp))

theorem answered_consoleActuate (e argument : Nat) : AnsweredFrom u (serveConsoleActuate e argument u) :=
  answeredFrom_check rfl (answeredFrom_check rfl (answeredFrom_check rfl (answeredFrom_check rfl (answeredFrom_check rfl
    (answeredFrom_check rfl (answeredFrom_check rfl (answeredFrom_settled rfl (by simp))))))))

theorem answered_passThrough (e : Nat) (bytes : List Byte) : AnsweredFrom u (servePassThrough e bytes u) :=
  answeredFrom_check rfl (answeredFrom_check rfl (answeredFrom_check rfl (answeredFrom_check rfl
    (answeredFrom_settled rfl (by simp)))))

theorem answered_passResult : AnsweredFrom u (servePassResult u) := by
  unfold servePassResult
  split <;> [exact answeredFrom_refuse rfl; exact answeredFrom_refuse rfl; skip; skip; skip; skip] <;>
    exact answeredFrom_reading _

theorem answered_readTallies (first : Nat) : AnsweredFrom u (serveReadTallies first u) :=
  answeredFrom_check rfl (answeredFrom_reading _)

theorem answered_penalize (a amount : Nat) : AnsweredFrom u (servePenalize a amount u) :=
  answeredFrom_check rfl (answeredFrom_check rfl (answeredFrom_done (carriedOut_okIf _) (by simp)))

theorem answered_award (a amount : Nat) : AnsweredFrom u (serveAward a amount u) :=
  answeredFrom_check rfl (answeredFrom_check rfl (answeredFrom_done (carriedOut_okIf _) (by simp)))

theorem answered_mailPut (n : Nat) (bytes : List Byte) : AnsweredFrom u (serveMailPut n bytes u) :=
  answeredFrom_check rfl (answeredFrom_check rfl (answeredFrom_check rfl (answeredFrom_carryOut rfl)))

theorem answered_mailRead (n offset length : Nat) : AnsweredFrom u (serveMailRead n offset length u) := by
  refine answeredFrom_check rfl ?_
  split
  · exact answeredFrom_refuse rfl
  · exact answeredFrom_check rfl (answeredFrom_done (carriedOut_okIf _) rfl)

theorem answered_clearEvents (set : BitVec 24) : AnsweredFrom u (serveClearEvents set u) := by
  unfold serveClearEvents
  split
  · exact answeredFrom_refuse rfl
  · exact answeredFrom_done rfl rfl

theorem answered_setEventEnables (set : BitVec 24) : AnsweredFrom u (serveSetEventEnables set u) := by
  unfold serveSetEventEnables
  split
  · exact answeredFrom_refuse rfl
  · exact answeredFrom_carryOut rfl

end

/-- A command serves a request of a kind: it offers it to the holding place, and what it leaves is an answer. -/
def Serves (c : Instr) (k : Nat) : Prop :=
  ∃ serve, (∀ u, AnsweredFrom u (serve u)) ∧ ∀ s, exec c s = .next (consoleRequest k serve s)

theorem serves_of {c : Instr} {k k' : Nat} (h : some k' = some k) {serve : State → Served}
    (hserve : ∀ u, AnsweredFrom u (serve u)) (hexec : ∀ s, exec c s = .next (consoleRequest k' serve s)) :
    Serves c k := by
  injection h with h
  exact ⟨serve, hserve, h ▸ hexec⟩

/-- Each command of the catalogue serves a request of its kind (R192). -/
theorem serves_of_requestKind {c : Instr} {k : Nat} (h : requestKind c = some k) : Serves c k := by
  cases c with
  | identify => exact serves_of h (fun _ => answeredFrom_reading _) fun _ => rfl
  | setSetting _ _ => exact serves_of h (fun _ => answered_setSetting _ _) fun _ => rfl
  | getSetting _ => exact serves_of h (fun _ => answered_getSetting _) fun _ => rfl
  | storeSettings => exact serves_of h (fun _ => answered_storeSettings) fun _ => rfl
  | restart => exact serves_of (serve := serveRestart) h (fun _ => answeredFrom_carryOut rfl) fun _ => rfl
  | defineElement _ _ => exact serves_of h (fun _ => answered_defineElement _ _) fun _ => rfl
  | readElement _ => exact serves_of h (fun _ => answered_readElement _) fun _ => rfl
  | setElementMode _ _ _ => exact serves_of h (fun _ => answered_setElementMode _ _ _) fun _ => rfl
  | withdraw _ => exact serves_of h (fun _ => answered_withdraw _) fun _ => rfl
  | restoreElement _ => exact serves_of h (fun _ => answered_restoreElement _) fun _ => rfl
  | readFaults => exact serves_of h (fun _ => answeredFrom_reading _) fun _ => rfl
  | clearFaults _ => exact serves_of h (fun _ => answered_clearFaults _) fun _ => rfl
  | register _ _ _ _ => exact serves_of h (fun _ => answered_register _ _ _ _) fun _ => rfl
  | unregister _ => exact serves_of h (fun _ => answered_unregister _) fun _ => rfl
  | readSlot _ => exact serves_of h (fun _ => answered_readSlot _) fun _ => rfl
  | readStrangers => exact serves_of h (fun _ => answeredFrom_reading _) fun _ => rfl
  | disableRobot _ _ => exact serves_of h (fun _ => answered_disableRobot _ _) fun _ => rfl
  | enableRobot _ => exact serves_of h (fun _ => answered_enableRobot _) fun _ => rfl
  | restoreTiers _ => exact serves_of h (fun _ => answered_restoreTiers _) fun _ => rfl
  | loadPlan count grace fs =>
    refine serves_of h (serve := if 8 < fs.length then refuse .badArg else serveLoadPlan count.toNat grace.toNat (some fs))
      (fun u => ?_) fun _ => rfl
    split
    · exact answeredFrom_refuse rfl
    · exact answered_loadPlan _ _ _
  | stage => exact serves_of h (fun _ => answered_stage) fun _ => rfl
  | start => exact serves_of h (fun _ => answered_start) fun _ => rfl
  | pause => exact serves_of h (fun _ => answered_pause) fun _ => rfl
  | resume => exact serves_of h (fun _ => answered_resume) fun _ => rfl
  | abortMatch => exact serves_of h (fun _ => answered_abortMatch) fun _ => rfl
  | closeMatch => exact serves_of h (fun _ => answered_closeMatch) fun _ => rfl
  | readClock => exact serves_of h (fun _ => answeredFrom_reading _) fun _ => rfl
  | fieldStop => exact serves_of h (fun _ => answered_fieldStop) fun _ => rfl
  | releaseStop => exact serves_of h (fun _ => answered_releaseStop) fun _ => rfl
  | readStop => exact serves_of h (fun _ => answeredFrom_reading _) fun _ => rfl
  | readClaims _ => exact serves_of h (fun _ => answered_readClaims _) fun _ => rfl
  | revokeClaim _ _ _ => exact serves_of h (fun _ => answered_revokeClaim _ _ _) fun _ => rfl
  | consoleActuate _ _ => exact serves_of h (fun _ => answered_consoleActuate _ _) fun _ => rfl
  | passThrough _ _ => exact serves_of h (fun _ => answered_passThrough _ _) fun _ => rfl
  | passResult => exact serves_of h (fun _ => answered_passResult) fun _ => rfl
  | readScores => exact serves_of h (fun _ => answeredFrom_reading _) fun _ => rfl
  | readTallies _ => exact serves_of h (fun _ => answered_readTallies _) fun _ => rfl
  | penalize _ _ => exact serves_of h (fun _ => answered_penalize _ _) fun _ => rfl
  | award _ _ => exact serves_of h (fun _ => answered_award _ _) fun _ => rfl
  | consoleMailPut _ _ => exact serves_of h (fun _ => answered_mailPut _ _) fun _ => rfl
  | consoleMailRead _ _ _ => exact serves_of h (fun _ => answered_mailRead _ _ _) fun _ => rfl
  | mailStatus => exact serves_of h (fun _ => answeredFrom_reading _) fun _ => rfl
  | readEvents => exact serves_of h (fun _ => answeredFrom_reading _) fun _ => rfl
  | clearEvents _ => exact serves_of h (fun _ => answered_clearEvents _) fun _ => rfl
  | setEventEnables _ => exact serves_of h (fun _ => answered_setEventEnables _) fun _ => rfl
  | _ => simp [requestKind] at h

theorem requestKind_lt {c : Instr} {k : Nat} (h : requestKind c = some k) : k < 0x80 := by
  cases c <;> simp only [requestKind, Option.some.injEq, reduceCtorEq] at h <;> omega

/-- Settles O5, by the request that the command serves: what it leaves is an answer. -/
theorem everyRequestIsAnsweredAndARefusalChangesNothing : Obligations.EveryRequestIsAnsweredAndARefusalChangesNothing := by
  intro s c k hs hk
  obtain ⟨serve, hserve, hexec⟩ := serves_of_requestKind hk
  have hanswer := hserve (receiverDone s)
  rw [hexec, consoleRequest_of_ready hs (requestKind_lt hk)]
  refine ⟨_, _, rfl, rfl, rfl, hanswer.receiver, fun hrefused => ?_⟩
  obtain ⟨hfields, hstate⟩ := hanswer.refusal hrefused
  refine ⟨hfields, ?_⟩
  rw [replied, hstate]

-- Records that name no request, and records that find the holding place HELD (R175, R176)

theorem whenAwake_of_resetAsserted {s : State} (h : s.resetAsserted = true) (f : State → State) : whenAwake f s = s :=
  if_pos h

theorem consoleRequest_of_held {s : State} (hs : s.awake) (h : s.console.held.isSome = true) (k : Nat)
    (serve : State → Served) : consoleRequest k serve s = overrun (receiverDone s) := by
  rw [consoleRequest, whenAwake_of_awake hs, offerRecord, if_pos h]

/-- Settles O4: a surplus record by the command that it completes, then bad and unknown records at an EMPTY place. -/
theorem surplusBadAndUnknownRecords : Obligations.SurplusBadAndUnknownRecords := by
  refine ⟨fun s c hs hheld hc => ?_, fun s k hs => ⟨?_, fun hk => ?_⟩⟩
  · rcases hc with hc | rfl | rfl | ⟨k, rfl, hk⟩
    · obtain ⟨k, hk⟩ := Option.isSome_iff_exists.mp hc
      obtain ⟨serve, _, hexec⟩ := serves_of_requestKind hk
      rw [hexec, consoleRequest_of_held hs hheld]
      rfl
    · exact congrArg Host.Outcome.next (consoleRequest_of_held hs hheld 0x80 (refuse .frameError))
    · refine congrArg Host.Outcome.next ?_
      rw [whenAwake_of_awake hs, if_pos hheld]
      rfl
    · refine congrArg Host.Outcome.next ?_
      rw [whenAwake_of_awake hs, hk, if_neg (by simp)]
      exact if_pos hheld
  · obtain ⟨hawake, hempty⟩ := hs
    refine congrArg Host.Outcome.next ?_
    rw [whenAwake_of_awake hawake, offerBadRecord, offerRecord, hempty]
    rfl
  · obtain ⟨hawake, hempty⟩ := hs
    refine congrArg Host.Outcome.next ?_
    rw [whenAwake_of_awake hawake, hk, if_neg (by simp), offerUnknown, offerRecord, hempty]
    rfl

-- Commands as such

/-- Settles O1: a step at a waiting command is that command's execution. -/
theorem stepRunsFrontCommand : Obligations.StepRunsFrontCommand := fun s c rest h => by
  rw [step, h]

/-- A command that is no pin and no power acts on an awake part alone (R152, R189). -/
theorem exec_eq_whenAwake {c : Instr} (h : pinCommand c = false) : ∃ f, ∀ s, exec c s = .next (whenAwake f s) := by
  cases c with
  | powerOn | resetPin | resetPinRelease | stopInPressed | stopInLetGo => simp [pinCommand] at h
  | _ => exact ⟨_, fun _ => rfl⟩

/-- Settles O3: every command but the pins' and power's is taken on an awake part alone. -/
theorem resetHeldTakesOnlyPinsAndPower : Obligations.ResetHeldTakesOnlyPinsAndPower := by
  intro s c hreset hc
  obtain ⟨f, hexec⟩ := exec_eq_whenAwake hc
  rw [hexec, whenAwake_of_resetAsserted hreset]

-- The store (R188)

/-- A request that finds the place EMPTY leaves what its serving leaves, with the reply (R174, R176). -/
theorem exec_request {s : State} (hs : s.ready) {c : Instr} {k : Nat} (serve : State → Served) {r : Served}
    (hr : serve (receiverDone s) = r) (hexec : exec c s = .next (consoleRequest k serve s) := by rfl)
    (hk : k < 0x80 := by decide) : exec c s = .next (replied k r.outcome r.fields r.state) := by
  rw [hexec, consoleRequest_of_ready hs hk, hr]

theorem exec_refused {s : State} (hs : s.ready) {c : Instr} {k : Nat} (serve : State → Served) {o : OutcomeCode}
    (hr : serve (receiverDone s) = refuse o (receiverDone s))
    (hexec : exec c s = .next (consoleRequest k serve s) := by rfl) (hk : k < 0x80 := by decide) :
    exec c s = .next (replied k o [] (receiverDone s)) := exec_request hs serve hr hexec hk

/-- A request whose work ends with the choices of the arbiters (R98, R160). -/
theorem exec_settled {s t : State} (hs : s.ready) {c : Instr} {k : Nat} (serve : State → Served) {o : OutcomeCode}
    {fields : List Byte} (hr : serve (receiverDone s) = settled { state := t, outcome := o, fields := fields })
    (hexec : exec c s = .next (consoleRequest k serve s) := by rfl) (hk : k < 0x80 := by decide) :
    exec c s = .next (replied k o fields (settle t)) := exec_request hs serve hr hexec hk

theorem exec_carriedOut {s t : State} (hs : s.ready) {c : Instr} {k : Nat} (serve : State → Served)
    (hr : serve (receiverDone s) = settled (carryOut t))
    (hexec : exec c s = .next (consoleRequest k serve s) := by rfl) (hk : k < 0x80 := by decide) :
    exec c s = .next (replied k .ok [] (settle t)) := exec_request hs serve hr hexec hk

theorem storeDuration_bounds (n : Nat) : 1 ≤ storeDuration n ∧ storeDuration n ≤ 200000 := by
  unfold storeDuration millis
  omega

/-- Settles O12, by the state of the store: READY, being written, and at the end of the write. -/
theorem storeWritesACopyAndCompletes : Obligations.StoreWritesACopyAndCompletes := by
  intro s
  refine ⟨fun hs hready => ?_, fun hs hwriting => ?_, fun w hs hw => ?_⟩
  · obtain ⟨hlow, hhigh⟩ := storeDuration_bounds s.freeCount
    exact ⟨_, hlow, hhigh, exec_request hs serveStoreSettings (if_neg (by simp [hready]))⟩
  · exact exec_request hs serveStoreSettings (if_pos (by simpa using hwriting))
  · refine congrArg Host.Outcome.next ?_
    rw [whenAwake_of_awake hs, completeStore, hw]

-- The receiver (R172, R173)

section
variable {s : State} (hs : s.awake) (hbreak : s.console.breakInProgress = false)
include hs

/-- A byte acts by the receiver's state (R172). -/
theorem exec_consoleByte (b : Byte) {t : State} (h : takeByte b s = t) : exec (.consoleByte b) s = .next t := by
  rw [← h]
  exact congrArg Host.Outcome.next (whenAwake_of_awake hs _)

include hbreak

theorem exec_consoleByte_of_seeking (b : Byte) (h : s.console.receiver = .seeking) :
    exec (.consoleByte b) s = .next (if b = 0xA5 then receive .framing s else s) :=
  exec_consoleByte hs b (by simp [takeByte, hbreak, h])

theorem exec_consoleByte_of_framing (b : Byte) (h : s.console.receiver = .framing) :
    exec (.consoleByte b) s = .next (if b = 0xA5 then receive .framing s
      else if b.toNat ≤ 120 then receive (.receiving b.toNat []) s else receiverDone s) :=
  exec_consoleByte hs b (by simp [takeByte, hbreak, h])

theorem exec_consoleByte_of_receiving (b : Byte) {l : Nat} {got : List Byte} (h : s.console.receiver = .receiving l got) :
    exec (.consoleByte b) s = .next (if got.length + 1 = l + 3 then completeRecord l (got ++ [b]) s
      else receive (.receiving l (got ++ [b])) s) :=
  exec_consoleByte hs b (by simp [takeByte, hbreak, h])

end

/-- Settles O9, by the receiver's state and the byte. -/
theorem receiverFramesBytes : Obligations.ReceiverFramesBytes := by
  intro s b hs hbreak
  refine ⟨fun hseeking hb => ?_, fun hstate => ?_, fun hframing hb => ?_, fun hframing hlong hb => ?_,
    fun l got hreceiving hroom => ?_, ?_, fun hpartial => ?_⟩
  · rw [exec_consoleByte_of_seeking hs hbreak b hseeking, if_neg hb]
  · rcases hstate with hseeking | hframing
    · rw [exec_consoleByte_of_seeking hs hbreak _ hseeking, if_pos rfl]
      rfl
    · rw [exec_consoleByte_of_framing hs hbreak _ hframing, if_pos rfl]
      rfl
  · have hlead : b ≠ 0xA5 := by bv_omega
    rw [exec_consoleByte_of_framing hs hbreak b hframing, if_neg hlead, if_pos hb]
    rfl
  · rw [exec_consoleByte_of_framing hs hbreak b hframing, if_neg hb, if_neg (by omega)]
    rfl
  · rw [exec_consoleByte_of_receiving hs hbreak b hreceiving, if_neg (by omega)]
    rfl
  · exact congrArg Host.Outcome.next (whenAwake_of_awake hs _)
  · refine congrArg Host.Outcome.next ?_
    rw [whenAwake_of_awake hs, if_neg hpartial]
    rfl

end Sys2Proof.Machine
end

section
/-! PROOFS. The Match Clock's commands and expiries (chapter 1), with the clearing of every claim at the end of play (R89). -/

namespace Sys2Proof.Machine

-- What the operations on claims leave of the state, as one equation

/-- A state with the parts of another that the operations on claims write. -/
def State.withClaimParts (s x : State) : State :=
  { s with claims := x.claims, roster := { s.roster with slots := x.roster.slots },
           score := { s.score with elements := x.score.elements }, lights := x.lights,
           bus := { s.bus with queue := x.bus.queue } }

theorem withClaimParts_recompute (x s : State) (e : Nat) : (recompute e s).withClaimParts x = s.withClaimParts x := by
  unfold recompute issueLight
  split_ifs <;> rfl

theorem ClaimSteps.withClaimParts {s t : State} (h : ClaimSteps s t) (x : State) :
    t.withClaimParts x = s.withClaimParts x := by
  induction h with
  | refl => rfl
  | tail _ h ih =>
    rw [← ih]
    cases h with
    | written => rfl
    | recomputed e => exact withClaimParts_recompute x _ e

-- Slot records but for their counts

/-- Two slot records differ at most in their counts. -/
structure SameButCounts (x y : Slot) : Prop where
  eq : y = { x with holdCount := y.holdCount, waitCount := y.waitCount }

theorem SameButCounts.refl (x : Slot) : SameButCounts x x := ⟨rfl⟩

theorem SameButCounts.trans {x y z : Slot} (h : SameButCounts x y) (h' : SameButCounts y z) : SameButCounts x z := by
  refine ⟨?_⟩
  rw [h'.eq, h.eq]

theorem sameButCounts_dropClaims (n : Nat) (s : State) (k : Nat) :
    SameButCounts (s.slot k) ((dropClaims n s).slot k) := by
  have hfields := dropClaims_slot n s k
  refine ⟨?_⟩
  generalize (dropClaims n s).slot k = y at hfields ⊢
  generalize s.slot k = x at hfields ⊢
  cases x
  cases y
  simp_all

-- The clearing (R89, R92)

theorem elemScore_outside {e : Nat} (he : ¬(1 ≤ e ∧ e ≤ 32)) (s : State) :
    s.elemScore e = freshScore undefinedElement := at1_outside _ _ _ he

theorem clearElement_elemScore (e k : Nat) (s : State) : (clearElement e s).elemScore k
    = if k = e then { s.elemScore k with accumulator := 0 } else s.elemScore k := by
  have hwritten : (clearAccumulator e (s.setClaim e emptyClaim)).elemScore k
      = if k = e then { s.elemScore k with accumulator := 0 } else s.elemScore k := by
    rw [clearAccumulator, elemScore_setElemScore]
    by_cases hk : k = e
    · subst hk
      by_cases hrange : 1 ≤ k ∧ k ≤ 32
      · simp [hrange]
      · simp [hrange, elemScore_outside hrange, freshScore]
    · simp [hk]
  rw [← hwritten]
  unfold clearElement
  dsimp only
  split <;> simp

theorem clearElements_elemScore (l : List Nat) (s : State) (k : Nat) :
    (l.foldl (fun s e => clearElement e s) s).elemScore k
      = if k ∈ l then { s.elemScore k with accumulator := 0 } else s.elemScore k := by
  induction l generalizing s with
  | nil => rfl
  | cons e l ih =>
    rw [List.foldl_cons, ih, clearElement_elemScore]
    by_cases hk : k ∈ l <;> by_cases he : k = e <;> simp [hk, he]

theorem claimsCleared_clearClaims (s : State) : claimsCleared s (clearClaims s) := by
  refine ⟨clearClaims_claim s, clearClaims_slot_counts s, fun e => ?_, ?_⟩
  · unfold clearClaims
    rw [clearElements_elemScore]
    split
    · rfl
    · next he =>
      rw [mem_elementNumbers] at he
      simp [elemScore_outside he, freshScore]
  · exact ClaimSteps.withClaimParts (claimSteps_clearClaims s) s

-- START, PAUSE and RESUME (R7 to R9)

theorem claimsCleared_endLastPeriod {s : State} {p : Plan} (hp : s.clock.plan = some p) :
    claimsCleared (if p.grace = 0 then
        { s with clock := { s.clock with phase := .finished, remaining := 0, mark := .none, graceTimer := none },
                 link := { s.link with beaconDue := true } }.setFlag .matchOver
      else
        { s with clock := { s.clock with phase := .grace, remaining := 0, mark := .none,
                                         graceTimer := some (p.grace * 100000) },
                 link := { s.link with beaconDue := true } }) (endLastPeriod s) := by
  have hgrace : s.graceValue = p.grace := by simp [State.graceValue, hp]
  rw [endLastPeriod, hgrace]
  split
  · exact claimsCleared_clearClaims _
  · rw [enterGrace, hgrace]
    exact claimsCleared_clearClaims _

theorem loadPeriod_eq {s : State} {p : Plan} {d : Period} {i : Nat} (hp : s.clock.plan = some p)
    (hd : p.periods[i]? = some d) : loadPeriod (i + 1) s = { s with
      clock := { s.clock with phase := .running, index := i + 1, remaining := d.duration * 100000, mark := .none,
                              graceTimer := none },
      link := { s.link with beaconDue := true } } := by
  simp [loadPeriod, hp, hd, enterPhase, State.makeBeaconDue, tenths]

theorem nextPeriod_of_period {s : State} {p : Plan} {d : Period} (hp : s.clock.plan = some p)
    (hd : p.periods[s.clock.index]? = some d) : nextPeriod s = loadPeriod (s.clock.index + 1) s := by
  have hlt : s.clock.index < p.periods.length := (List.getElem?_eq_some_iff.mp hd).1
  exact if_pos (by simpa [State.periodCount, hp] using hlt)

theorem nextPeriod_of_last {s : State} {p : Plan} (hp : s.clock.plan = some p) (hlast : p.periods.length ≤ s.clock.index) :
    nextPeriod s = endLastPeriod s := if_neg (by simpa [State.periodCount, hp] using hlast)

theorem claimsCleared_enterFinished (s : State) : claimsCleared
    ({ s with clock := { s.clock with phase := .finished, remaining := 0, mark := .none, graceTimer := none },
              link := { s.link with beaconDue := true } }.setFlag .matchOver) (enterFinished s) :=
  claimsCleared_clearClaims _

section
variable {u : State}

theorem serveStart_of_ready (hphase : u.clock.phase = .staging) (hstop : u.stop.stopped = false) :
    serveStart u = settled (carryOut (loadPeriod 1 u)) := by
  rw [serveStart, hphase, hstop]
  rfl

theorem servePause_of_running (hphase : u.clock.phase = .running) :
    servePause u = settled (carryOut (enterHeld .paused u.clock.remaining u)) := by
  rw [servePause, hphase]
  rfl

theorem serveResume_of_held (hphase : u.clock.phase = .held) (hstop : u.stop.stopped = false) :
    serveResume u = settled (carryOut (resumeClock u)) := by
  rw [serveResume, hphase, hstop]
  rfl

theorem serveAbortMatch_of_match (hidle : u.clock.phase ≠ .idle) (hfinished : u.clock.phase ≠ .finished) :
    serveAbortMatch u = settled (carryOut (enterFinished u)) := by
  unfold serveAbortMatch
  split <;> simp_all

theorem serveAbortMatch_of_badState (h : u.clock.phase = .idle ∨ u.clock.phase = .finished) :
    serveAbortMatch u = refuse .badState u := by
  unfold serveAbortMatch
  split <;> simp_all

end

/-- Settles O18, by the checks of each request in their order, and RESUME by the held mark. -/
theorem startPauseAndResume : Obligations.StartPauseAndResume := by
  constructor
  · intro s hs
    refine ⟨fun hphase => ?_, fun hphase hstop => ?_, fun p d rest hphase hstop hp hd => ?_, fun hphase => ?_,
      fun hphase => ?_⟩
    · exact exec_refused hs serveStart (if_pos (by simpa using hphase))
    · exact exec_refused hs serveStart (by simp [serveStart, hphase, hstop])
    · have hfirst : p.periods[0]? = some d := by simp [hd]
      have hloaded := loadPeriod_eq (s := receiverDone s) (i := 0) hp hfirst
      rw [exec_request hs serveStart (serveStart_of_ready hphase hstop), hloaded]
      rfl
    · exact exec_refused hs servePause (if_pos (by simpa using hphase))
    · exact exec_request hs servePause (servePause_of_running hphase)
  · intro s hs
    refine ⟨fun hphase => ?_, fun hphase hstop => ?_, fun hphase hstop hmark => ?_, fun p d hphase hstop hmark hp hd => ?_,
      fun p hphase hstop hmark hp hlast => ?_⟩
    · exact exec_refused hs serveResume (if_pos (by simpa using hphase))
    · exact exec_refused hs serveResume (by simp [serveResume, hphase, hstop])
    · have hresumed : resumeClock (receiverDone s)
          = enterPhase .running s.clock.index s.clock.remaining .none none (receiverDone s) := by
        simp [resumeClock, hmark]
      rw [exec_request hs serveResume (serveResume_of_held hphase hstop), hresumed]
      rfl
    · have hresumed : resumeClock (receiverDone s) = nextPeriod (receiverDone s) := if_pos hmark
      have hloaded := (nextPeriod_of_period (s := receiverDone s) hp hd).trans (loadPeriod_eq hp hd)
      rw [exec_request hs serveResume (serveResume_of_held hphase hstop), hresumed, hloaded]
      rfl
    · have hresumed : resumeClock (receiverDone s) = nextPeriod (receiverDone s) := if_pos hmark
      have hended := nextPeriod_of_last (s := receiverDone s) hp hlast
      rw [exec_request hs serveResume (serveResume_of_held hphase hstop), hresumed, hended]
      exact ⟨_, rfl, claimsCleared_endLastPeriod (s := receiverDone s) hp⟩

-- The expiry of a period (R10)

/-- Settles O19: the mark that the expired period leaves, the period behind it, and the end of the last. -/
theorem periodExpiryHoldsLoadsOrEnds : Obligations.PeriodExpiryHoldsLoadsOrEnds := by
  intro s f p d hs hphase hp hindex hd hf
  have hflags : (s.setFlagIf (s.flagSet .periodEnd) .lapse).setFlag .periodEnd = f := by
    rw [hf]
    cases hset : s.flagSet .periodEnd <;> simp [State.setFlagIf]
  have hclock : f.clock = s.clock := by rw [← hflags]; simp
  have hcurrent : (f.currentPeriod.map (·.holdAtEnd)).getD false = d.holdAtEnd := by
    have hpositive : s.clock.index ≠ 0 := by omega
    simp [State.currentPeriod, hclock, hp, hpositive, hd]
  have hexpired : exec .periodExpiry s = .next (settle (if d.holdAtEnd then enterHeld .atEnd 0 f else nextPeriod f)) := by
    refine congrArg Host.Outcome.next ?_
    rw [whenAwake_of_awake hs, if_pos hphase, expirePeriod]
    simp only [hflags, hcurrent]
  have hlink : f.link = s.link := by rw [← hflags]; simp
  rw [← hclock] at hp ⊢
  rw [← hlink]
  refine ⟨fun hhold => ?_, fun d' hhold hd' => ?_, fun hhold hlast => ?_⟩
  · rw [hexpired, hhold, if_pos rfl]
    rfl
  · rw [hexpired, hhold, if_neg (by simp), nextPeriod_of_period hp hd', loadPeriod_eq hp hd']
  · rw [hexpired, hhold, if_neg (by simp), nextPeriod_of_last hp hlast.le]
    exact ⟨_, rfl, claimsCleared_endLastPeriod hp⟩

-- ABORT MATCH, the end of the grace and CLOSE MATCH (R11 to R14, R42)

theorem exec_graceExpiry {s : State} (hs : s.awake) (hphase : s.clock.phase = .grace) :
    exec .graceExpiry s = .next (settle (enterFinished s)) := by
  refine congrArg Host.Outcome.next ?_
  rw [whenAwake_of_awake hs, if_pos hphase]

/-- What CLOSE MATCH leaves of a slot record in one of its states (R42). -/
def closedSlot (x y : Slot) : Prop :=
  y.kit = x.kit ∧ y.alliance = x.alliance ∧ y.team = x.team ∧ y.permitted = x.permitted ∧ y.attempts = x.attempts
    ∧ if x.state = .empty then y.state = .empty
      else y.state = .expected ∧ y.disable = none
        ∧ (x.state ≠ .expected → y.tier = none ∧ y.cap = none ∧ y.wasLost = false ∧ y.confirmTimer = none
          ∧ y.silenceTimer = none)

theorem closeSlot_slot_same {n : Nat} (hn : 1 ≤ n ∧ n ≤ 24) (s : State) :
    closedSlot (s.slot n) ((closeSlot n s).slot n) := by
  unfold closedSlot closeSlot
  dsimp only
  by_cases hempty : (s.slot n).state = .empty
  · simp [hempty]
  by_cases hexpected : (s.slot n).state = .expected
  · simp [hexpected, slot_setSlot, hn]
  · simp [hempty, hexpected, returnToExpected_eq, slot_modSlot, slot_setSlot, hn, toExpected]

theorem sameButCounts_closeSlot {n k : Nat} (hk : k ≠ n) (s : State) :
    SameButCounts (s.slot k) ((closeSlot n s).slot k) := by
  have hreturned : SameButCounts (s.slot k) ((returnToExpected n s).slot k) := by
    rw [returnToExpected_eq, slot_setSlot, if_neg (by simp [hk])]
    exact sameButCounts_dropClaims n s k
  unfold closeSlot
  dsimp only
  split_ifs
  · exact .refl _
  · rw [slot_setSlot, if_neg (by simp [hk])]
    exact .refl _
  · rw [slot_modSlot, if_neg (by simp [hk])]
    exact hreturned

theorem closedSlot_congr {x x' y y' : Slot} (hx : SameButCounts x x') (hy : SameButCounts y y')
    (h : closedSlot x' y) : closedSlot x y' := by
  unfold closedSlot at h ⊢
  rw [hy.eq]
  rw [hx.eq] at h
  exact h

/-- CLOSE MATCH comes to each slot of a list once, and to the others not at all. -/
theorem closeSlots_slot {l : List Nat} (hl : l.Nodup) (hrange : ∀ n ∈ l, 1 ≤ n ∧ n ≤ 24) (s : State) (k : Nat) :
    (k ∉ l → SameButCounts (s.slot k) ((l.foldl (fun s n => closeSlot n s) s).slot k))
      ∧ (k ∈ l → closedSlot (s.slot k) ((l.foldl (fun s n => closeSlot n s) s).slot k)) := by
  induction l generalizing s with
  | nil => exact ⟨fun _ => .refl _, by simp⟩
  | cons n l ih =>
    obtain ⟨hnot, hnodup⟩ := List.nodup_cons.mp hl
    obtain ⟨hout, hin⟩ := ih hnodup (fun m hm => hrange m (List.mem_cons_of_mem n hm)) (closeSlot n s)
    rw [List.foldl_cons]
    by_cases hk : k = n
    · subst hk
      exact ⟨by simp, fun _ => closedSlot_congr (.refl _) (hout hnot) (closeSlot_slot_same (hrange k (by simp)) s)⟩
    · have hsame := sameButCounts_closeSlot hk s
      exact ⟨fun h => hsame.trans (hout (by simp_all)), fun h => closedSlot_congr hsame (.refl _) (hin (by simp_all))⟩

theorem mem_slotNumbers {n : Nat} : n ∈ slotNumbers ↔ 1 ≤ n ∧ n ≤ 24 := by
  simp only [slotNumbers, List.mem_range'_1]
  omega

theorem closeRoster_slot {n : Nat} (hn : 1 ≤ n ∧ n ≤ 24) (s : State) :
    closedSlot (s.slot n) ((closeRoster s).slot n) :=
  (closeSlots_slot (by decide) (fun _ => mem_slotNumbers.mp) s n).2 (mem_slotNumbers.mpr hn)

theorem serveCloseMatch_of_badState {u : State} (hstaging : u.clock.phase ≠ .staging) (hfinished : u.clock.phase ≠ .finished) :
    serveCloseMatch u = refuse .badState u := by
  unfold serveCloseMatch
  split <;> simp_all

theorem serveCloseMatch_of_over {u : State} (h : u.clock.phase = .staging ∨ u.clock.phase = .finished) :
    serveCloseMatch u = settled (carryOut (closeRoster (enterPhase .idle 0 0 .none none u))) := by
  unfold serveCloseMatch
  split <;> simp_all

/-- Settles O20: ABORT MATCH by phase, the end of the grace, and CLOSE MATCH slot by slot. -/
theorem abortGraceExpiryAndCloseMatch : Obligations.AbortGraceExpiryAndCloseMatch := by
  refine ⟨fun s => ⟨fun hs hphase => ?_, fun hs hidle hfinished => ?_, fun hs hphase => ?_⟩,
    fun s hs => ⟨fun hstaging hfinished => ?_, fun hphase => ?_⟩⟩
  · exact exec_refused hs serveAbortMatch (serveAbortMatch_of_badState hphase)
  · have hserved : serveAbortMatch (receiverDone s) = settled (carryOut (enterFinished (receiverDone s))) :=
      serveAbortMatch_of_match hidle hfinished
    exact ⟨_, exec_carriedOut hs serveAbortMatch hserved, claimsCleared_enterFinished (receiverDone s)⟩
  · exact ⟨_, exec_graceExpiry hs hphase, claimsCleared_enterFinished s⟩
  · exact exec_refused hs serveCloseMatch (serveCloseMatch_of_badState hstaging hfinished)
  · have hserved := serveCloseMatch_of_over (u := receiverDone s) hphase
    have hslot (n : Nat) (hn : 1 ≤ n ∧ n ≤ 24) := closeRoster_slot hn (enterPhase .idle 0 0 .none none (receiverDone s))
    obtain ⟨hclock, -, htable, -, -, -, -, -, -, hscore, hstop, hlink, -, hattention, hsettings, -⟩ :=
      closeRoster_frame (enterPhase .idle 0 0 .none none (receiverDone s))
    generalize closeRoster (enterPhase .idle 0 0 .none none (receiverDone s)) = t at *
    exact ⟨t, exec_carriedOut hs serveCloseMatch hserved, hclock, hscore, hlink, hstop, htable, hsettings, hattention,
      fun n hlow hhigh => hslot n ⟨hlow, hhigh⟩⟩

end Sys2Proof.Machine
end

section
/-! PROOFS. LOAD PLAN and STAGE (R2, R6, R54, R128). -/

namespace Sys2Proof.Machine

-- The period records of a plan (R2)

/-- The codes of a period record name a kind and a hold-at-end value (R2, R194). -/
def codesOk (f : PeriodFields) : Prop := 1 ≤ f.kind.toNat ∧ f.kind.toNat ≤ 4 ∧ f.holdAtEnd.toNat ≤ 1

/-- A period record with its codes read. -/
def rawPeriod (f : PeriodFields) : Period :=
  { kind := (periodKindOf f.kind).getD .auto, duration := f.duration.toNat, factor := f.factor.toNat,
    holdAtEnd := decide (f.holdAtEnd = (1 : Byte)) }

theorem periodKindOf_isSome_iff (b : Byte) : (periodKindOf b).isSome = true ↔ 1 ≤ b.toNat ∧ b.toNat ≤ 4 := by
  have h1 : b = 1 ↔ b.toNat = 1 := by bv_omega
  have h2 : b = 2 ↔ b.toNat = 2 := by bv_omega
  have h3 : b = 3 ↔ b.toNat = 3 := by bv_omega
  have h4 : b = 4 ↔ b.toNat = 4 := by bv_omega
  simp only [periodKindOf, h1, h2, h3, h4]
  split_ifs <;> simp <;> omega

theorem isDriving_periodKindOf {b : Byte} (hb : 1 ≤ b.toNat ∧ b.toNat ≤ 4) :
    isDriving (some ((periodKindOf b).getD .auto)) = true ↔ b.toNat ≤ 3 := by
  have hcases : b = 1 ∨ b = 2 ∨ b = 3 ∨ b = 4 := by bv_omega
  rcases hcases with rfl | rfl | rfl | rfl <;> decide

theorem periodOf_of_codesOk {f : PeriodFields} (h : codesOk f) : periodOf f = some (rawPeriod f) := by
  obtain ⟨hlow, hhigh, hhold⟩ := h
  obtain ⟨k, hk⟩ := Option.isSome_iff_exists.mp ((periodKindOf_isSome_iff f.kind).mpr ⟨hlow, hhigh⟩)
  have hcases : f.holdAtEnd = 0 ∨ f.holdAtEnd = 1 := by bv_omega
  rcases hcases with h | h <;> simp [periodOf, rawPeriod, hk, h, yesNo]

theorem periodOf_of_badCode {f : PeriodFields} (h : ¬codesOk f) : periodOf f = none := by
  unfold periodOf
  split
  · next k hold hk hh =>
    have hkind := (periodKindOf_isSome_iff f.kind).mp (by simp [hk])
    have hle : f.holdAtEnd.toNat ≤ 1 := by
      by_contra hgt
      rw [(yesNo_eq_none_iff _).mpr (by omega)] at hh
      exact absurd hh (by simp)
    exact absurd ⟨hkind.1, hkind.2, hle⟩ h
  · rfl
  · rfl

theorem periodsOf_of_codesOk {fs : List PeriodFields} (h : ∀ f ∈ fs, codesOk f) :
    periodsOf fs = some (fs.map rawPeriod) := by
  induction fs with
  | nil => rfl
  | cons f fs ih =>
    have hrest := ih fun g hg => h g (List.mem_cons_of_mem f hg)
    simp [periodsOf, periodOf_of_codesOk (h f (by simp)), hrest]

theorem periodsOf_of_badCode {fs : List PeriodFields} (h : ∃ f ∈ fs, ¬codesOk f) : periodsOf fs = none := by
  induction fs with
  | nil => simp at h
  | cons f fs ih =>
    by_cases hf : codesOk f
    · have hrest : ∃ g ∈ fs, ¬codesOk g := by
        obtain ⟨g, hg, hbad⟩ := h
        rcases List.mem_cons.mp hg with rfl | hg
        · exact absurd hf hbad
        · exact ⟨g, hg, hbad⟩
      simp [periodsOf, periodOf_of_codesOk hf, ih hrest]
    · simp [periodsOf, periodOf_of_badCode hf]

/-- A plan of period records whose codes are read, brought into range (R2). -/
def planOf (fs : List PeriodFields) (grace : Nat) : Plan := { periods := fs.map rawPeriod, grace := grace }

theorem any_isDriving_iff {fs : List PeriodFields} (h : ∀ f ∈ fs, codesOk f) :
    ((fs.map rawPeriod).any fun p => isDriving (some p.kind)) = true ↔ ∃ f ∈ fs, f.kind.toNat ≤ 3 := by
  simp only [List.any_map, List.any_eq_true, Function.comp_def]
  refine exists_congr fun f => and_congr_right fun hf => ?_
  exact isDriving_periodKindOf ⟨(h f hf).1, (h f hf).2.1⟩

theorem clampPeriod_eq_iff (f : PeriodFields) : clampPeriod (rawPeriod f) = rawPeriod f
    ↔ 1 ≤ f.duration.toNat ∧ f.duration.toNat ≤ 6000 ∧ f.factor.toNat ≤ 16 := by
  simp only [clampPeriod, rawPeriod, Period.mk.injEq, clampTo, true_and, and_true]
  omega

theorem clampPlan_eq_iff (fs : List PeriodFields) (grace : Nat) : clampPlan (planOf fs grace) = planOf fs grace
    ↔ (∀ f ∈ fs, 1 ≤ f.duration.toNat ∧ f.duration.toNat ≤ 6000 ∧ f.factor.toNat ≤ 16) ∧ grace ≤ 100 := by
  have hperiods : (fs.map rawPeriod).map clampPeriod = fs.map rawPeriod
      ↔ ∀ f ∈ fs, 1 ≤ f.duration.toNat ∧ f.duration.toNat ≤ 6000 ∧ f.factor.toNat ≤ 16 := by
    rw [List.map_map, List.map_inj_left]
    exact forall₂_congr fun f _ => clampPeriod_eq_iff f
  simp only [clampPlan, planOf, Plan.mk.injEq, hperiods]
  exact and_congr_right fun _ => by omega

-- LOAD PLAN (R2)

section
variable {u : State} (hphase : u.clock.phase = .idle) {count grace : Nat} {fs : List PeriodFields}
include hphase

theorem serveLoadPlan_of_badArg
    (h : count = 0 ∨ 8 < count ∨ fs.length ≠ count ∨ (∃ f ∈ fs, ¬codesOk f) ∨ ∀ f ∈ fs, 3 < f.kind.toNat) :
    serveLoadPlan count grace (some fs) u = refuse .badArg u := by
  unfold serveLoadPlan
  rw [if_neg (by simp [hphase])]
  split
  · rfl
  next hcount =>
  dsimp only
  split
  · rfl
  next hlength =>
  by_cases hcodes : ∀ f ∈ fs, codesOk f
  · have hnone : ((fs.map rawPeriod).any fun p => isDriving (some p.kind)) = false := by
      rw [Bool.eq_false_iff, ne_eq, any_isDriving_iff hcodes]
      rintro ⟨f, hf, hkind⟩
      rcases h with h | h | h | ⟨g, hg, hbad⟩ | h
      · simp [h] at hcount
      · simp [h] at hcount
      · simp [h] at hlength
      · exact hbad (hcodes g hg)
      · exact absurd hkind (by simpa using h f hf)
    rw [periodsOf_of_codesOk hcodes]
    dsimp only
    rw [hnone]
    rfl
  · have hbad : ∃ f ∈ fs, ¬codesOk f := by simpa using hcodes
    rw [periodsOf_of_badCode hbad]

theorem serveLoadPlan_of_good (hcount : 1 ≤ count ∧ count ≤ 8) (hlength : fs.length = count)
    (hcodes : ∀ f ∈ fs, codesOk f) (hdriving : ∃ f ∈ fs, f.kind.toNat ≤ 3) :
    serveLoadPlan count grace (some fs) u =
      { state := { u with clock := { u.clock with plan := some (clampPlan (planOf fs grace)) } }
        outcome := if (∀ f ∈ fs, 1 ≤ f.duration.toNat ∧ f.duration.toNat ≤ 6000 ∧ f.factor.toNat ≤ 16) ∧ grace ≤ 100
          then .ok else .okAdjusted
        fields := [] } := by
  have houtcome : okIf (clampPlan (planOf fs grace) != planOf fs grace)
      = if (∀ f ∈ fs, 1 ≤ f.duration.toNat ∧ f.duration.toNat ≤ 6000 ∧ f.factor.toNat ≤ 16) ∧ grace ≤ 100
        then .ok else .okAdjusted := by
    by_cases h : clampPlan (planOf fs grace) = planOf fs grace
    · rw [if_pos ((clampPlan_eq_iff fs grace).mp h), h]
      simp [okIf]
    · rw [if_neg (fun hin => h ((clampPlan_eq_iff fs grace).mpr hin))]
      simp [okIf, h]
  unfold serveLoadPlan
  rw [if_neg (by simp [hphase]), if_neg (by simp; omega)]
  dsimp only
  rw [if_neg (by simp [hlength]), periodsOf_of_codesOk hcodes]
  dsimp only
  rw [(any_isDriving_iff hcodes).mpr hdriving, if_pos rfl]
  change Served.mk _ _ _ = _
  rw [← houtcome]
  rfl

end

theorem not_codesOk_iff (f : PeriodFields) :
    ¬codesOk f ↔ f.kind = 0 ∨ 4 < f.kind.toNat ∨ 1 < f.holdAtEnd.toNat := by
  have hzero : f.kind = 0 ↔ f.kind.toNat = 0 := by bv_omega
  rw [hzero]
  unfold codesOk
  omega

/-- A record list of at most 8 reaches the clock; a longer one is refused before it (R180). -/
theorem exec_loadPlan {s : State} (hs : s.ready) (count grace : Byte) {fs : List PeriodFields} {r : Served}
    (hr : (if 8 < fs.length then refuse .badArg (receiverDone s)
      else serveLoadPlan count.toNat grace.toNat (some fs) (receiverDone s)) = r) :
    exec (.loadPlan count grace fs) s = .next (replied 0x30 r.outcome r.fields r.state) := by
  refine exec_request hs (if 8 < fs.length then refuse .badArg else serveLoadPlan count.toNat grace.toNat (some fs)) ?_
  rw [← hr]
  split <;> rfl

/-- Settles O16, by the checks of LOAD PLAN in their order. -/
theorem loadPlanStoresThePlanInRange : Obligations.LoadPlanStoresThePlanInRange := by
  intro s count grace fs hs
  refine ⟨fun hlong => ?_, fun hshort hphase => ?_, fun hphase hbad => ?_,
    fun hphase hcount hcount' hlength hcodes hdriving => ?_⟩
  · exact exec_loadPlan hs count grace (r := refuse .badArg (receiverDone s)) (if_pos hlong)
  · refine exec_loadPlan hs count grace (r := refuse .badState (receiverDone s)) ?_
    rw [if_neg (by omega)]
    exact if_pos (by simpa using hphase)
  · refine exec_loadPlan hs count grace (r := refuse .badArg (receiverDone s)) ?_
    split
    · rfl
    refine serveLoadPlan_of_badArg (u := receiverDone s) hphase ?_
    have hzero : count = 0 ↔ count.toNat = 0 := by bv_omega
    rcases hbad with h | h | h | ⟨f, hf, h⟩ | h
    · exact .inl (hzero.mp h)
    · exact .inr (.inl h)
    · exact .inr (.inr (.inl h))
    · exact .inr (.inr (.inr (.inl ⟨f, hf, (not_codesOk_iff f).mpr h⟩)))
    · exact .inr (.inr (.inr (.inr fun f hf => by simp [h f hf])))
  · have hrange : 1 ≤ count.toNat ∧ count.toNat ≤ 8 := by
      refine ⟨?_, hcount'⟩
      by_contra hzero
      exact hcount (by bv_omega)
    have hserved := serveLoadPlan_of_good (u := receiverDone s) hphase (grace := grace.toNat) hrange hlength hcodes hdriving
    rw [exec_loadPlan hs count grace ((if_neg (by omega)).trans hserved)]
    simp only [clampPlan, planOf, List.map_map]
    rfl

-- STAGE (R6, R54, R128)

/-- The run-time part of a defined element with its default flags live (R54). -/
def defaultsLive (d : ElementDef) (r : ElementRun) : ElementRun :=
  { r with refusing := d.defaultRefusing, silent := d.defaultSilent }

theorem defaultsLive_idem (d : ElementDef) (r : ElementRun) : defaultsLive d (defaultsLive d r) = defaultsLive d r := rfl

/-- One element's default flags are copied (R54). -/
def copyFlags (s : State) (e : Nat) : State :=
  if s.defined e then s.modRun e (defaultsLive (s.elemDef e)) else s

theorem copyDefaultFlags_eq (s : State) : copyDefaultFlags s = elementNumbers.foldl copyFlags s := rfl

theorem copyFlags_run (s : State) (e k : Nat) : (copyFlags s e).run k
    = if k = e ∧ s.defined k = true then defaultsLive (s.elemDef k) (s.run k) else s.run k := by
  unfold copyFlags
  split
  · next hd =>
    rw [run_modRun]
    by_cases hk : k = e
    · subst hk
      simp [hd, element_range_of_defined hd]
    · simp [hk]
  · next hd =>
    rw [if_neg]
    rintro ⟨rfl, h⟩
    exact hd h

theorem copyFlags_frame (s : State) (e k : Nat) : (copyFlags s e).elemDef k = s.elemDef k
    ∧ (copyFlags s e).defined k = s.defined k := by
  unfold copyFlags
  split <;> simp

theorem copyDefaultFlags_run (s : State) (k : Nat) : (copyDefaultFlags s).run k
    = if s.defined k = true then defaultsLive (s.elemDef k) (s.run k) else s.run k := by
  have hfold (l : List Nat) (s : State) : (l.foldl copyFlags s).run k
      = if k ∈ l ∧ s.defined k = true then defaultsLive (s.elemDef k) (s.run k) else s.run k := by
    induction l generalizing s with
    | nil => simp
    | cons e l ih =>
      obtain ⟨hdef, hdefined⟩ := copyFlags_frame s e k
      rw [List.foldl_cons, ih, hdef, hdefined, copyFlags_run]
      by_cases hd : s.defined k = true
      · by_cases hk : k = e
        · rw [if_pos (⟨hk, hd⟩ : k = e ∧ s.defined k = true), defaultsLive_idem, ite_self, if_pos ⟨by simp [hk], hd⟩]
        · simp [hd, hk]
      · simp [hd]
  rw [copyDefaultFlags_eq, hfold]
  by_cases hd : s.defined k = true
  · simp [hd, mem_elementNumbers, element_range_of_defined hd]
  · simp [hd]

/-- A state with the run-time parts of another. -/
def State.withRuns (s x : State) : State := { s with table := { s.table with runs := x.table.runs } }

theorem withRuns_copyDefaultFlags (s x : State) : (copyDefaultFlags s).withRuns x = s.withRuns x :=
  foldl_keep (fun s => s.withRuns x) copyFlags (fun s e => by unfold copyFlags; split <;> rfl) elementNumbers s

theorem elemScore_setUpScores (s : State) (e : Nat) : (setUpScores s).elemScore e = freshScore (s.elemDef e) :=
  at1_mapTable _ _ _ _ _ rfl

theorem alliance_setUpScores (s : State) (a : Nat) : (setUpScores s).alliance a = zeroAlliance := at1_replicate 4 _ a

/-- Settles O17: the refusals of STAGE, and what the setting up of the match writes and leaves. -/
theorem stageSetsUpTheMatch : Obligations.StageSetsUpTheMatch := by
  intro s hs
  refine ⟨fun hphase => ?_, fun hphase hplan => ?_, fun hphase hplan => ?_⟩
  · exact exec_refused hs serveStage (if_pos (by simpa using hphase))
  · exact exec_refused hs serveStage (by simp [serveStage, hphase, hplan])
  · let u := enterPhase .staging 0 0 .none none (receiverDone s)
    have hserved : serveStage (receiverDone s) = settled (carryOut (copyDefaultFlags (setUpScores u))) := by
      simp [serveStage, hphase, Option.isSome_iff_ne_none.mp hplan, u]
    have hrun := copyDefaultFlags_run (setUpScores u)
    have hframe := withRuns_copyDefaultFlags (setUpScores u) s
    have hscore : (copyDefaultFlags (setUpScores u)).score = (setUpScores u).score := by simp
    have hclock : (copyDefaultFlags (setUpScores u)).clock = (setUpScores u).clock := by simp
    generalize copyDefaultFlags (setUpScores u) = t at *
    have halliance (a : Nat) : t.alliance a = (setUpScores u).alliance a := by simp only [State.alliance, hscore]
    have helem (e : Nat) : t.elemScore e = (setUpScores u).elemScore e := by simp only [State.elemScore, hscore]
    refine ⟨t, exec_carriedOut hs serveStage hserved, hclock,
      fun a => (halliance a).trans (alliance_setUpScores u a), fun e => (helem e).trans (elemScore_setUpScores u e), hrun,
      congrArg (fun x : State => { x with clock := s.clock, score := s.score }) hframe⟩

end Sys2Proof.Machine
end

section
/-! PROOFS. Causes on a stopped field, the element's live flags, and the console's use of the message boxes (R53, R145,
R146, R166, R168, R178). -/

namespace Sys2Proof.Machine

-- Causes on a STOPPED field (R146)

theorem causeArrives_of_stopped {s : State} (h : s.stop.stopped = true) (c : Cause) :
    causeArrives c s = ({ s with stop := latch c s.stop }).setFlag .fieldStop := if_pos h

/-- An asserted STOP_IN arrives at an awake part where it was negated (R145). -/
theorem exec_stopInPressed {s : State} (hs : s.awake) (h : s.stop.stopIn = false) :
    exec .stopInPressed s = .next (settle (causeArrives .pin (setStopIn true s))) := by
  refine congrArg Host.Outcome.next ?_
  rw [pressStop, if_neg (by simp [h]), if_neg (Bool.eq_false_iff.mp hs)]

/-- A state whose receiver is SEEKING and in which a break is in progress (R178). -/
def State.inBreak (s : State) : State :=
  { s with console := { s.console with receiver := .seeking, gapTimer := none, breakInProgress := true } }

/-- A detected break arrives where none was in progress (R178). -/
theorem exec_breakDetected {s : State} (hs : s.awake) (h : s.console.breakInProgress = false) :
    exec .breakDetected s = .next (settle (causeArrives .brk s.inBreak)) := by
  refine congrArg Host.Outcome.next ((whenAwake_of_awake hs _).trans ?_)
  unfold detectBreak
  rw [if_neg (by simp [h])]
  rfl

/-- Settles O22: on a STOPPED field each cause only latches, and what lasts or ends is no arrival. -/
theorem causesOnAStoppedFieldOnlyLatch : Obligations.CausesOnAStoppedFieldOnlyLatch := by
  intro s
  refine ⟨fun hs h => ?_, fun hs h hin => ?_, fun hs h hbreak => ?_, fun h => ?_, fun h => ?_, rfl, fun hs => ?_⟩
  · exact exec_carriedOut hs serveFieldStop
      (congrArg (fun t => settled (carryOut t)) (causeArrives_of_stopped (s := receiverDone s) h .console))
  · rw [exec_stopInPressed hs hin, causeArrives_of_stopped (s := setStopIn true s) h]
    rfl
  · rw [exec_breakDetected hs hbreak, causeArrives_of_stopped (s := s.inBreak) h]
    rfl
  · exact congrArg Host.Outcome.next (if_pos h)
  · refine congrArg Host.Outcome.next ((apply_ite (· = s) _ _ _).mpr ?_)
    split
    · rfl
    · exact if_pos h
  · exact congrArg Host.Outcome.next (whenAwake_of_awake hs _)

-- The live flags of an element (R53)

theorem yesNo_of_le_one {b : Byte} (h : b.toNat ≤ 1) : yesNo b = some (decide (b = 1)) := by
  have hcases : b = 0 ∨ b = 1 := by bv_omega
  rcases hcases with rfl | rfl <;> rfl

theorem serveSetElementMode_eq (x refusing silent : Byte) (u : State) : serveSetElementMode x.toNat refusing silent u
    = if x = 0 ∨ 32 < x.toNat ∨ 1 < refusing.toNat ∨ 1 < silent.toNat then refuse .badArg u
      else if u.defined x.toNat = false then refuse .badState u
      else carryOut (u.setRun x.toNat
        { u.run x.toNat with refusing := decide (refusing = 1), silent := decide (silent = 1) }) := by
  have hrange := elementInRange_eq_false_iff x
  unfold serveSetElementMode
  cases hx : elementInRange x.toNat with
  | false => rw [if_pos (by rfl), if_pos (by rw [hx] at hrange; tauto)]
  | true =>
    rw [if_neg (by simp)]
    by_cases hrefusing : 1 < refusing.toNat
    · rw [(yesNo_eq_none_iff _).mpr hrefusing, if_pos (.inr (.inr (.inl hrefusing)))]
    by_cases hsilent : 1 < silent.toNat
    · rw [(yesNo_eq_none_iff _).mpr hsilent, yesNo_of_le_one (not_lt.mp hrefusing), if_pos (.inr (.inr (.inr hsilent)))]
    rw [yesNo_of_le_one (not_lt.mp hrefusing), yesNo_of_le_one (not_lt.mp hsilent),
      if_neg (by rw [hx] at hrange; simp only [reduceCtorEq, false_iff] at hrange; tauto)]
    cases u.defined x.toNat <;> rfl

/-- Settles O25, by the checks of SET ELEMENT MODE in their order. -/
theorem setElementModeWritesTheLiveFlags : Obligations.SetElementModeWritesTheLiveFlags := by
  intro s x refusing silent hs
  rw [exec_request hs (serveSetElementMode x.toNat refusing silent) (serveSetElementMode_eq x refusing silent _)]
  refine congrArg Host.Outcome.next ?_
  split
  · rfl
  · exact apply_ite (fun r : Served => replied 0x12 r.outcome r.fields r.state) _ _ _

-- The console's MAIL PUT and MAIL READ (R166, R168)

/-- What the console's MAIL READ of a message leaves and replies (R168). -/
theorem serveMailRead_of_message {n offset length count : Nat} {after : Bool} {u : State} {m : Message}
    (hn : slotInRange n = true) (hbox : u.box n = some m) (hoffset : offset < m.bytes.length)
    (hcount : count = max 1 (min (m.bytes.length - offset) length))
    (hafter : after = (m.pending && !(m.origin = .robot && offset + count = m.bytes.length))) :
    serveMailRead n offset length u =
      { state := u.setBox n (some { m with pending := after }), outcome := if count = length then .ok else .okAdjusted,
        fields := [if m.origin = .console then 0 else 1, byte m.bytes.length, byte offset, byte count,
          if after then 1 else 0] ++ (m.bytes.drop offset).take count } := by
  have hclamp : clampTo 1 (m.bytes.length - offset) length = count := by
    rw [hcount, clampTo]
  have hread : consoleReads m offset count = { m with pending := after } := by
    rw [hafter, consoleReads]
    split
    · next h => simp_all
    · next h => simp [Bool.eq_false_iff.mpr h]
  have houtcome : okIf (count != length) = if count = length then .ok else .okAdjusted := by
    by_cases h : count = length <;> simp [okIf, h]
  have horigin : byte (originCode m.origin) = if m.origin = .console then 0 else 1 := by
    cases m.origin <;> rfl
  unfold serveMailRead
  rw [hn, if_neg (by simp), hbox]
  dsimp only
  rw [if_neg (by omega), hclamp, hread, houtcome, horigin]
  rfl

theorem serveMailPut_eq (x : Byte) (bytes : List Byte) (u : State) : serveMailPut x.toNat bytes u
    = if x = 0 ∨ 24 < x.toNat ∨ bytes.length = 0 ∨ 48 < bytes.length then refuse .badArg u
      else if (u.slot x.toNat).state = .empty then refuse .badState u
      else if (u.box x.toNat).any (·.pending) = true then refuse .boxFull u
      else carryOut (u.setBox x.toNat (some { origin := .console, bytes := bytes, pending := true })) := by
  have hrange := slotInRange_eq_false_iff x
  have hargs : (!slotInRange x.toNat || bytes.length = 0 || 48 < bytes.length) = true
      ↔ x = 0 ∨ 24 < x.toNat ∨ bytes.length = 0 ∨ 48 < bytes.length := by
    simp only [Bool.or_eq_true, Bool.not_eq_true', hrange, decide_eq_true_eq, or_assoc]
  have hpending : isPending (u.box x.toNat) = (u.box x.toNat).any (·.pending) := by cases u.box x.toNat <;> rfl
  rw [serveMailPut]
  simp only [hargs, hpending]

/-- Settles O49: MAIL PUT and MAIL READ of the console, by their checks in their order. -/
theorem consoleWritesAndReadsTheBox : Obligations.ConsoleWritesAndReadsTheBox := by
  intro s x offset length bytes hs
  refine ⟨?_, fun hx => ?_, fun hlow hhigh hbox => ?_, fun m hlow hhigh hbox hoffset => ?_,
    fun m n after hlow hhigh hbox hoffset hn hafter => ?_⟩
  · rw [exec_request hs (serveMailPut x.toNat bytes) (serveMailPut_eq x bytes _)]
    refine congrArg Host.Outcome.next ?_
    iterate 3 rw [apply_ite (fun r : Served => replied 0x58 r.outcome r.fields r.state)]
    rfl
  · refine exec_refused hs (serveMailRead x.toNat offset.toNat length.toNat) (if_pos ?_)
    simp [(slotInRange_eq_false_iff x).mpr hx]
  · have hrange : slotInRange x.toNat = true := by simp [slotInRange, hlow, hhigh]
    refine exec_refused hs (serveMailRead x.toNat offset.toNat length.toNat) ?_
    rw [serveMailRead, if_neg (by simp [hrange])]
    simp only [show (receiverDone s).box x.toNat = none from hbox]
  · have hrange : slotInRange x.toNat = true := by simp [slotInRange, hlow, hhigh]
    refine exec_refused hs (serveMailRead x.toNat offset.toNat length.toNat) ?_
    rw [serveMailRead, if_neg (by simp [hrange])]
    simp only [show (receiverDone s).box x.toNat = some m from hbox]
    exact if_pos hoffset
  · have hrange : slotInRange x.toNat = true := by simp [slotInRange, hlow, hhigh]
    have hread := serveMailRead_of_message (u := receiverDone s) hrange hbox hoffset hn hafter
    rw [exec_request hs (serveMailRead x.toNat offset.toNat length.toNat) hread]
    simp [byte]

end Sys2Proof.Machine
end

section
/-! PROOFS. The start-up: what it leaves of every block, and the first choices behind it (R98, R119 to R123, R152, R160,
R171, R177, R189). -/

namespace Sys2Proof.Machine

-- The lights of a start-up (R119 to R121)

/-- The element's light record is fresh, and no LIGHT entry is queued for it (R123). -/
def FreshLight (e : Nat) (s : State) : Prop := s.light e = resetLight ∧ s.lightQueued e = false

theorem recompute_fresh {e : Nat} {s : State} (hd : s.defined e = true) (hfresh : FreshLight e s) : recompute e s =
    if s.bus.queue.length < 16 then
      (s.setQueue (s.bus.queue ++ [lightEntry e (s.display e)])).setLight e
        { resetLight with computed := s.display e, issued := some (s.display e) }
    else s.setLight e { resetLight with computed := s.display e, owed := true } := by
  obtain ⟨hlight, hqueued⟩ := hfresh
  rw [recompute, if_pos hd, issueLight, hlight, if_neg (by simp [resetLight]), hqueued]
  rfl

/-- A fresh light takes a place of the queue, or is owed behind a full one (R120). -/
theorem recompute_fresh_queue {e : Nat} {s : State} (hd : s.defined e = true) (hfresh : FreshLight e s) :
    (recompute e s).bus.queue
      = s.bus.queue ++ if s.bus.queue.length < 16 then [lightEntry e (s.display e)] else [] := by
  rw [recompute_fresh hd hfresh]
  split
  · rfl
  · exact (List.append_nil _).symm

theorem recompute_fresh_light {e : Nat} {s : State} (hd : s.defined e = true) (hfresh : FreshLight e s) :
    ((recompute e s).light e).owed = decide (16 ≤ s.bus.queue.length)
      ∧ ((recompute e s).light e).computed = s.display e := by
  rw [recompute_fresh hd hfresh]
  split
  · next hroom =>
    rw [light_setLight, if_pos ⟨rfl, element_range_of_defined hd⟩, decide_eq_false (by omega)]
    exact ⟨rfl, rfl⟩
  · next hroom =>
    rw [light_setLight, if_pos ⟨rfl, element_range_of_defined hd⟩, decide_eq_true (by omega)]
    exact ⟨rfl, rfl⟩

theorem freshLight_recompute {e k : Nat} (hne : k ≠ e) {s : State} (he : FreshLight e s) (hk : FreshLight k s) :
    FreshLight k (recompute e s) := by
  refine ⟨(recompute_light_other hne s).trans hk.1, ?_⟩
  by_cases hd : s.defined e = true
  · rw [lightQueued_eq_false_iff, recompute_fresh_queue hd he, lightsFor_append,
      (lightQueued_eq_false_iff s k).mp hk.2, List.nil_append]
    split
    · rw [lightsFor_lightEntry, if_neg hne.symm]
    · rfl
  · rw [recompute, if_neg hd]
    exact hk.2

/-- A recomputation leaves the pulse and the last credit of every light (R117). -/
theorem recompute_light_pulse (e k : Nat) (s : State) : ((recompute e s).light k).pulse = (s.light k).pulse
    ∧ ((recompute e s).light k).lastCredited = (s.light k).lastCredited := by
  by_cases hk : k = e
  · subst hk
    unfold recompute
    split
    · next hd => exact (issueLight_light_same (element_range_of_defined hd) { s.light k with computed := s.display k } s).2
    · exact ⟨rfl, rfl⟩
  · rw [recompute_light_other hk]
    exact ⟨rfl, rfl⟩

theorem display_recompute (e k : Nat) (s : State) : (recompute e s).display k = s.display k :=
  display_congr (by simp) (by simp) (by simp) (recompute_light_pulse e k s).1 (recompute_light_pulse e k s).2 (by simp)

theorem recomputeAll_cons (e : Nat) (es : List Nat) (s : State) :
    recomputeAll (e :: es) s = recomputeAll es (recompute e s) := rfl

theorem recomputeAll_light_other {es : List Nat} {k : Nat} (hk : k ∉ es) (s : State) :
    (recomputeAll es s).light k = s.light k := by
  induction es generalizing s with
  | nil => rfl
  | cons e es ih =>
    rw [List.mem_cons, not_or] at hk
    rw [recomputeAll_cons, ih hk.2, recompute_light_other hk.1]

/-- Fresh lights are issued in the order of the recomputations while the queue has room, and owed behind it (R120). -/
theorem recomputeAll_fresh {es : List Nat} (hnodup : es.Nodup) {s : State} (hfresh : ∀ e ∈ es, FreshLight e s) :
    (recomputeAll es s).bus.queue
        = s.bus.queue ++ ((es.filter s.defined).take (16 - s.bus.queue.length)).map (fun e => lightEntry e (s.display e))
      ∧ ∀ e ∈ es, ((recomputeAll es s).light e).owed = ((es.filter s.defined).drop (16 - s.bus.queue.length)).contains e
        ∧ ((recomputeAll es s).light e).computed = s.display e := by
  induction es generalizing s with
  | nil => simp [recomputeAll]
  | cons e es ih =>
    obtain ⟨hfresh_e, hfresh_es⟩ := List.forall_mem_cons.mp hfresh
    obtain ⟨hout, hnodup⟩ := List.nodup_cons.mp hnodup
    have hother : (recomputeAll es (recompute e s)).light e = (recompute e s).light e := recomputeAll_light_other hout _
    have hdefined : (recompute e s).defined = s.defined := funext fun k => by simp
    have hnext (k : Nat) (hk : k ∈ es) : FreshLight k (recompute e s) :=
      freshLight_recompute (ne_of_mem_of_not_mem hk hout) hfresh_e (hfresh_es k hk)
    obtain ⟨hq, hl⟩ := ih hnodup hnext
    simp only [hdefined, display_recompute] at hq hl
    rw [recomputeAll_cons]
    by_cases hd : s.defined e = true
    · obtain ⟨howed, hcomputed⟩ := recompute_fresh_light hd hfresh_e
      rw [recompute_fresh_queue hd hfresh_e] at hq hl
      rw [List.filter_cons_of_pos hd]
      by_cases hroom : s.bus.queue.length < 16
      · have hcount : 16 - s.bus.queue.length = 16 - (s.bus.queue.length + 1) + 1 := by omega
        have hnot : e ∉ (es.filter s.defined).drop (16 - (s.bus.queue.length + 1)) := fun h =>
          hout (List.mem_of_mem_filter (List.mem_of_mem_drop h))
        rw [if_pos hroom, List.length_append, List.length_singleton] at hq hl
        rw [hcount, List.take_succ_cons, List.drop_succ_cons]
        refine ⟨by rw [hq, List.append_assoc]; rfl, List.forall_mem_cons.mpr ⟨?_, hl⟩⟩
        rw [hother, howed, hcomputed, decide_eq_false (by omega), List.contains_eq_mem, decide_eq_false hnot]
        exact ⟨rfl, rfl⟩
      · have hfull : 16 - s.bus.queue.length = 0 := by omega
        rw [if_neg hroom, List.append_nil, hfull] at hq hl
        rw [hfull]
        refine ⟨hq, List.forall_mem_cons.mpr ⟨?_, fun k hk => ?_⟩⟩
        · rw [hother, howed, hcomputed, decide_eq_true (by omega)]
          simp
        · have hne : k ≠ e := ne_of_mem_of_not_mem hk hout
          simpa [hne] using hl k hk
    · have hsame : recompute e s = s := by rw [recompute, if_neg hd]
      have hnot : e ∉ (es.filter s.defined).drop (16 - s.bus.queue.length) := fun h =>
        hout (List.mem_of_mem_filter (List.mem_of_mem_drop h))
      rw [hsame] at hq hl hother ⊢
      rw [List.filter_cons_of_neg hd]
      refine ⟨hq, List.forall_mem_cons.mpr ⟨?_, hl⟩⟩
      rw [hother, hfresh_e.1]
      simp [hnot, resetLight, State.display, hd]

-- The start-up

/-- A state with no entry in the command queue and the lights of another. -/
def State.withoutLights (s x : State) : State := { s with bus := { s.bus with queue := [] }, lights := x.lights }

theorem recompute_withoutLights (x s : State) (e : Nat) : (recompute e s).withoutLights x = s.withoutLights x := by
  unfold recompute issueLight
  split_ifs <;> rfl

theorem recomputeAll_withoutLights (es : List Nat) (s x : State) :
    (recomputeAll es s).withoutLights x = s.withoutLights x :=
  foldl_keep (fun s => s.withoutLights x) _ (recompute_withoutLights x) es s

/-- What a start-up leaves (R119 to R121, R123, R189). -/
theorem startedUp_startUpWith {g : Settings} {defs : Vector ElementDef 32} {flags : FlagSet} {completes pin : Bool}
    {s : State} (hpin : (s.stop.stopIn && completes) = pin) :
    startedUp g defs flags pin s (startUpWith g defs flags completes s)
      ∧ (startUpWith g defs flags completes s).resetAsserted = s.resetAsserted := by
  subst hpin
  unfold startUpWith
  generalize hbase : State.mk _ _ _ _ _ _ _ _ _ _ _ _ _ _ _ _ _ _ = u
  have hfresh : ∀ e ∈ elementNumbers, FreshLight e u := by
    intro e _
    subst hbase
    exact ⟨at1_replicate 32 _ e, rfl⟩
  obtain ⟨hqueue, hlights⟩ := recomputeAll_fresh (by decide) hfresh
  have hframe := recomputeAll_withoutLights elementNumbers u s
  have hdefined : (recomputeAll elementNumbers u).defined = u.defined := funext fun k => by simp
  have hdisplay : (recomputeAll elementNumbers u).display = u.display :=
    funext fun k => foldl_keep (fun s => s.display k) _ (fun s e => display_recompute e k s) elementNumbers u
  rw [← hdefined, ← hdisplay] at hqueue hlights
  generalize recomputeAll elementNumbers u = t at *
  subst hbase
  refine ⟨⟨congrArg State.clock hframe, congrArg State.roster hframe, congrArg State.table hframe,
    congrArg State.claims hframe, congrArg State.score hframe, congrArg State.link hframe, congrArg State.console hframe,
    congrArg State.attention hframe, congrArg State.settings hframe, congrArg State.uptime hframe,
    congrArg State.stop hframe, congrArg State.bus hframe, hqueue, hlights,
    (congrArg (fun x : State => x.store.standing) hframe :), (congrArg (fun x : State => x.store.writing) hframe :),
    (congrArg (fun x : State => x.store.standingGood) hframe :), (congrArg State.freeCount hframe :),
    (congrArg State.meetings hframe :), (congrArg State.pending hframe :)⟩, (congrArg State.resetAsserted hframe :)⟩

end Sys2Proof.Machine
end

section
/-! PROOFS. The reply's end, power-on and the RESET pin, and the state after reset (R98, R152, R160, R171, R177, R188,
R189). -/

namespace Sys2Proof.Machine

/-- The first choices behind a start-up: the HALT goes on the bus and a beacon on the port (R98, R160, R170). -/
theorem settle_of_startedUp {g : Settings} {defs : Vector ElementDef 32} {flags : FlagSet} {pin : Bool} {s u : State}
    (h : startedUp g defs flags pin s u) :
    settle u = portArbiter (sendRequest .halt { u with bus := { u.bus with haltPending := false } }) := by
  obtain ⟨_, _, _, _, _, _, _, _, _, _, _, hbus, _⟩ := h
  have hfreed : u.bus.freed = 0 := (congrArg FieldBus.freed hbus :)
  have hcurrent : u.bus.current = none := (congrArg FieldBus.current hbus :)
  have hhalt : u.bus.haltPending = true := (congrArg FieldBus.haltPending hbus :)
  rw [settle, takeWaitingPlaces_none u hfreed, busArbiter, hcurrent, if_neg (by simp), chooseTransaction, if_pos hhalt]

theorem portArbiter_of_beaconDue {u : State} (hport : u.link.port = none) (hdue : u.link.beaconDue = true) :
    portArbiter u = { u with link := { u.link with
      port := some u.beaconFrame, beaconDue := false, beaconTimer := some (millis u.settings.beaconInterval) } } := by
  rw [portArbiter, hport, if_neg (by simp), if_pos hdue]

-- The end of a reply (R171, R177, R189)

/-- Settles O10: RESTART asks for the start-up, and the reply's end switches the rate and carries it out. -/
theorem replyEndEmptiesThePlaceAndRestartStartsUp : Obligations.ReplyEndEmptiesThePlaceAndRestartStartsUp := by
  intro s
  refine ⟨fun hs => exec_request hs serveRestart rfl, fun hs hheld hrestart => ?_, fun hs hheld hrestart => ?_⟩
  · have hrest : (switchRate { s with console := { s.console with held := none } }).console.restarting = false := by
      rw [switchRate]
      split <;> exact hrestart
    refine congrArg Host.Outcome.next ((whenAwake_of_awake hs _).trans ?_)
    rw [endReply, if_neg (by simp [Option.isSome_iff_ne_none.mp hheld])]
    dsimp only
    rw [hrest, if_neg (by simp), switchRate]
    by_cases hrate : s.console.lineRate = s.settings.consoleRate
    · rw [if_pos hrate, if_pos hrate, if_pos hrate, ← hrate]
    · rw [if_neg hrate, if_neg hrate, if_neg hrate]
      rfl
  · have hrest : (switchRate { s with console := { s.console with held := none } }).console.restarting = true := by
      rw [switchRate]
      split <;> exact hrestart
    have hsame : warmStartUp (switchRate { s with console := { s.console with held := none } })
        = startUpWith s.settings s.table.defs 0 true s := by
      rw [switchRate]
      split <;> rfl
    obtain ⟨hstarted, hreset⟩ := startedUp_startUpWith (g := s.settings) (defs := s.table.defs) (flags := 0) (s := s)
      (Bool.and_true s.stop.stopIn)
    refine ⟨_, congrArg Host.Outcome.next ((whenAwake_of_awake hs _).trans ?_), hstarted, hreset.trans hs⟩
    rw [endReply, if_neg (by simp [Option.isSome_iff_ne_none.mp hheld])]
    dsimp only
    rw [hrest, if_pos rfl, hsame]

-- Power-on and the RESET pin (R152, R188, R189)

theorem coldStartUp_of_good {s : State} (hgood : s.store.standingGood = true) (hwriting : s.store.writing = none)
    (completes : Bool) :
    coldStartUp completes s = startUpWith s.store.standing.settings s.store.standing.defs 0 completes s :=
  if_pos (by simp [abandonWrite, hgood, hwriting])

theorem coldStartUp_of_bad {s : State} (h : s.store.standingGood = false ∨ s.store.writing.isSome = true)
    (completes : Bool) :
    coldStartUp completes s = startUpWith factorySettings noDefinitions settingsDefaultedBit completes s := by
  refine if_neg ?_
  rcases h with h | h
  · simp [abandonWrite, h]
  · simp [abandonWrite, Option.isSome_iff_ne_none.mp h]

theorem exec_powerOn (s : State) : exec .powerOn s
    = .next (if s.resetAsserted = true then coldStartUp (!s.resetAsserted) s else settle (coldStartUp (!s.resetAsserted) s)) := by
  cases h : s.resetAsserted <;> simp [exec, execPowerOn, powerOn, h]

theorem exec_resetPin {s : State} (h : s.resetAsserted = false) :
    exec .resetPin s = .next (coldStartUp false { s with resetAsserted := true }) := by
  simp [exec, execResetPin, assertReset, h]

/-- Both ways of starting up from the same values leave what a start-up leaves. -/
theorem startUps_of_coldStartUp {g : Settings} {defs : Vector ElementDef 32} {flags : FlagSet} {s : State}
    (h : ∀ completes r, coldStartUp completes { s with resetAsserted := r }
      = startUpWith g defs flags completes { s with resetAsserted := r }) :
    (∃ t, exec .powerOn s = .next (if s.resetAsserted = true then t else settle t) ∧ t.resetAsserted = s.resetAsserted
      ∧ startedUp g defs flags (s.stop.stopIn && !s.resetAsserted) s t)
    ∧ (s.resetAsserted = false → ∃ t, exec .resetPin s = .next t ∧ t.resetAsserted = true ∧ t.stopOut = true
      ∧ startedUp g defs flags false s t) := by
  have hpowered : coldStartUp (!s.resetAsserted) s = startUpWith g defs flags (!s.resetAsserted) s :=
    h (!s.resetAsserted) s.resetAsserted
  refine ⟨?_, fun hawake => ?_⟩
  · obtain ⟨hstarted, hreset⟩ := startedUp_startUpWith (g := g) (defs := defs) (flags := flags) (s := s)
      (completes := !s.resetAsserted) rfl
    exact ⟨_, (exec_powerOn s).trans (by rw [hpowered]), hreset, hstarted⟩
  · obtain ⟨hstarted, hreset⟩ := startedUp_startUpWith (g := g) (defs := defs) (flags := flags)
      (s := { s with resetAsserted := true }) (completes := false) (Bool.and_false _)
    refine ⟨_, (exec_resetPin hawake).trans (by rw [h]), hreset, ?_, hstarted⟩
    rw [State.stopOut, hreset, Bool.or_true]

/-- The first beacon of a start-up shows IDLE, the stop and nothing of a match (R162 to R164, R170). -/
theorem beacon_of_startedUp {g : Settings} {defs : Vector ElementDef 32} {flags : FlagSet} {pin : Bool} {s u : State}
    (h : startedUp g defs flags pin s u) :
    u.beacon.phase = .idle ∧ u.beacon.index = 0 ∧ u.beacon.kind = none ∧ u.beacon.remaining = 0 ∧ u.beacon.stopped = true
      ∧ (∀ p ∈ u.beacon.permits, p = false)
      ∧ ∀ x ∈ u.beacon.elements, x.holder = 0 ∧ x.waiting = 0 ∧ x.act = .none := by
  obtain ⟨hclock, _, _, hclaims, _, _, _, _, _, _, hstop, hbus, _⟩ := h
  have hclaim (e : Nat) : u.claim e = emptyClaim := by simp [State.claim, hclaims, resetClaims]
  have hact (e : Nat) : u.act e = restAct := by
    have hacts : u.bus.acts = resetBus.acts := (congrArg FieldBus.acts hbus :)
    simp [State.act, hacts, resetBus]
  have hdrive : u.driveTime = false := by simp [State.driveTime, State.matchTime, hclock, resetClock]
  refine ⟨congrArg Clock.phase hclock, congrArg Clock.index hclock, ?_, ?_, congrArg StopUnit.stopped hstop, ?_, ?_⟩
  · simp [State.beacon, State.currentKind, State.currentPeriod, hclock, resetClock]
  · simp [State.beacon, State.remainingReported, hclock, resetClock]
  · intro p hp
    obtain ⟨n, _, rfl⟩ := List.mem_map.mp hp
    rw [State.drivePermit, hdrive, Bool.and_false]
  · intro x hx
    obtain ⟨e, _, rfl⟩ := List.mem_map.mp hx
    rw [State.elementStatus, hclaim, hact]
    split
    · exact ⟨rfl, rfl, rfl⟩
    · exact ⟨rfl, rfl, rfl⟩

/-- Settles O14, by the standing copy, and by whether RESET is held. -/
theorem startUpTakesTheStandingCopyOrTheDefaults : Obligations.StartUpTakesTheStandingCopyOrTheDefaults := by
  intro s
  have hgood (hg : s.store.standingGood = true) (hw : s.store.writing = none) := startUps_of_coldStartUp
    (g := s.store.standing.settings) (defs := s.store.standing.defs) (flags := 0) (s := s)
    fun completes r => coldStartUp_of_good (s := { s with resetAsserted := r }) hg hw completes
  have hbad (h : s.store.standingGood = false ∨ s.store.writing.isSome = true) := startUps_of_coldStartUp
    (g := factorySettings) (defs := noDefinitions) (flags := settingsDefaultedBit) (s := s)
    fun completes r => coldStartUp_of_bad (s := { s with resetAsserted := r }) h completes
  refine ⟨hgood, hbad, fun h => ⟨?_, ?_⟩, fun h => ?_, fun h => ?_⟩
  · exact congrArg Host.Outcome.next (if_pos h)
  · exact congrArg Host.Outcome.next (if_pos h)
  · exact congrArg Host.Outcome.next (if_neg (by simp [h]))
  · have hcold : ∃ g defs flags, startedUp g defs flags s.stop.stopIn s (coldStartUp true s) := by
      unfold coldStartUp
      split
      · exact ⟨s.store.standing.settings, s.store.standing.defs, 0, (startedUp_startUpWith (Bool.and_true _)).1⟩
      · exact ⟨factorySettings, noDefinitions, settingsDefaultedBit, (startedUp_startUpWith (Bool.and_true _)).1⟩
    obtain ⟨g, defs, flags, hstarted⟩ := hcold
    have hexec : exec .powerOn s = .next (settle (coldStartUp true s)) := by rw [exec_powerOn, h]; rfl
    generalize coldStartUp true s = u at *
    have hlink : u.link = resetLink := hstarted.2.2.2.2.2.1
    rw [settle_of_startedUp hstarted, portArbiter_of_beaconDue (by exact congrArg RobotLink.port hlink)
      (by exact congrArg RobotLink.beaconDue hlink)] at hexec
    exact ⟨_, u.beacon, hexec, rfl, rfl, rfl, rfl, rfl, beacon_of_startedUp hstarted⟩

-- The state after reset

theorem reset_slot (n : Nat) : State.reset.slot n = vacantSlot := at1_replicate 24 _ n

theorem reset_elemDef (e : Nat) : State.reset.elemDef e = undefinedElement := at1_replicate 32 _ e

theorem reset_defined (e : Nat) : State.reset.defined e = false := by
  rw [State.defined, reset_elemDef]
  rfl

theorem reset_run (e : Nat) : State.reset.run e = freshRun undefinedElement := by
  refine (at1_mapTable freshRun noDefinitions e undefinedElement _ rfl).trans ?_
  rw [noDefinitions, at1_replicate]

theorem reset_claim (e : Nat) : State.reset.claim e = emptyClaim := at1_replicate 32 _ e

theorem reset_act (e : Nat) : State.reset.act e = restAct := at1_replicate 32 _ e

theorem reset_light (e : Nat) : State.reset.light e = resetLight := at1_replicate 32 _ e

theorem reset_alliance (a : Nat) : State.reset.alliance a = zeroAlliance := at1_replicate 4 _ a

theorem reset_box (n : Nat) : State.reset.box n = none := at1_replicate 24 _ n

theorem settle_resetValues : settle State.resetValues = State.reset := by decide

theorem recomputeAll_of_undefined {s : State} (h : ∀ e, s.defined e = false) (es : List Nat) : recomputeAll es s = s := by
  induction es with
  | nil => rfl
  | cons e es ih => rw [recomputeAll_cons, recompute, if_neg (by simp [h]), ih]

theorem powerOn_reset : powerOn State.reset = State.reset := by
  have hcold : coldStartUp true State.reset = recomputeAll elementNumbers State.resetValues :=
    coldStartUp_of_bad (.inl rfl) true
  rw [powerOn, if_neg (by decide), hcold,
    recomputeAll_of_undefined (s := State.resetValues) reset_defined, settle_resetValues]

/-- No plan is loaded after reset (R18). -/
theorem clockLaw_reset : clockLaw State.reset := by
  refine ⟨by decide, by decide, by decide, by decide, by decide, by decide, by decide, fun p hp => ?_⟩
  exact absurd hp (by simp [State.reset, State.resetValues, resetClock])

theorem busLaw_reset : busLaw State.reset := by
  refine (busLaw_iff _).mpr ⟨fun e => ?_, ?_⟩
  · rw [reset_act]
    simp [actAgrees, actuatesFor, actuateOnBus, State.reset, startedBus, resetBus, restAct]
  · simp [passAgrees, raws, rawOnBus, State.reset, startedBus, resetBus]

/-- Settles O15: the reset values by their definitions, and each law of a state without definition, slot and claim. -/
theorem resetStateIsTheManualsAndLawful : Obligations.ResetStateIsTheManualsAndLawful := by
  refine ⟨⟨rfl, fun n => ?_, rfl, reset_defined, rfl, reset_claim, rfl, rfl, rfl, rfl, fun e => ?_, rfl, rfl, fun e => ?_,
    reset_alliance, rfl, rfl, rfl, rfl, rfl, rfl, rfl, reset_box, rfl, rfl, rfl, rfl, rfl, rfl, settle_resetValues.symm,
    congrArg Host.Outcome.next powerOn_reset, rfl, rfl, rfl, rfl, rfl⟩,
    ⟨by decide, by decide, by decide⟩, clockLaw_reset, (lawfulClaims_iff _).mpr ?_, fun e => ?_, ?_, fun e => ?_,
    fun e => ⟨fun h => ?_, ?_⟩, busLaw_reset, ?_, fun a => ?_, ?_, ?_⟩
  · rw [reset_slot]
    rfl
  · rw [reset_act]
    rfl
  · rw [reset_light]
    exact ⟨rfl, rfl⟩
  · exact lawful_of_empty reset_claim fun n => by rw [reset_slot]; exact ⟨rfl, rfl⟩
  · rw [reset_claim]
    exact ⟨fun _ _ => rfl, fun _ => rfl, fun _ => rfl⟩
  · refine (rosterLaw_iff _).mpr ⟨fun _ n => .inl (by rw [reset_slot]; rfl), fun n => ?_⟩
    rw [reset_slot]
    constructor <;> decide
  · rw [reset_run]
    exact ⟨by decide, fun h => absurd h (by decide)⟩
  · rw [reset_light] at h
    exact absurd h (by decide)
  · simp [State.reset, startedBus, resetBus]
  · exact ⟨by decide, by decide, by decide, by decide, fun n => Nat.zero_le _, by decide⟩
  · rw [reset_alliance]
    decide
  · exact ⟨settingsInRange_factory, settingsInRange_factory, fun w hw => absurd hw (by simp [State.reset, State.resetValues])⟩
  · refine ⟨fun n h => absurd ?_ h, sidesWithin_noDefinitions _, sidesWithin_noDefinitions _,
      fun w hw => absurd hw (by simp [State.reset, State.resetValues])⟩
    rw [reset_slot]
    rfl

end Sys2Proof.Machine
end

section
/-! PROOFS. REGISTER, UNREGISTER, DISABLE ROBOT and ENABLE ROBOT (R21 to R23, R38 to R40, R87). -/

namespace Sys2Proof.Machine

theorem setSlot_slot_self {s : State} {n : Nat} (hn : 1 ≤ n ∧ n ≤ 24) (x : Slot) : (s.setSlot n x).slot n = x := by
  rw [slot_setSlot, if_pos ⟨rfl, hn⟩]

theorem setSlot_slot_other {s : State} {n k : Nat} (hk : k ≠ n) (x : Slot) : (s.setSlot n x).slot k = s.slot k := by
  rw [slot_setSlot, if_neg fun h => hk h.1]

theorem slotInRange_iff (n : Nat) : slotInRange n = true ↔ 1 ≤ n ∧ n ≤ 24 := by simp [slotInRange]

/-- A slot record whose counts are 0 is written of a slot that holds and waits for nothing. -/
theorem holdsNothing_setSlot {n : Nat} {s : State} (h : holdsNothing n s) {x : Slot} (hhold : x.holdCount = 0)
    (hwait : x.waitCount = 0) : holdsNothing n (s.setSlot n x) := by
  obtain ⟨hclaims, hcounts⟩ := h
  refine ⟨fun e => by simpa using hclaims e, ?_⟩
  rw [slot_setSlot]
  split
  · exact ⟨hhold, hwait⟩
  · exact hcounts

/-- A slot whose claims have been dropped holds nothing, whatever else is then written of its record (R87). -/
theorem holdsNothing_dropClaims_setSlot {s : State} (hs : lawfulClaims s) (n : Nat) {x : Slot}
    (hhold : x.holdCount = ((dropClaims n s).slot n).holdCount)
    (hwait : x.waitCount = ((dropClaims n s).slot n).waitCount) :
    holdsNothing n ((dropClaims n s).setSlot n x) := by
  have hdropped := holdsNothing_dropClaims ((lawfulClaims_iff s).mp hs) n
  exact holdsNothing_setSlot hdropped (hhold.trans hdropped.2.1) (hwait.trans hdropped.2.2)

-- REGISTER and UNREGISTER (R22, R23)

theorem slotOfKit_isSome_iff (s : State) (kit : Word) : (s.slotOfKit kit).isSome = true
    ↔ ∃ n, 1 ≤ n ∧ n ≤ 24 ∧ (s.slot n).state ≠ .empty ∧ (s.slot n).kit = kit := by
  simp only [State.slotOfKit, List.find?_isSome, mem_slotNumbers, Bool.and_eq_true, bne_iff_ne, beq_iff_eq, and_assoc]

section
variable {u : State} {n : Nat}

/-- The phases in which the roster may be written (R22, R23). -/
theorem rosterClosed_iff (u : State) : (u.clock.phase != .idle && u.clock.phase != .staging) = true
    ↔ u.clock.phase ≠ .idle ∧ u.clock.phase ≠ .staging := by simp

variable (hphase : u.clock.phase = .idle ∨ u.clock.phase = .staging)
include hphase

theorem rosterClosed_eq_false : (u.clock.phase != .idle && u.clock.phase != .staging) = false := by
  rcases hphase with h | h <;> rw [h] <;> rfl

variable (hn : 1 ≤ n ∧ n ≤ 24)

include hn in
theorem serveRegister_of_alliance {a : Nat} (ha : 1 ≤ a ∧ a ≤ u.settings.allianceCount) (kit : Word) (team : Nat) :
    serveRegister n kit a team u =
      if (u.slot n).state != .empty then refuse .badState u
      else if (u.slotOfKit kit).isSome then refuse .badArg u
      else
        { state := (u.setSlot n (registeredSlot u.settings kit a (max 1 team))).setStrangers (u.roster.strangers.erase kit)
          outcome := okIf (team = 0), fields := [] } := by
  rw [serveRegister, if_neg (by simp [rosterClosed_eq_false hphase]), if_neg (by simp [(slotInRange_iff n).mpr hn]),
    if_neg (by simp; omega)]

theorem serveRegister_of_badArg {a : Nat} (h : slotInRange n = false ∨ a = 0 ∨ u.settings.allianceCount < a) (kit : Word)
    (team : Nat) : serveRegister n kit a team u = refuse .badArg u := by
  rw [serveRegister, if_neg (by simp [rosterClosed_eq_false hphase])]
  rcases h with h | h
  · rw [if_pos (by simp [h])]
  · split
    · rfl
    · rw [if_pos (by simpa using h)]

theorem serveUnregister_of_outOfRange (hout : slotInRange n = false) : serveUnregister n u = refuse .badArg u := by
  rw [serveUnregister, if_neg (by simp [rosterClosed_eq_false hphase]), if_pos (by simp [hout])]

include hn in
theorem serveUnregister_of_inRange : serveUnregister n u = if (u.slot n).state = .empty then refuse .badState u
    else settled (carryOut (((dropClaims n u).setSlot n vacantSlot).setBox n none)) := by
  rw [serveUnregister, if_neg (by simp [rosterClosed_eq_false hphase]), if_neg (by simp [(slotInRange_iff n).mpr hn])]

end

/-- What UNREGISTER leaves of a registered slot and of the others (R23, R87). -/
theorem unregistered {s : State} {n : Nat} (hn : 1 ≤ n ∧ n ≤ 24) :
    let t := ((dropClaims n s).setSlot n vacantSlot).setBox n none
    t.slot n = vacantSlot ∧ t.box n = none ∧ (∀ k, k ≠ n → t.box k = s.box k)
      ∧ (∀ k, k ≠ n → (t.slot k).state = (s.slot k).state ∧ (t.slot k).kit = (s.slot k).kit)
      ∧ (lawfulClaims s → holdsNothing n t) := by
  refine ⟨((setBox_reads _ _ _).1 n).trans (setSlot_slot_self hn _), ?_, fun k hk => ?_, fun k hk => ?_, fun hs => ?_⟩
  · rw [box_setBox, if_pos ⟨rfl, hn⟩]
  · rw [box_setBox, if_neg (by simp [hk])]
    simp
  · rw [(setBox_reads _ _ _).1, setSlot_slot_other hk]
    simp
  · have hdropped := holdsNothing_dropClaims ((lawfulClaims_iff s).mp hs) n
    generalize dropClaims n s = v at hdropped ⊢
    exact holdsNothing_setSlot hdropped rfl rfl

/-- Settles O28, by the checks of each request in their order. -/
theorem registerAndUnregisterASlot : Obligations.RegisterAndUnregisterASlot := by
  refine ⟨fun s x kit a team hs => ⟨fun hidle hstaging => ?_, fun hphase => ⟨fun hbad => ?_,
      fun hlow hhigh ha ha' hreg => ?_, fun hlow hhigh ha ha' hfree => ⟨fun htaken => ?_, fun hnew => ?_⟩⟩⟩,
    fun s x hs => ⟨fun hidle hstaging => ?_, fun hphase => ⟨fun hx => ?_, fun hlow hhigh hfree => ?_,
      fun hlow hhigh hreg => ?_⟩⟩⟩
  · exact exec_refused hs (serveRegister x.toNat kit a.toNat team.toNat)
      (if_pos ((rosterClosed_iff (receiverDone s)).mpr ⟨hidle, hstaging⟩))
  · have hzero : a = 0 ↔ a.toNat = 0 := by bv_omega
    refine exec_refused hs (serveRegister x.toNat kit a.toNat team.toNat)
      (serveRegister_of_badArg (u := receiverDone s) hphase ?_ kit team.toNat)
    rw [slotInRange_eq_false_iff, or_assoc, ← hzero]
    exact hbad
  · refine exec_refused hs (serveRegister x.toNat kit a.toNat team.toNat) ?_
    rw [serveRegister_of_alliance (u := receiverDone s) hphase ⟨hlow, hhigh⟩ ⟨ha, ha'⟩]
    exact if_pos (by simpa using hreg)
  · refine exec_refused hs (serveRegister x.toNat kit a.toNat team.toNat) ?_
    rw [serveRegister_of_alliance (u := receiverDone s) hphase ⟨hlow, hhigh⟩ ⟨ha, ha'⟩]
    rw [if_neg (by simpa using hfree)]
    exact if_pos ((slotOfKit_isSome_iff (receiverDone s) kit).mpr htaken)
  · have hnone : ¬((receiverDone s).slotOfKit kit).isSome = true := by
      rw [slotOfKit_isSome_iff]
      rintro ⟨n, h1, h24, hstate, hkit⟩
      exact hnew n h1 h24 hstate hkit
    have hserved := serveRegister_of_alliance (u := receiverDone s) hphase ⟨hlow, hhigh⟩ ⟨ha, ha'⟩ kit team.toNat
    rw [if_neg (by simpa using hfree), if_neg hnone] at hserved
    have houtcome : okIf (decide (team.toNat = 0)) = if team = 0 then .okAdjusted else .ok := by
      have hzero : team = 0 ↔ team.toNat = 0 := by bv_omega
      simp only [hzero, okIf, decide_eq_true_eq]
    refine ⟨_, (exec_request hs (serveRegister x.toNat kit a.toNat team.toNat) hserved).trans (by rw [houtcome]), ?_,
      fun n hne => ?_, rfl, rfl⟩
    · exact setSlot_slot_self ⟨hlow, hhigh⟩ _
    · exact setSlot_slot_other hne _
  · exact exec_refused hs (serveUnregister x.toNat) (if_pos ((rosterClosed_iff (receiverDone s)).mpr ⟨hidle, hstaging⟩))
  · exact exec_refused hs (serveUnregister x.toNat)
      (serveUnregister_of_outOfRange (u := receiverDone s) hphase ((slotInRange_eq_false_iff x).mpr hx))
  · exact exec_refused hs (serveUnregister x.toNat)
      ((serveUnregister_of_inRange (u := receiverDone s) hphase ⟨hlow, hhigh⟩).trans (if_pos hfree))
  · have hserved := (serveUnregister_of_inRange (u := receiverDone s) hphase ⟨hlow, hhigh⟩).trans (if_neg hreg)
    obtain ⟨hslot, hbox, hboxes, hslots, hholds⟩ := unregistered (s := receiverDone s) ⟨hlow, hhigh⟩
    refine ⟨_, exec_carriedOut hs (serveUnregister x.toNat) hserved, hslot, hbox, hboxes, hslots, hholds, ?_⟩
    simp

-- DISABLE ROBOT and ENABLE ROBOT (R38 to R40)

theorem disableOf_toNat (duration : Half) : disableOf duration.toNat
    = if duration = 0 then .permanent else .timed (min 6000 duration.toNat * 100000) := by
  have hzero : duration = 0 ↔ duration.toNat = 0 := by bv_omega
  simp only [disableOf, hzero]
  rfl

section
variable {u : State} {n : Nat} (hn : 1 ≤ n ∧ n ≤ 24)
include hn

theorem serveDisableRobot_of_expected (h : (u.slot n).state = .empty ∨ (u.slot n).state = .expected) (duration : Nat) :
    serveDisableRobot n duration u = refuse .badState u := by
  rw [serveDisableRobot, if_neg (by simp [(slotInRange_iff n).mpr hn]), if_pos (by simpa using h)]

theorem serveDisableRobot_of_notAdmitted
    (h : (u.slot n).state = .offered ∨ (u.slot n).state = .disabled ∨ (u.slot n).state = .lost) (duration : Nat) :
    serveDisableRobot n duration u = settled { state := u.setSlot n { u.slot n with disable := some (disableOf duration) }
                                               outcome := okIf (6000 < duration), fields := [] } := by
  rw [serveDisableRobot, if_neg (by simp [(slotInRange_iff n).mpr hn])]
  rcases h with h | h | h <;> simp [h, State.modSlot, disableSlot]

theorem serveDisableRobot_of_admitted (h : (u.slot n).state = .admitted) (duration : Nat) :
    serveDisableRobot n duration u = settled
      { state := (dropClaims n u).setSlot n
          { (dropClaims n u).slot n with state := .disabled, disable := some (disableOf duration) }
        outcome := okIf (6000 < duration), fields := [] } := by
  rw [serveDisableRobot, if_neg (by simp [(slotInRange_iff n).mpr hn])]
  simp [h, State.modSlot, disableSlot]

theorem serveEnableRobot_of_inRange : serveEnableRobot n u = if (u.slot n).state = .empty then refuse .badState u
    else carryOut (u.setSlot n (endDisable (u.slot n))) := by
  rw [serveEnableRobot, if_neg (by simp [(slotInRange_iff n).mpr hn])]
  rfl

end

/-- Settles O29: DISABLE ROBOT by the state of the slot, ENABLE ROBOT by its checks, and the expiry of a timed disable. -/
theorem disableAndEnableARobot : Obligations.DisableAndEnableARobot := by
  refine ⟨fun s x duration d hs hd => ?_, fun s x => ⟨fun hs => ?_, fun n left hs hphase htimed => ?_⟩⟩
  · rw [← disableOf_toNat] at hd
    subst hd
    have houtcome : okIf (decide (6000 < duration.toNat)) = if 6000 < duration.toNat then .okAdjusted else .ok := by
      simp only [okIf, decide_eq_true_eq]
    refine ⟨fun hx => ?_, fun hlow hhigh h => ?_, fun hlow hhigh h => ?_, fun hlow hhigh h => ?_⟩
    · exact exec_refused hs (serveDisableRobot x.toNat duration.toNat) (if_pos (by simp [(slotInRange_eq_false_iff x).mpr hx]))
    · exact exec_refused hs (serveDisableRobot x.toNat duration.toNat)
        (serveDisableRobot_of_expected (u := receiverDone s) ⟨hlow, hhigh⟩ h duration.toNat)
    · rw [← houtcome]
      exact exec_settled hs (serveDisableRobot x.toNat duration.toNat)
        (serveDisableRobot_of_notAdmitted (u := receiverDone s) ⟨hlow, hhigh⟩ h duration.toNat)
    · have hserved := serveDisableRobot_of_admitted (u := receiverDone s) ⟨hlow, hhigh⟩ h duration.toNat
      have hself := setSlot_slot_self (s := dropClaims x.toNat (receiverDone s)) ⟨hlow, hhigh⟩
        { (dropClaims x.toNat (receiverDone s)).slot x.toNat with
          state := .disabled, disable := some (disableOf duration.toNat) }
      have hholds (hlaw : lawfulClaims s) := holdsNothing_dropClaims_setSlot (s := receiverDone s) hlaw x.toNat
        (x := { (dropClaims x.toNat (receiverDone s)).slot x.toNat with
          state := .disabled, disable := some (disableOf duration.toNat) }) rfl rfl
      rw [← houtcome]
      refine ⟨_, exec_settled hs (serveDisableRobot x.toNat duration.toNat) hserved, congrArg Slot.state hself,
        congrArg Slot.disable hself, (congrArg Slot.silenceTimer hself).trans (by simp),
        (congrArg Slot.tier hself).trans (by simp), hholds, fun n hne => ?_, by simp⟩
      rw [setSlot_slot_other hne]
      simp
  · by_cases hx : x = 0 ∨ 24 < x.toNat
    · rw [if_pos hx]
      exact exec_refused hs (serveEnableRobot x.toNat) (if_pos (by simp [(slotInRange_eq_false_iff x).mpr hx]))
    · have hrange : 1 ≤ x.toNat ∧ x.toNat ≤ 24 := by
        rw [← slotInRange_iff, ← Bool.not_eq_false, slotInRange_eq_false_iff]
        exact hx
      rw [if_neg hx, exec_request hs (serveEnableRobot x.toNat) (serveEnableRobot_of_inRange (u := receiverDone s) hrange)]
      exact congrArg Host.Outcome.next (apply_ite (fun r : Served => replied 0x25 r.outcome r.fields r.state) _ _ _)
  · refine congrArg Host.Outcome.next ((whenAwake_of_awake hs _).trans (if_pos ?_))
    simp [htimed, isTimed, State.matchTime, hphase]

end Sys2Proof.Machine
end

section
/-! PROOFS. What a withdrawal writes, and the commands that begin and end one or write a definition (R48 to R50, R55 to
R58, R64, R90, R119, R129). -/

namespace Sys2Proof.Machine

-- Flags (R183)

theorem flagSet_setFlag_self (f : Flag) (s : State) : (s.setFlag f).flagSet f = true := by
  cases f <;> simp [State.flagSet, State.setFlag, flagBit, flagNumber]

-- A withdrawal that takes effect (R56, R90)

/-- A run-time part behind the withdrawal of its element (R56). -/
def ElementRun.taken (r : ElementRun) : ElementRun := { r with withdrawn := true, withdrawPending := false }

theorem withdrawNow_eq (e : Nat) (s : State) : withdrawNow e s
    = recompute e ((clearAccumulator e (emptyElement e (s.modRun e ElementRun.taken))).setFlag .withdrawn) := rfl

theorem withdrawNow_run (e k : Nat) (s : State) :
    (withdrawNow e s).run k = if k = e ∧ 1 ≤ e ∧ e ≤ 32 then (s.run e).taken else s.run k := by
  rw [← run_modRun, withdrawNow_eq]
  simp

theorem withdrawNow_claim (e k : Nat) (s : State) :
    (withdrawNow e s).claim k = if k = e then emptyClaim else s.claim k := by
  rw [withdrawNow_eq]
  simp [emptyElement_claim]

theorem withdrawNow_elemScore (e k : Nat) (s : State) : (withdrawNow e s).elemScore k
    = if k = e ∧ 1 ≤ e ∧ e ≤ 32 then { s.elemScore e with accumulator := 0 } else s.elemScore k := by
  rw [withdrawNow_eq]
  simp [clearAccumulator, elemScore_setElemScore]

theorem withdrawNow_flagSet (e : Nat) (s : State) : (withdrawNow e s).flagSet .withdrawn = true := by
  rw [withdrawNow_eq, State.flagSet, (recompute_frame e _).2.2.2.2.2.2.2.2.2.2.2.2.2.2.1]
  exact flagSet_setFlag_self .withdrawn _

theorem display_of_withdrawn {e : Nat} {s : State} (h : (s.run e).withdrawn = true) : s.display e = .off := by
  rw [State.display, h, Bool.or_true, if_pos rfl]

theorem withdrawNow_light {e : Nat} {s : State} (hd : s.defined e = true) :
    ((withdrawNow e s).light e).computed = .off := by
  have hshown : showsState e (withdrawNow e s) := by
    rw [withdrawNow_eq]
    exact showsState_recompute (by simpa using hd)
  refine hshown.trans (display_of_withdrawn ?_)
  rw [withdrawNow_run, if_pos ⟨rfl, element_range_of_defined hd⟩]
  rfl

theorem recompute_modRun_run (e k : Nat) (f : ElementRun → ElementRun) (s : State) :
    (recompute e (s.modRun e f)).run k = if k = e ∧ 1 ≤ e ∧ e ≤ 32 then f (s.run e) else s.run k := by
  rw [← run_modRun]
  simp

-- WITHDRAW (R55)

section
variable {u : State} {e : Nat}

theorem serveWithdraw_of_inRange (he : 1 ≤ e ∧ e ≤ 32) : serveWithdraw e u =
    if u.defined e = false then refuse .badState u
    else if (u.run e).withdrawn then carryOut u
    else if (u.run e).withdrawPending then { state := u, outcome := .accepted, fields := [] }
    else if (u.act e).state = .none then settled (carryOut (withdrawNow e u))
    else settled { state := recompute e (u.modRun e fun r => { r with withdrawPending := true }), outcome := .accepted,
                   fields := [] } := by
  rw [serveWithdraw, if_neg (by simp [(elementInRange_iff e).mpr he])]
  cases u.defined e <;> rfl

end

/-- Settles O26, by the checks of WITHDRAW and by the actuation that is outstanding. -/
theorem withdrawTakesEffectOrWaits : Obligations.WithdrawTakesEffectOrWaits := by
  intro s x hs
  refine ⟨fun hx => exec_refused hs (serveWithdraw x.toNat) (if_pos (by simp [(elementInRange_eq_false_iff x).mpr hx])),
    fun hlow hhigh => ?_⟩
  have hserved := serveWithdraw_of_inRange (u := receiverDone s) ⟨hlow, hhigh⟩
  refine ⟨fun hd => ?_, fun hd hw => ?_, fun hd hw hp => ?_, fun hd hw hp => ?_⟩
  · exact exec_refused hs (serveWithdraw x.toNat) (hserved.trans (if_pos hd))
  · have hd' : ¬(receiverDone s).defined x.toNat = false := by simpa using hd
    exact exec_request hs (serveWithdraw x.toNat) (hserved.trans ((if_neg hd').trans (if_pos hw)))
  · have hd' : ¬(receiverDone s).defined x.toNat = false := by simpa using hd
    have hw' : ¬((receiverDone s).run x.toNat).withdrawn = true := by simpa using hw
    exact exec_request hs (serveWithdraw x.toNat)
      (hserved.trans ((if_neg hd').trans ((if_neg hw').trans (if_pos hp))))
  · have hd' : ¬(receiverDone s).defined x.toNat = false := by simpa using hd
    have hw' : ¬((receiverDone s).run x.toNat).withdrawn = true := by simpa using hw
    have hp' : ¬((receiverDone s).run x.toNat).withdrawPending = true := by simpa using hp
    rw [if_neg hd', if_neg hw', if_neg hp'] at hserved
    by_cases hact : (s.act x.toNat).state = .none
    · have hrun := withdrawNow_run x.toNat (s := receiverDone s)
      have hclaim := withdrawNow_claim x.toNat (s := receiverDone s)
      have hscore := withdrawNow_elemScore x.toNat (s := receiverDone s)
      simp only [if_pos hact]
      refine ⟨_, exec_settled hs (serveWithdraw x.toNat) (hserved.trans (if_pos hact)), ⟨?_, ?_, ?_,
        withdrawNow_light (s := receiverDone s) hd, withdrawNow_flagSet _ _⟩, fun e he => ⟨?_, ?_, ?_⟩, fun n => ?_, ?_⟩
      · rw [hrun, if_pos ⟨rfl, hlow, hhigh⟩, ElementRun.taken, ← hp]
        rfl
      · rw [hclaim, if_pos rfl]
        rfl
      · rw [hscore, if_pos ⟨rfl, hlow, hhigh⟩]
        rfl
      · rw [hclaim, if_neg he]
        rfl
      · rw [hrun, if_neg (by simp [he])]
        rfl
      · rw [hscore, if_neg (by simp [he])]
        rfl
      · simp
      · simp
    · simp only [if_neg hact]
      have hrun := recompute_modRun_run x.toNat (f := fun r => { r with withdrawPending := true }) (s := receiverDone s)
      refine ⟨_, exec_settled hs (serveWithdraw x.toNat) (hserved.trans (if_neg hact)), ⟨?_, by simp⟩, fun e he => ⟨?_, ?_, ?_⟩, ?_⟩
      · rw [hrun, if_pos ⟨rfl, hlow, hhigh⟩]
        rfl
      · simp
      · rw [hrun, if_neg (by simp [he])]
        rfl
      · simp
      · simp

-- RESTORE ELEMENT and CLEAR FAULTS (R58, R64)

theorem serveRestoreElement_of_inRange {u : State} {e : Nat} (he : 1 ≤ e ∧ e ≤ 32) : serveRestoreElement e u =
    if u.defined e = false then refuse .badState u
    else if (u.run e).withdrawPending then
      settled (carryOut (recompute e (u.modRun e fun r => { r with withdrawPending := false })))
    else if (u.run e).withdrawn then
      settled (carryOut (recompute e (u.modRun e fun r => { r with withdrawn := false })))
    else carryOut u := by
  rw [serveRestoreElement, if_neg (by simp [(elementInRange_iff e).mpr he])]
  cases u.defined e <;> rfl

/-- A run-time part whose withdrawal is over or cancelled (R58). -/
def ElementRun.restored (r : ElementRun) : ElementRun := { r with withdrawn := false, withdrawPending := false }

/-- Of a withdrawal in force or pending, RESTORE ELEMENT clears the one that stands (R58). -/
theorem serveRestoreElement_of_withdrawal {u : State} {e : Nat} (hd : u.defined e = true)
    (h : (u.run e).withdrawPending ≠ (u.run e).withdrawn) :
    serveRestoreElement e u = settled (carryOut (recompute e (u.modRun e ElementRun.restored))) := by
  rw [serveRestoreElement_of_inRange (element_range_of_defined hd), if_neg (by simp [hd])]
  unfold State.modRun ElementRun.restored
  generalize u.run e = r at h ⊢
  obtain ⟨refusing, silent, withdrawn, pending, presence, missCount, jammed, tally, fault, outcome⟩ := r
  cases withdrawn <;> cases pending <;> simp_all

theorem clearElementFaults_run (e k : Nat) (s : State) : (clearElementFaults e s).run k
    = if k = e ∧ 1 ≤ e ∧ e ≤ 32 then { s.run e with jammed := false, faultTally := 0, lastFault := none } else s.run k := by
  rw [clearElementFaults, ← run_modRun s e k fun r => { r with jammed := false, faultTally := 0, lastFault := none }]
  split
  · simp
  · rfl

/-- Settles O27, by the checks of each request in their order. -/
theorem restoreElementAndClearFaults : Obligations.RestoreElementAndClearFaults := by
  intro s x hs
  refine ⟨fun hx => exec_refused hs (serveRestoreElement x.toNat)
      (if_pos (by simp [(elementInRange_eq_false_iff x).mpr hx])), fun hlow hhigh => ⟨fun hd => ?_, fun hd hp hw => ?_,
      fun hd h => ?_⟩, fun hx => ?_, exec_request hs (serveClearFaults (0 : Byte).toNat) rfl, fun hlow hhigh hd => ?_,
    fun hd => ?_⟩
  · exact exec_refused hs (serveRestoreElement x.toNat)
      ((serveRestoreElement_of_inRange (u := receiverDone s) ⟨hlow, hhigh⟩).trans (if_pos hd))
  · have hd' : ¬(receiverDone s).defined x.toNat = false := by simpa using hd
    have hp' : ¬((receiverDone s).run x.toNat).withdrawPending = true := by simpa using hp
    have hw' : ¬((receiverDone s).run x.toNat).withdrawn = true := by simpa using hw
    exact exec_request hs (serveRestoreElement x.toNat)
      ((serveRestoreElement_of_inRange (u := receiverDone s) ⟨hlow, hhigh⟩).trans
        ((if_neg hd').trans ((if_neg hp').trans (if_neg hw'))))
  · have hrun := recompute_modRun_run x.toNat (f := ElementRun.restored) (s := receiverDone s)
    refine ⟨_, exec_carriedOut hs (serveRestoreElement x.toNat)
      (serveRestoreElement_of_withdrawal (u := receiverDone s) hd h), ?_, showsState_recompute (by simpa using hd),
      fun e he => ?_, ?_⟩
    · rw [hrun, if_pos ⟨rfl, hlow, hhigh⟩]
      rfl
    · rw [hrun, if_neg (by simp [he])]
      rfl
    · simp
  · refine exec_refused hs (serveClearFaults x.toNat) ?_
    rw [serveClearFaults, if_neg (by omega), if_pos (by simp [(elementInRange_eq_false_iff x).mpr (.inr hx)])]
  · refine exec_request hs (serveClearFaults x.toNat) (r := carryOut (receiverDone s)) ?_
    rw [serveClearFaults, if_neg (by omega), if_neg (by simp [(elementInRange_iff _).mpr ⟨hlow, hhigh⟩])]
    exact if_pos (by simpa using hd)
  · have hrange := element_range_of_defined hd
    have hserved : serveClearFaults x.toNat (receiverDone s)
        = settled (carryOut (clearElementFaults x.toNat (receiverDone s))) := by
      rw [serveClearFaults, if_neg (by omega), if_neg (by simp [(elementInRange_iff _).mpr hrange])]
      exact if_neg (by simpa using hd)
    have hrun := clearElementFaults_run x.toNat (s := receiverDone s)
    refine ⟨_, exec_carriedOut hs (serveClearFaults x.toNat) hserved, ?_, fun e he => ?_, ?_⟩
    · rw [hrun, if_pos ⟨rfl, hrange⟩]
      rfl
    · rw [hrun, if_neg (by simp [he])]
      rfl
    · simp

end Sys2Proof.Machine
end

section
/-! PROOFS. DEFINE ELEMENT (R45, R47 to R49, R119, R129). -/

namespace Sys2Proof.Machine

-- The codes of a definition (R48, R194)

theorem elementKindOf_eq_none_iff (b : Byte) : elementKindOf b = none ↔ 4 < b.toNat := by
  unfold elementKindOf
  split_ifs with h0 h1 h2 h3 h4 <;> simp <;> bv_omega

theorem elementKindOf_eq_undefined_iff (b : Byte) : elementKindOf b = some .none ↔ b = 0 := by
  unfold elementKindOf
  split_ifs <;> simp_all

theorem elementKindOf_eq_tower_iff (b : Byte) : elementKindOf b = some .tower ↔ b = 4 := by
  unfold elementKindOf
  split_ifs with h0 h1 h2 h3 h4 <;> simp <;> bv_omega

theorem definitionOk_iff (k : ElementKind) (d : DefineFields) (count : Nat) : definitionOk k d count = true
    ↔ d.side.toNat ≤ 4 ∧ d.side.toNat ≤ count ∧ (k = .tower → d.side = 0)
      ∧ d.defaultRefusing.toNat ≤ 1 ∧ d.defaultSilent.toNat ≤ 1 := by
  have hyes (b : Byte) : (yesNo b).isSome = true ↔ b.toNat ≤ 1 := by
    rw [Option.isSome_iff_ne_none, ne_eq, yesNo_eq_none_iff, not_lt]
  simp only [definitionOk, Bool.and_eq_true, Bool.not_eq_true', Bool.and_eq_false_iff, decide_eq_true_eq,
    decide_eq_false_iff_not, bne_eq_false_iff_eq, hyes]
  tauto

/-- The definition that a record of a kind other than NONE writes (R48). -/
def definitionOf (k : ElementKind) (d : DefineFields) : ElementDef :=
  rawDefinition k d (decide (d.defaultRefusing = 1)) (decide (d.defaultSilent = 1))

theorem clampDefinition_eq_iff (k : ElementKind) (d : DefineFields) :
    clampDefinition (definitionOf k d) = definitionOf k d
      ↔ 8 ≤ d.controlBonus.toNat ∧ d.controlBonus.toNat ≤ 32 ∧ 1 ≤ d.minTier.toNat ∧ d.minTier.toNat ≤ 4
        ∧ d.holdLimit.toNat ≤ 1200 ∧ d.cooldown.toNat ≤ 300 ∧ 1 ≤ d.timeout.toNat ∧ d.timeout.toNat ≤ 600 := by
  simp only [clampDefinition, definitionOf, rawDefinition, ElementDef.mk.injEq, clampTo, true_and, and_true]
  omega

theorem fullQuotas_clampDefinition (k : ElementKind) (d : DefineFields) : fullQuotas (clampDefinition (definitionOf k d))
    = Vector.replicate 4 (if k = .dispenser then d.quota.toNat else 0) := by
  by_cases hk : k = .dispenser <;> simp [fullQuotas, clampDefinition, definitionOf, rawDefinition, hk]

-- What a definition writes (R49, R129)

theorem define_elemDef (e k : Nat) (d : ElementDef) (s : State) :
    (define e d s).elemDef k = if k = e ∧ 1 ≤ e ∧ e ≤ 32 then d else s.elemDef k := by
  rw [State.elemDef, define_defs]
  exact at1_set1 _ _ _ _ _

/-- The element's definition and run-time part are written (R49). -/
def writeDefinition (e : Nat) (d : ElementDef) (s : State) : State := (s.setDef e d).setRun e (freshRun d)

/-- A definition is shown: no light for an undefined element (R119). -/
def showDefinition (e : Nat) (d : ElementDef) (s : State) : State :=
  if d.kind = .none then clearLight e s else recompute e s

theorem define_eq (e : Nat) (d : ElementDef) (s : State) :
    define e d s = defineScore e (showDefinition e d (writeDefinition e d s)) := rfl

theorem showDefinition_elemScore (e k : Nat) (d : ElementDef) (s : State) :
    (showDefinition e d s).elemScore k = s.elemScore k := by
  unfold showDefinition
  split
  · rfl
  · simp

theorem showDefinition_elemDef (e k : Nat) (d : ElementDef) (s : State) :
    (showDefinition e d s).elemDef k = s.elemDef k := by
  unfold showDefinition
  split
  · rfl
  · simp

theorem define_elemScore {e : Nat} (he : 1 ≤ e ∧ e ≤ 32) (k : Nat) (d : ElementDef) (s : State) :
    (define e d s).elemScore k = if k = e then
      { s.elemScore e with baseline := none, accumulator := 0, quotas := fullQuotas d } else s.elemScore k := by
  have hdef : (writeDefinition e d s).elemDef e = d := (elemDef_setDef _ _ _ _).trans (if_pos ⟨rfl, he⟩)
  rw [define_eq, defineScore, elemScore_setElemScore, showDefinition_elemScore, showDefinition_elemScore,
    showDefinition_elemDef, hdef]
  by_cases hk : k = e
  · rw [if_pos ⟨hk, he⟩, if_pos hk]
    rfl
  · rw [if_neg (by simp [hk]), if_neg hk]
    rfl

theorem define_light_of_undefined {e : Nat} (he : 1 ≤ e ∧ e ≤ 32) {d : ElementDef} (hd : d.kind = .none) (s : State) :
    (define e d s).light e = resetLight := by
  have hlight : (define e d s).light e = (showDefinition e d (writeDefinition e d s)).light e := by
    rw [define_eq]
    simp
  rw [hlight, showDefinition, if_pos hd, clearLight, light_setLight, if_pos ⟨rfl, he⟩]

theorem define_light_of_defined {e : Nat} (he : 1 ≤ e ∧ e ≤ 32) {d : ElementDef} (hd : d.kind ≠ .none) (s : State) :
    showsState e (define e d s) := by
  have hdefined : (writeDefinition e d s).defined e = true := by
    have hdef : (writeDefinition e d s).elemDef e = d := (elemDef_setDef _ _ _ _).trans (if_pos ⟨rfl, he⟩)
    rw [State.defined, hdef]
    simpa using hd
  have hshown := showsState_recompute hdefined
  rw [define_eq, showDefinition, if_neg hd]
  generalize recompute e (writeDefinition e d s) = t at *
  have hdisplay : (defineScore e t).display e = t.display e :=
    display_congr (by simp) (by simp) (by simp) (by simp) (by simp) (by simp)
  rw [showsState, hdisplay, ← hshown]
  simp

-- DEFINE ELEMENT (R48)

section
variable {u : State} {e : Nat} {d : DefineFields}

theorem serveDefineElement_of_notIdle (h : u.clock.phase ≠ .idle) : serveDefineElement e d u = refuse .badState u :=
  if_pos (by simpa using h)

variable (hphase : u.clock.phase = .idle)
include hphase

theorem serveDefineElement_of_outOfRange (he : elementInRange e = false) : serveDefineElement e d u = refuse .badArg u := by
  rw [serveDefineElement, if_neg (by simp [hphase]), if_pos (by simp [he])]

theorem serveDefineElement_of_noKind (hk : elementKindOf d.kind = none) : serveDefineElement e d u = refuse .badArg u := by
  rw [serveDefineElement, if_neg (by simp [hphase]), hk]
  split <;> rfl

theorem serveDefineElement_of_undefined (he : elementInRange e = true) (hk : elementKindOf d.kind = some .none) :
    serveDefineElement e d u =
      if (u.act e).state ≠ .none then refuse .busy u else settled (carryOut (define e undefinedElement u)) := by
  rw [serveDefineElement, if_neg (by simp [hphase]), if_neg (by simp [he]), hk]
  simp only [bne_iff_ne]

theorem serveDefineElement_of_kind (he : elementInRange e = true) {k : ElementKind} (hk : elementKindOf d.kind = some k)
    (hne : k ≠ .none) : serveDefineElement e d u =
      if definitionOk k d u.settings.allianceCount = false then refuse .badArg u
      else if (u.act e).state ≠ .none then refuse .busy u
      else settled { state := define e (clampDefinition (definitionOf k d)) u
                     outcome := okIf (clampDefinition (definitionOf k d) != definitionOf k d), fields := [] } := by
  rw [serveDefineElement, if_neg (by simp [hphase]), if_neg (by simp [he]), hk]
  by_cases hok : definitionOk k d u.settings.allianceCount = true
  · obtain ⟨_, _, _, hrefusing, hsilent⟩ := (definitionOk_iff k d _).mp hok
    have hraw : rawDefinition k d ((yesNo d.defaultRefusing).getD false) ((yesNo d.defaultSilent).getD false)
        = definitionOf k d := by
      rw [yesNo_of_le_one hrefusing, yesNo_of_le_one hsilent]
      rfl
    cases k with
    | none => exact absurd rfl hne
    | _ => simp only [hok, hraw, bne_iff_ne, Bool.not_true, if_false, Bool.false_eq_true, reduceCtorEq]
  · rw [Bool.not_eq_true] at hok
    cases k with
    | none => exact absurd rfl hne
    | _ => simp only [hok, Bool.not_false, if_true]

theorem serveDefineElement_of_badDefinition (hkind : d.kind ≠ 0)
    (hbad : 4 < d.side.toNat ∨ u.settings.allianceCount < d.side.toNat ∨ (d.kind = 4 ∧ d.side ≠ 0)
      ∨ 1 < d.defaultRefusing.toNat ∨ 1 < d.defaultSilent.toNat) : serveDefineElement e d u = refuse .badArg u := by
  by_cases he : elementInRange e = true
  · cases hk : elementKindOf d.kind with
    | none => exact serveDefineElement_of_noKind hphase hk
    | some k =>
      have hne : k ≠ .none := fun h => hkind ((elementKindOf_eq_undefined_iff _).mp (h ▸ hk))
      rw [serveDefineElement_of_kind hphase he hk hne, if_pos]
      rw [← Bool.not_eq_true, definitionOk_iff]
      rintro ⟨hside, hcount, htower, hrefusing, hsilent⟩
      rcases hbad with h | h | ⟨h, hside'⟩ | h | h
      · omega
      · omega
      · refine hside' (htower ?_)
        have htower := (elementKindOf_eq_tower_iff d.kind).mpr h
        exact Option.some.inj (hk.symm.trans htower)
      · omega
      · omega
  · exact serveDefineElement_of_outOfRange hphase (by simpa using he)

end

/-- What a definition leaves of its element, of the others and of the rest (R49, R129). -/
theorem defined_element {e : Nat} (he : 1 ≤ e ∧ e ≤ 32) (d : ElementDef) (s : State) :
    ((define e d s).elemDef e = d ∧ (define e d s).run e = freshRun d
      ∧ (define e d s).elemScore e = { s.elemScore e with baseline := none, accumulator := 0, quotas := fullQuotas d })
    ∧ (∀ k, k ≠ e → (define e d s).elemDef k = s.elemDef k ∧ (define e d s).run k = s.run k
      ∧ (define e d s).elemScore k = s.elemScore k)
    ∧ (define e d s).claims = s.claims ∧ (define e d s).roster = s.roster
    ∧ (define e d s).score.alliances = s.score.alliances ∧ (define e d s).clock = s.clock
    ∧ (define e d s).settings = s.settings ∧ (define e d s).store = s.store
    ∧ (define e d s).table.capture = s.table.capture := by
  refine ⟨⟨?_, ?_, ?_⟩, fun k hk => ⟨?_, ?_, ?_⟩, by simp⟩
  · rw [define_elemDef, if_pos ⟨rfl, he⟩]
  · rw [define_run, if_pos ⟨rfl, he⟩]
  · rw [define_elemScore he, if_pos rfl]
  · rw [define_elemDef, if_neg (by simp [hk])]
  · rw [define_run, if_neg (by simp [hk])]
  · rw [define_elemScore he, if_neg hk]

/-- Settles O24, by the checks of DEFINE ELEMENT in their order, and by the kind of the definition. -/
theorem defineElementChecksAndWrites : Obligations.DefineElementChecksAndWrites := by
  refine ⟨fun s x d hs => ⟨fun hphase => ?_, fun hphase hbad => ?_, fun hphase hkind hbad => ?_,
    fun hphase hlow hhigh hact hok => ?_⟩, fun s x d k hs hphase hlow hhigh hact hk hok => ?_⟩
  · exact exec_refused hs (serveDefineElement x.toNat d) (serveDefineElement_of_notIdle (u := receiverDone s) hphase)
  · refine exec_refused hs (serveDefineElement x.toNat d) ?_
    rw [← or_assoc, ← elementInRange_eq_false_iff, ← elementKindOf_eq_none_iff] at hbad
    rcases hbad with h | h
    · exact serveDefineElement_of_outOfRange (u := receiverDone s) hphase h
    · exact serveDefineElement_of_noKind (u := receiverDone s) hphase h
  · exact exec_refused hs (serveDefineElement x.toNat d)
      (serveDefineElement_of_badDefinition (u := receiverDone s) hphase hkind hbad)
  · have he : elementInRange x.toNat = true := (elementInRange_iff _).mpr ⟨hlow, hhigh⟩
    refine exec_refused hs (serveDefineElement x.toNat d) ?_
    by_cases hkind : d.kind = 0
    · have hk := (elementKindOf_eq_undefined_iff d.kind).mpr hkind
      exact (serveDefineElement_of_undefined (u := receiverDone s) hphase he hk).trans (if_pos hact)
    · obtain ⟨hcode, hside, hcount, htower, hflags⟩ := hok.resolve_left hkind
      cases hk : elementKindOf d.kind with
      | none => exact absurd ((elementKindOf_eq_none_iff _).mp hk) (by omega)
      | some k =>
        have hne : k ≠ .none := fun h => hkind ((elementKindOf_eq_undefined_iff _).mp (h ▸ hk))
        have hok : definitionOk k d (receiverDone s).settings.allianceCount = true :=
          (definitionOk_iff k d _).mpr ⟨hside, hcount,
            fun h => htower ((elementKindOf_eq_tower_iff _).mp (h ▸ hk)), hflags⟩
        rw [serveDefineElement_of_kind (u := receiverDone s) hphase he hk hne, if_neg (Bool.not_eq_false _ ▸ hok)]
        exact if_pos hact
  · have he : 1 ≤ x.toNat ∧ x.toNat ≤ 32 := ⟨hlow, hhigh⟩
    have hin : elementInRange x.toNat = true := (elementInRange_iff _).mpr he
    by_cases hnone : k = .none
    · subst hnone
      have hserved := (serveDefineElement_of_undefined (u := receiverDone s) hphase hin hk).trans (if_neg (not_not_intro hact))
      obtain ⟨⟨hdef, hrun, hscore⟩, hothers, hrest⟩ := defined_element he undefinedElement (receiverDone s)
      have hlight := define_light_of_undefined he (d := undefinedElement) rfl (receiverDone s)
      have hexec := exec_carriedOut (c := .defineElement x d) hs (serveDefineElement x.toNat d) hserved
      generalize define x.toNat undefinedElement (receiverDone s) = t at *
      rw [if_pos (.inl rfl)]
      exact ⟨t, hexec, hdef, by rw [hrun, hdef]; rfl, hscore, hlight, hothers, hrest⟩
    · obtain ⟨hside, hcount, htower, hrefusing, hsilent⟩ := hok hnone
      have hok : definitionOk k d (receiverDone s).settings.allianceCount = true :=
        (definitionOk_iff k d _).mpr ⟨hside, hcount, htower, hrefusing, hsilent⟩
      have hserved := serveDefineElement_of_kind (u := receiverDone s) hphase hin hk hnone
      rw [if_neg (Bool.not_eq_false _ ▸ hok), if_neg (not_not_intro (by exact hact))] at hserved
      obtain ⟨⟨hdef, hrun, hscore⟩, hothers, hrest⟩ :=
        defined_element he (clampDefinition (definitionOf k d)) (receiverDone s)
      have hlight := define_light_of_defined he (d := clampDefinition (definitionOf k d)) hnone (receiverDone s)
      have hexec := exec_settled (c := .defineElement x d) hs (serveDefineElement x.toNat d) hserved
      have houtcome : okIf (clampDefinition (definitionOf k d) != definitionOf k d)
          = if k = .none ∨ (8 ≤ d.controlBonus.toNat ∧ d.controlBonus.toNat ≤ 32 ∧ 1 ≤ d.minTier.toNat
              ∧ d.minTier.toNat ≤ 4 ∧ d.holdLimit.toNat ≤ 1200 ∧ d.cooldown.toNat ≤ 300 ∧ 1 ≤ d.timeout.toNat
              ∧ d.timeout.toNat ≤ 600) then .ok else .okAdjusted := by
        have hiff := clampDefinition_eq_iff k d
        by_cases hsame : clampDefinition (definitionOf k d) = definitionOf k d
        · rw [if_pos (.inr (hiff.mp hsame)), hsame]
          simp [okIf]
        · rw [if_neg (not_or_intro hnone fun h => hsame (hiff.mpr h))]
          simp [okIf, hsame]
      generalize define x.toNat (clampDefinition (definitionOf k d)) (receiverDone s) = t at *
      rw [houtcome] at hexec
      rw [fullQuotas_clampDefinition] at hscore
      refine ⟨t, hexec, ?_, by rw [hrun, hdef]; rfl, hscore, ?_, hothers, hrest⟩
      · rw [hdef, if_neg hnone]
        rfl
      · rw [if_neg hnone]
        exact hlight

end Sys2Proof.Machine
end

section
/-! PROOFS. HELLO, CONFIRM, BYE and PRESENCE (R25 to R31, R35 to R37, R155, R158). -/

namespace Sys2Proof.Machine

-- The taking of a frame (R155)

/-- A state with another uplink queue. -/
def State.withUplink (s : State) (l : List UplinkFrame) : State := { s with link := { s.link with uplink := l } }

/-- A taken frame leaves everything but the uplink queue as it is. -/
theorem eq_of_takenFrom {f : UplinkFrame} {s u : State} (h : takenFrom f s u) : ∃ l, u = s.withUplink l := by
  obtain ⟨-, -, hu⟩ | ⟨rest, -, hu⟩ := h
  · exact ⟨s.link.uplink, hu⟩
  · exact ⟨rest, hu⟩

/-- The command that takes a frame of any kind but HELLO from a sender that is accepted (R35, R155). -/
theorem exec_taking {i : Instr} {f : UplinkFrame} {s u : State} (hs : s.awake) (htaken : takenFrom f s u)
    (haccepted : acceptedFrom f.slot f.tag s) (hkind : ∀ kit tiers, f.body ≠ .hello kit tiers)
    (hi : exec i s = .next (whenAwake (takeFrame f) s) := by rfl) :
    exec i s = .next (settle (dispatchFrame f (restartSilence f.slot u))) := by
  rw [hi, whenAwake_of_awake hs, takeFrame_of_acceptedFrom hkind htaken haccepted]

theorem exec_hello {s u : State} {x tiers : Byte} {tag : Half} {kit : Word} (hs : s.awake)
    (htaken : takenFrom { slot := x.toNat, tag := tag, body := .hello kit tiers } s u) :
    exec (.hello x tag kit tiers) s = .next (if tag = kitTag kit then settle (serveHello kit tiers u) else u) :=
  congrArg Host.Outcome.next ((whenAwake_of_awake hs _).trans (takeFrame_of_takenFrom htaken))

-- HELLO of strangers and in closed phases (R25, R26)

theorem slotOfKit_eq_none {s : State} {kit : Word}
    (h : ∀ n, 1 ≤ n → n ≤ 24 → (s.slot n).state ≠ .empty → (s.slot n).kit ≠ kit) : s.slotOfKit kit = none := by
  rw [← Option.not_isSome_iff_eq_none, slotOfKit_isSome_iff]
  rintro ⟨n, hlow, hhigh, hstate, hkit⟩
  exact h n hlow hhigh hstate hkit

theorem helloClosed_eq_true_iff (p : Phase) : helloClosed p = true ↔ p = .idle ∨ p = .grace ∨ p = .finished := by
  cases p <;> simp [helloClosed]

theorem helloClosed_eq_false {p : Phase} (h : p = .staging ∨ p = .running ∨ p = .held) : helloClosed p = false := by
  rcases h with rfl | rfl | rfl <;> rfl

theorem serveHello_of_closed {s : State} {kit : Word} {tiers : Byte} (h : helloClosed s.clock.phase = true) :
    serveHello kit tiers s = answerHello ((s.slotOfKit kit).getD 0) kit .notNow s := by
  unfold serveHello
  cases s.slotOfKit kit <;> simp [h]

theorem serveHello_of_stranger {s : State} {kit : Word} {tiers : Byte} (h : helloClosed s.clock.phase = false)
    (hkit : s.slotOfKit kit = none) : serveHello kit tiers s = answerHello 0 kit .unknownKit
      ((s.setStrangers (noteStranger kit s.roster.strangers)).setFlag .stranger) := by
  simp [serveHello, hkit, h]

/-- Settles O31, by the tag, the phase and the kit of the HELLO. -/
theorem helloFromStrangersAndClosedPhases : Obligations.HelloFromStrangersAndClosedPhases := by
  intro s u x tiers tag kit hs htaken
  rw [exec_hello hs htaken]
  obtain ⟨l, rfl⟩ := eq_of_takenFrom htaken
  refine ⟨fun htag => ?_, fun htag hphase => ?_, fun htag hphase hnew => ?_⟩
  · rw [if_neg htag]
  · rw [if_pos htag, serveHello_of_closed (s := s.withUplink l) ((helloClosed_eq_true_iff _).mpr hphase), htag]
    rfl
  · rw [if_pos htag, serveHello_of_stranger (s := s.withUplink l) (helloClosed_eq_false hphase) (slotOfKit_eq_none hnew), htag]
    rfl

end Sys2Proof.Machine
end

section
/-! PROOFS. The offer of a tier (R20, R21, R26 to R30, R87). -/

namespace Sys2Proof.Machine

-- The highest tier of a mask (R27)

theorem highestTier_eq_none_iff (m : TierMask) : highestTier m = none ↔ m = 0 := by
  revert m
  decide

theorem highestTier_spec {m : TierMask} {t : Nat} (h : highestTier m = some t) :
    1 ≤ t ∧ t ≤ 4 ∧ m.getLsbD (t - 1) = true ∧ ∀ i, t ≤ i → m.getLsbD i = false := by
  have hfinite : ∀ m : BitVec 4, ∀ t ∈ highestTier m,
      1 ≤ t ∧ t ≤ 4 ∧ m.getLsbD (t - 1) = true ∧ ∀ i < 4, t ≤ i → m.getLsbD i = false := by decide
  obtain ⟨hlow, hhigh, hbit, habove⟩ := hfinite m t h
  refine ⟨hlow, hhigh, hbit, fun i hi => ?_⟩
  by_cases hi4 : i < 4
  · exact habove i hi4 hi
  · exact BitVec.getLsbD_of_ge m i (by omega)

/-- The highest tier is the one whose bit is set and above which none is. -/
theorem highestTier_eq_some {m : TierMask} {t : Nat} (hlow : 1 ≤ t) (hbit : m.getLsbD (t - 1) = true)
    (habove : ∀ i, t ≤ i → m.getLsbD i = false) : highestTier m = some t := by
  cases h : highestTier m with
  | none =>
    rw [(highestTier_eq_none_iff m).mp h] at hbit
    simp at hbit
  | some t' =>
    obtain ⟨hlow', _, hbit', habove'⟩ := highestTier_spec h
    have hle : t ≤ t' := by
      by_contra hgt
      rw [habove' (t - 1) (by omega)] at hbit
      exact absurd hbit (by simp)
    have hge : t' ≤ t := by
      by_contra hgt
      rw [habove (t' - 1) (by omega)] at hbit'
      exact absurd hbit' (by simp)
    rw [le_antisymm hge hle]

-- The slot that a HELLO names (R26)

theorem slotOfKit_spec {s : State} {kit : Word} {n : Nat} (h : s.slotOfKit kit = some n) :
    (1 ≤ n ∧ n ≤ 24) ∧ (s.slot n).state ≠ .empty ∧ (s.slot n).kit = kit := by
  have hmem := List.mem_of_find?_eq_some h
  have hp := List.find?_some h
  simpa using And.intro (mem_slotNumbers.mp hmem) (by simpa using hp)

/-- The OFFER of a slot whose record has just been written (R27, R158). -/
theorem sendOffer_setSlot {s : State} {n : Nat} (hn : 1 ≤ n ∧ n ≤ 24) (x : Slot) : sendOffer n (s.setSlot n x)
    = queueReply { slot := n, tag := kitTag x.kit, body := .offer x.kit n x.alliance (orZero x.tier) (orZero x.cap) }
        (s.setSlot n x) := by
  rw [sendOffer, setSlot_slot_self hn]

section
variable {s : State} {n : Nat} {kit : Word} {tiers : Byte}

theorem serveHello_of_slot (h : helloClosed s.clock.phase = false) (hkit : s.slotOfKit kit = some n) :
    serveHello kit tiers s = match (s.slot n).state with
      | .expected | .lost => helloNew n kit (tierMaskOf tiers) s
      | .offered => helloAgain n s
      | .admitted | .disabled => helloReboot n kit (tierMaskOf tiers) s
      | .empty => s := by
  simp only [serveHello, hkit, h]
  rfl

variable (hn : 1 ≤ n ∧ n ≤ 24) (hkit : (s.slot n).kit = kit)
include hn hkit

theorem helloNew_of_tier {m : TierMask} {t : Nat}
    (h : highestTier (m &&& (s.slot n).permitted &&& s.settings.allowedTiers) = some t) :
    helloNew n kit m s = queueReply
      { slot := n, tag := kitTag kit, body := .offer kit n (s.slot n).alliance t (s.tierCap t) }
      (s.setSlot n (toOffered s.settings t (s.tierCap t) ((s.slot n).state = .lost) { s.slot n with lastAd := some m })) := by
  subst hkit
  simp only [helloNew, resolveTier, effectiveTiers, Option.getD_some, h, sendOffer_setSlot hn]
  rfl

omit hn hkit in
theorem helloNew_of_none {m : TierMask}
    (h : highestTier (m &&& (s.slot n).permitted &&& s.settings.allowedTiers) = none) :
    helloNew n kit m s = answerHello n kit .noCommonTier
      (s.setSlot n (noCommonTier s.settings { s.slot n with lastAd := some m })) := by
  simp only [helloNew, resolveTier, effectiveTiers, Option.getD_some, h]

theorem helloAgain_of_offer {t c : Nat} (ht : (s.slot n).tier = some t) (hc : (s.slot n).cap = some c) :
    helloAgain n s = queueReply { slot := n, tag := kitTag kit, body := .offer kit n (s.slot n).alliance t c }
      (s.setSlot n { s.slot n with confirmTimer := some (millis s.settings.confirmWindow) }) := by
  subst hkit
  rw [helloAgain, State.modSlot, sendOffer_setSlot hn]
  simp only [ht, hc]
  rfl

/-- The slot record of a rebooted robot behind the drop of its claims (R30). -/
theorem helloReboot_eq (m : TierMask) : ∃ v f, helloReboot n kit m s = queueReply f v
    ∧ f.slot = n ∧ f.tag = kitTag kit ∧ (lawfulClaims s → holdsNothing n v)
    ∧ (v.slot n).disable = (s.slot n).disable ∧ (v.slot n).lastAd = some m
    ∧ (v.slot n).permitted = (s.slot n).permitted ∧ (v.slot n).silenceTimer = none ∧ (v.slot n).wasLost = false
    ∧ (match highestTier (m &&& (s.slot n).permitted &&& s.settings.allowedTiers) with
      | none => (v.slot n).state = .expected ∧ (v.slot n).tier = none ∧ f.body = .answer 1 0 .noCommonTier 0
      | some t => (v.slot n).state = .offered ∧ (v.slot n).tier = some t
          ∧ f.body = .offer kit n (s.slot n).alliance t (s.tierCap t))
    ∧ (∀ k, k ≠ n → (v.slot k).state = (s.slot k).state) ∧ v.score.alliances = s.score.alliances := by
  have hold {x : Slot} (hhold : x.holdCount = ((dropClaims n s).slot n).holdCount)
      (hwait : x.waitCount = ((dropClaims n s).slot n).waitCount) (hs : lawfulClaims s) :=
    holdsNothing_dropClaims_setSlot hs n hhold hwait
  obtain ⟨hstate, hkit', halliance, -, hpermitted, -, -, -, -, -, hdisable, -, -, -⟩ := dropClaims_slot n s n
  have hstates (k : Nat) : ((dropClaims n s).slot k).state = (s.slot k).state := by simp
  have hsettings : (dropClaims n s).settings = s.settings := by simp
  have hscore : (dropClaims n s).score.alliances = s.score.alliances := by simp
  unfold helloReboot
  generalize dropClaims n s = d at *
  have hother (x : Slot) (k : Nat) (hk : k ≠ n) : ((d.setSlot n x).slot k).state = (s.slot k).state := by
    rw [setSlot_slot_other hk, hstates]
  have htier : resolveTier { d.slot n with lastAd := some m } s.settings
      = highestTier (m &&& (s.slot n).permitted &&& s.settings.allowedTiers) := by
    simp only [resolveTier, effectiveTiers, Option.getD_some, hpermitted]
  dsimp only at htier ⊢
  rw [hsettings, htier]
  cases highestTier (m &&& (s.slot n).permitted &&& s.settings.allowedTiers) with
  | none =>
    refine ⟨d.setSlot n (toExpected s.settings { d.slot n with lastAd := some m }),
      { slot := n, tag := kitTag kit, body := .answer 1 0 .noCommonTier 0 }, rfl, rfl, rfl, hold rfl rfl, ?_⟩
    rw [setSlot_slot_self hn]
    exact ⟨hdisable, rfl, hpermitted, rfl, rfl, ⟨rfl, rfl, rfl⟩, hother _, hscore⟩
  | some t =>
    have hcap : d.tierCap t = s.tierCap t := by rw [State.tierCap, hsettings, State.tierCap]
    refine ⟨d.setSlot n (toOffered s.settings t (s.tierCap t) false { d.slot n with lastAd := some m }),
      { slot := n, tag := kitTag kit, body := .offer kit n (s.slot n).alliance t (s.tierCap t) }, ?_, rfl, rfl,
      hold rfl rfl, ?_⟩
    · simp only [sendOffer_setSlot hn, toOffered, hkit', hkit, halliance, hcap]
      rfl
    · rw [setSlot_slot_self hn]
      exact ⟨hdisable, rfl, hpermitted, rfl, rfl, ⟨rfl, rfl, rfl⟩, hother _, hscore⟩

end

/-- Settles O32, by the state of the slot that the HELLO's kit is registered to. -/
theorem helloIsOfferedTheHighestCommonTierOrReboots : Obligations.HelloIsOfferedTheHighestCommonTierOrReboots := by
  refine ⟨fun s u x tiers kit n m hs htaken hslot hphase hm => ?_, fun s u x tiers kit n m hs htaken hslot hphase hstate hm => ?_⟩
  · obtain ⟨hn, -, hkit⟩ := slotOfKit_spec hslot
    rw [exec_hello hs htaken, if_pos rfl]
    obtain ⟨l, rfl⟩ := eq_of_takenFrom htaken
    have hserved := serveHello_of_slot (s := s.withUplink l) (tiers := tiers) (helloClosed_eq_false hphase) hslot
    have hnew (h : (s.slot n).state = .expected ∨ (s.slot n).state = .lost) :
        serveHello kit tiers (s.withUplink l) = helloNew n kit (tierMaskOf tiers) (s.withUplink l) := by
      rw [hserved]
      rcases h with h | h <;> simp only [show ((s.withUplink l).slot n).state = _ from h]
    refine ⟨fun t hstate hlow hhigh hbit habove => ?_, fun hstate hzero => ?_, fun t c hstate ht hc => ?_⟩
    · have htier := highestTier_eq_some hlow hbit habove
      rw [hm] at htier
      rw [hnew hstate, helloNew_of_tier (s := s.withUplink l) (m := tierMaskOf tiers) hn hkit htier]
      rfl
    · have htier := (highestTier_eq_none_iff m).mpr hzero
      rw [hm] at htier
      rw [hnew hstate, helloNew_of_none (s := s.withUplink l) (m := tierMaskOf tiers) htier]
      rfl
    · have hagain : serveHello kit tiers (s.withUplink l) = helloAgain n (s.withUplink l) := by
        rw [hserved]
        simp only [show ((s.withUplink l).slot n).state = _ from hstate]
      rw [hagain, helloAgain_of_offer (s := s.withUplink l) hn hkit ht hc]
      rfl
  · obtain ⟨hn, -, hkit⟩ := slotOfKit_spec hslot
    rw [exec_hello hs htaken, if_pos rfl]
    obtain ⟨l, rfl⟩ := eq_of_takenFrom htaken
    have hreboot : serveHello kit tiers (s.withUplink l) = helloReboot n kit (tierMaskOf tiers) (s.withUplink l) := by
      rw [serveHello_of_slot (s := s.withUplink l) (helloClosed_eq_false hphase) hslot]
      rcases hstate with h | h <;> simp only [show ((s.withUplink l).slot n).state = _ from h]
    obtain ⟨v, f, heq, hfslot, hftag, hholds, hdisable, had, hpermitted, hsilence, hlost, htier, hothers, hscore⟩ :=
      helloReboot_eq (s := s.withUplink l) hn hkit (tierMaskOf tiers)
    refine ⟨v, f, by rw [hreboot, heq], hfslot, hftag, hholds, hdisable, had, hpermitted, hsilence, hlost, ?_, hothers, hscore⟩
    have hm' : tierMaskOf tiers &&& ((s.withUplink l).slot n).permitted &&& (s.withUplink l).settings.allowedTiers = m := hm.symm
    rw [hm'] at htier
    by_cases hzero : m = 0
    · rw [if_pos hzero]
      rw [(highestTier_eq_none_iff m).mpr hzero] at htier
      exact htier
    · rw [if_neg hzero]
      cases h : highestTier m with
      | none => exact absurd ((highestTier_eq_none_iff m).mp h) hzero
      | some t =>
        rw [h] at htier
        obtain ⟨hoffered, ht, hbody⟩ := htier
        obtain ⟨hlow, hhigh, hbit, habove⟩ := highestTier_spec h
        exact ⟨hoffered, t, hlow, hhigh, hbit, habove, ht, hbody⟩

end Sys2Proof.Machine
end

section
/-! PROOFS. CONFIRM, BYE, PRESENCE and the timers of a slot (R20, R21, R31 to R33, R35 to R37, R87, R155). -/

namespace Sys2Proof.Machine

-- The restart of a silence timer (R35)

theorem restartSilence_of_other {s : State} {n : Nat}
    (h : ¬((s.slot n).state = .admitted ∨ (s.slot n).state = .disabled)) : restartSilence n s = s :=
  if_neg (by simpa using h)

theorem restartSilence_of_running {s : State} {n : Nat} (h : (s.slot n).state = .admitted ∨ (s.slot n).state = .disabled) :
    restartSilence n s = s.setSlot n { s.slot n with silenceTimer := some (millis s.settings.silenceLimit) } :=
  if_pos (by simpa using h)

theorem restartSilence_slot (n k : Nat) (s : State) : ∃ timer, (restartSilence n s).slot k
    = { s.slot k with silenceTimer := timer } := by
  unfold restartSilence
  dsimp only
  split
  · rw [slot_setSlot]
    split
    · next h =>
      rw [h.1]
      exact ⟨_, rfl⟩
    · exact ⟨_, rfl⟩
  · exact ⟨_, rfl⟩

theorem lawfulClaims_restartSilence {s : State} (hs : lawfulClaims s) (n : Nat) : lawfulClaims (restartSilence n s) := by
  rw [lawfulClaims_iff] at hs ⊢
  have hslot (k : Nat) := restartSilence_slot n k s
  refine hs.congr (by simp) (by simp) ?_ ?_ ?_ <;>
  · intro k
    obtain ⟨timer, h⟩ := hslot k
    rw [h]

-- CONFIRM (R31)

theorem exec_confirm {s u : State} {x tier : Byte} {tag : Half} (hs : s.awake)
    (htaken : takenFrom { slot := x.toNat, tag := tag, body := .confirm tier.toNat } s u)
    (haccepted : acceptedFrom x.toNat tag s) : exec (.confirm x tag tier) s = .next (settle (serveConfirm
      { slot := x.toNat, tag := tag, body := .confirm tier.toNat } tier.toNat (restartSilence x.toNat u))) :=
  exec_taking (f := { slot := x.toNat, tag := tag, body := .confirm tier.toNat }) hs htaken haccepted (by simp)

theorem toAdmitted_eq (g : Settings) (x : Slot) : toAdmitted g x =
    { x with state := if x.disable = none then .admitted else .disabled, confirmTimer := none, attempts := 0,
             wasLost := false, silenceTimer := some (millis g.silenceLimit) } := by
  obtain ⟨_, _, _, _, _, _, _, _, _, _, disable, _, _, _, _, _⟩ := x
  cases disable <;> rfl

/-- Settles O33, by the state and the tier of the slot. -/
theorem confirmAdmitsTheSlot : Obligations.ConfirmAdmitsTheSlot := by
  intro s u x tier tag hs htaken haccepted
  rw [exec_confirm hs htaken haccepted]
  obtain ⟨l, rfl⟩ := eq_of_takenFrom htaken
  have hsame (h : (s.slot x.toNat).state = .offered) : restartSilence x.toNat (s.withUplink l) = s.withUplink l :=
    restartSilence_of_other (s := s.withUplink l) (show ¬((s.slot x.toNat).state = _ ∨ (s.slot x.toNat).state = _) by simp [h])
  refine ⟨fun hoffered htier => ?_, fun hoffered htier => ?_, fun hother => ?_⟩
  · rw [hsame hoffered, serveConfirm]
    dsimp only
    rw [if_pos (by exact hoffered), if_pos (by exact htier)]
    rw [toAdmitted_eq]
    rfl
  · rw [hsame hoffered, serveConfirm]
    dsimp only
    rw [if_pos (by exact hoffered), if_neg (by exact htier)]
    rfl
  · rw [serveConfirm]
    dsimp only
    rw [slot_state_restartSilence, if_neg (by exact hother)]
    rfl

-- BYE and PRESENCE (R36, R37)

theorem exec_bye {s u : State} {x : Byte} {tag : Half} (hs : s.awake)
    (htaken : takenFrom { slot := x.toNat, tag := tag, body := .bye } s u) (haccepted : acceptedFrom x.toNat tag s) :
    exec (.bye x tag) s
      = .next (settle (serveBye { slot := x.toNat, tag := tag, body := .bye } (restartSilence x.toNat u))) :=
  exec_taking (f := { slot := x.toNat, tag := tag, body := .bye }) hs htaken haccepted (by simp)

theorem exec_presence {s u : State} {x : Byte} {tag : Half} (hs : s.awake)
    (htaken : takenFrom { slot := x.toNat, tag := tag, body := .presence } s u) (haccepted : acceptedFrom x.toNat tag s) :
    exec (.presence x tag) s = .next (settle (restartSilence x.toNat u)) :=
  exec_taking (f := { slot := x.toNat, tag := tag, body := .presence }) hs htaken haccepted (by simp)

theorem senderOk_iff (f : UplinkFrame) (s : State) : s.senderOk f = true ↔ acceptedFrom f.slot f.tag s := by
  simp [State.senderOk, acceptedFrom, and_assoc]

/-- A frame of no accepted sender is discarded (R155, steps 2 to 4). -/
theorem takeFrame_of_notAccepted {f : UplinkFrame} {s u : State} (hkind : ∀ kit tiers, f.body ≠ .hello kit tiers)
    (htaken : takenFrom f s u) (hnot : ¬acceptedFrom f.slot f.tag s) : takeFrame f s = u := by
  have hsender : ¬u.senderOk f = true := by
    rw [senderOk_iff, acceptedFrom, slot_of_takenFrom htaken]
    exact hnot
  rw [takeFrame_of_takenFrom htaken]
  unfold serveFrame
  split
  case h_1 kit tiers hbody => exact absurd hbody (hkind kit tiers)
  all_goals exact if_neg hsender

theorem exec_discarded {i : Instr} {f : UplinkFrame} {s u : State} (hs : s.awake) (htaken : takenFrom f s u)
    (hnot : ¬acceptedFrom f.slot f.tag s) (hkind : ∀ kit tiers, f.body ≠ .hello kit tiers)
    (hi : exec i s = .next (whenAwake (takeFrame f) s) := by rfl) : exec i s = .next u := by
  rw [hi, whenAwake_of_awake hs, takeFrame_of_notAccepted hkind htaken hnot]

/-- A slot returned to EXPECTED keeps its disable, its permitted tiers and its attempts (R20, R21, R36, R87). -/
theorem returnedToExpected {s : State} {n : Nat} (hn : 1 ≤ n ∧ n ≤ 24) :
    ((returnToExpected n s).slot n).state = .expected ∧ ((returnToExpected n s).slot n).tier = none
      ∧ ((returnToExpected n s).slot n).cap = none ∧ ((returnToExpected n s).slot n).wasLost = false
      ∧ ((returnToExpected n s).slot n).confirmTimer = none ∧ ((returnToExpected n s).slot n).silenceTimer = none
      ∧ ((returnToExpected n s).slot n).disable = (s.slot n).disable
      ∧ ((returnToExpected n s).slot n).permitted = (s.slot n).permitted
      ∧ ((returnToExpected n s).slot n).attempts = (s.slot n).attempts
      ∧ ((returnToExpected n s).slot n).restoreTimer = restoreStart s.settings (s.slot n).restoreTimer := by
  rw [returnToExpected_eq, setSlot_slot_self hn]
  simp [toExpected]

theorem holdsNothing_returnToExpected {s : State} (hs : lawfulClaims s) (n : Nat) :
    holdsNothing n (returnToExpected n s) := by
  rw [returnToExpected_eq]
  exact holdsNothing_dropClaims_setSlot hs n rfl rfl

theorem returnToExpected_state_other {s : State} {n k : Nat} (hk : k ≠ n) :
    ((returnToExpected n s).slot k).state = (s.slot k).state := by
  rw [returnToExpected_eq, setSlot_slot_other hk]
  simp

theorem serveBye_of_notAdmitted {f : UplinkFrame} {s : State}
    (h : (s.slot f.slot).state = .expected ∨ (s.slot f.slot).state = .lost) :
    serveBye f s = answerFrame f .notAdmitted 0 s := by
  unfold serveBye
  rcases h with h | h <;> rw [h]

theorem serveBye_of_left {f : UplinkFrame} {s : State} (h : (s.slot f.slot).state = .admitted
      ∨ (s.slot f.slot).state = .disabled ∨ (s.slot f.slot).state = .offered) :
    serveBye f s = answerFrame f .left 0 (returnToExpected f.slot s) := by
  unfold serveBye
  rcases h with h | h | h <;> rw [h]

/-- Settles O34: BYE and PRESENCE by the state of the slot, and the frames of no sender. -/
theorem byeAndPresence : Obligations.ByeAndPresence := by
  refine ⟨fun s u x tag hs htaken haccepted => ?_, fun s u x tag hs htaken => ⟨fun haccepted => ?_, fun hnot => ?_⟩,
    fun s u x y z tag bytes i b hs hmem htaken hnot => ?_⟩
  · have hn := slot_range_of_registered haccepted.2.1
    rw [exec_bye hs htaken haccepted]
    obtain ⟨l, rfl⟩ := eq_of_takenFrom htaken
    refine ⟨fun h => ?_, fun h => ?_⟩
    · have hsame : restartSilence x.toNat (s.withUplink l) = s.withUplink l :=
        restartSilence_of_other (s := s.withUplink l)
          (show ¬((s.slot x.toNat).state = _ ∨ (s.slot x.toNat).state = _) by rcases h with h | h <;> simp [h])
      rw [hsame, serveBye_of_notAdmitted (f := { slot := x.toNat, tag := tag, body := .bye }) (s := s.withUplink l) h]
      rfl
    · obtain ⟨timer, hslot⟩ := restartSilence_slot x.toNat x.toNat (s.withUplink l)
      have hlaw := lawfulClaims_restartSilence (s := s.withUplink l) (n := x.toNat)
      have hstates (k : Nat) : ((restartSilence x.toNat (s.withUplink l)).slot k).state = (s.slot k).state :=
        slot_state_restartSilence x.toNat k (s.withUplink l)
      have hframe : (restartSilence x.toNat (s.withUplink l)).settings = s.settings
          ∧ (restartSilence x.toNat (s.withUplink l)).attention = s.attention := by simp [State.withUplink]
      generalize restartSilence x.toNat (s.withUplink l) = w at *
      obtain ⟨hsettings, hattention⟩ := hframe
      obtain ⟨hstate, htier, hcap, hlost, hconfirm, hsilence, hdisable, hpermitted, hattempts, hrestore⟩ :=
        returnedToExpected (s := w) hn
      rw [hslot] at hdisable hpermitted hattempts hrestore
      rw [hsettings] at hrestore
      rw [serveBye_of_left (s := w) (by simpa only [hstates] using h)]
      refine ⟨_, rfl, hstate, htier, hcap, hlost, hconfirm, hsilence, hdisable, hpermitted, hattempts,
        fun h => holdsNothing_returnToExpected (hlaw h) _, hrestore, fun k hk => ?_, ?_⟩
      · rw [returnToExpected_state_other hk, hstates]
      · rw [← hattention]
        simp [returnToExpected_eq]
  · rw [exec_presence hs htaken haccepted]
    obtain ⟨l, rfl⟩ := eq_of_takenFrom htaken
    by_cases h : (s.slot x.toNat).state = .admitted ∨ (s.slot x.toNat).state = .disabled
    · rw [if_pos h, restartSilence_of_running (s := s.withUplink l) h]
      rfl
    · rw [if_neg h, restartSilence_of_other (s := s.withUplink l) h]
  · exact exec_discarded hs htaken hnot (by simp)
  · simp only [List.mem_cons, Prod.mk.injEq, List.not_mem_nil, or_false] at hmem
    rcases hmem with ⟨rfl, rfl⟩ | ⟨rfl, rfl⟩ | ⟨rfl, rfl⟩ | ⟨rfl, rfl⟩ | ⟨rfl, rfl⟩ | ⟨rfl, rfl⟩ | ⟨rfl, rfl⟩ | ⟨rfl, rfl⟩ <;>
      exact exec_discarded hs htaken hnot (by simp)

end Sys2Proof.Machine
end

section
/-! PROOFS. The timers of a slot, and the checks that CLAIM and ACTUATE share (R20, R21, R32, R33, R35, R52, R70, R87,
R101). -/

namespace Sys2Proof.Machine

-- Masks of tiers (R32)

theorem hasTier_eq_true_iff (m : TierMask) (t : Nat) : hasTier m t = true ↔ 1 ≤ t ∧ m.getLsbD (t - 1) = true := by
  simp [hasTier]

theorem hasLower_eq_true_iff (m : TierMask) (t : Nat) :
    hasLower m t = true ↔ ∃ k, 1 ≤ k ∧ k < t ∧ k ≤ 4 ∧ m.getLsbD (k - 1) = true := by
  simp only [hasLower, List.any_eq_true, Bool.and_eq_true, decide_eq_true_eq, hasTier_eq_true_iff]
  constructor
  · rintro ⟨k, hk, ⟨hlow, hbit⟩, hlt⟩
    exact ⟨k, hlow, hlt, by simp at hk; omega, hbit⟩
  · rintro ⟨k, hlow, hlt, hhigh, hbit⟩
    exact ⟨k, by simp; omega, ⟨hlow, hbit⟩, hlt⟩

theorem getLsbD_removeTier (m : TierMask) (t i : Nat) :
    (removeTier m t).getLsbD i = (m.getLsbD i && i != t - 1) := by
  by_cases hi : i < 4
  · have hbit : (1#4 <<< (t - 1)).getLsbD i = decide (i = t - 1) := by
      rw [← BitVec.twoPow_eq, BitVec.getLsbD_twoPow]
      by_cases h : t - 1 = i <;> simp [h, hi, Ne.symm]
    simp only [removeTier, BitVec.getLsbD_and, BitVec.getLsbD_not, hi, hbit, decide_true, Bool.true_and]
    by_cases h : i = t - 1 <;> simp [h]
  · rw [BitVec.getLsbD_of_ge _ _ (by omega), BitVec.getLsbD_of_ge _ _ (by omega), Bool.false_and]

-- The lapse of an offer (R32)

/-- The slot record whose lapse is counted (R32, step 1). -/
def Slot.counted (x : Slot) : Slot := { x with attempts := min 15 (x.attempts + 1) }

/-- The slot record behind the downshift of a lapse (R32, step 2). -/
def Slot.downshifted (x : Slot) : Slot := { x with permitted := removeTier x.permitted (x.tier.getD 0), attempts := 0 }

theorem lapse_eq (n : Nat) (s : State) : lapse n s
    = if downshifts s.settings (s.slot n).counted then
        (s.setSlot n (lapseOffer s.settings (s.slot n).counted.downshifted)).setFlag .downshift
      else s.setSlot n (lapseOffer s.settings (s.slot n).counted) := by
  change State.setFlagIf (downshifts s.settings (s.slot n).counted) .downshift (s.setSlot n (lapseOffer s.settings
    (if downshifts s.settings (s.slot n).counted = true then (s.slot n).counted.downshifted else (s.slot n).counted))) = _
  cases downshifts s.settings (s.slot n).counted <;> rfl

theorem downshifts_counted_iff (g : Settings) (x : Slot) : downshifts g x.counted = true
    ↔ g.downshiftEnable = true ∧ g.downshiftThreshold ≤ min 15 (x.attempts + 1)
      ∧ ∃ k, 1 ≤ k ∧ k < x.tier.getD 0 ∧ k ≤ 4
        ∧ (x.lastAd.getD 0 &&& x.permitted &&& g.allowedTiers).getLsbD (k - 1) = true := by
  rw [← hasLower_eq_true_iff]
  simp only [downshifts, Bool.and_eq_true, decide_eq_true_eq, and_assoc]
  rfl

theorem exec_confirmTimerExpiry {s : State} {n : Nat} (hs : s.awake) (hoffered : (s.slot n).state = .offered)
    (htimer : (s.slot n).confirmTimer.isSome = true) : exec (.confirmTimerExpiry n) s = .next (lapse n s) :=
  congrArg Host.Outcome.next ((whenAwake_of_awake hs _).trans (if_pos (by simp [hoffered, htimer])))

-- The silence of a slot (R35)

theorem exec_silenceTimerExpiry {s : State} {n : Nat} (hs : s.awake)
    (hstate : (s.slot n).state = .admitted ∨ (s.slot n).state = .disabled)
    (htimer : (s.slot n).silenceTimer.isSome = true) :
    exec (.silenceTimerExpiry n) s = .next (settle (fallSilent n s)) :=
  congrArg Host.Outcome.next ((whenAwake_of_awake hs _).trans (if_pos (by rcases hstate with h | h <;> simp [h, htimer])))

theorem fallSilent_eq (n : Nat) (s : State) : fallSilent n s
    = ((dropClaims n s).setSlot n (toLost s.settings ((dropClaims n s).slot n))).setFlag .lost := by
  simp [fallSilent, State.modSlot]

/-- Settles O35, by the three timers of a slot. -/
theorem slotTimersRunOut : Obligations.SlotTimersRunOut := by
  intro s n t a m hs
  refine ⟨fun hoffered htimer htier ha hm => ?_, fun hstate htimer => ?_, fun htimer => ?_⟩
  · have hn := slot_range_of_registered (s := s) (n := n) (by rw [hoffered]; simp)
    have hdown := downshifts_counted_iff s.settings (s.slot n)
    rw [htier, Option.getD_some, ← ha, ← hm] at hdown
    refine ⟨_, exec_confirmTimerExpiry hs hoffered htimer, ?_⟩
    rw [lapse_eq]
    split
    · next h =>
      have hself : ((s.setSlot n (lapseOffer s.settings (s.slot n).counted.downshifted)).setFlag .downshift).slot n
        = lapseOffer s.settings (s.slot n).counted.downshifted := setSlot_slot_self hn _
      rw [hself]
      refine ⟨rfl, rfl, rfl, rfl, rfl, rfl, rfl, rfl, fun _ => ⟨rfl, flagSet_setFlag_self _ _, fun i => ?_⟩,
        fun hnot => absurd (hdown.mp h) hnot, fun k hk => setSlot_slot_other hk _, rfl⟩
      refine (getLsbD_removeTier _ _ i).trans ?_
      rw [show (s.slot n).counted.tier = some t from htier]
      rfl
    · next h =>
      rw [setSlot_slot_self hn]
      exact ⟨rfl, rfl, rfl, rfl, rfl, rfl, rfl, rfl, fun hyes => absurd (hdown.mpr hyes) h,
        fun _ => ⟨ha.symm, rfl, rfl⟩, fun k hk => setSlot_slot_other hk _, rfl⟩
  · have hn := slot_range_of_registered (s := s) (n := n) (by rcases hstate with h | h <;> rw [h] <;> simp)
    refine ⟨_, exec_silenceTimerExpiry hs hstate htimer, ?_⟩
    have hfields := dropClaims_slot n s n
    have hholds (hlaw : lawfulClaims s) := holdsNothing_dropClaims_setSlot hlaw n
      (x := toLost s.settings ((dropClaims n s).slot n)) rfl rfl
    have hstates (k : Nat) : ((dropClaims n s).slot k).state = (s.slot k).state := by simp
    have hscore : (dropClaims n s).score.alliances = s.score.alliances := by simp
    rw [fallSilent_eq]
    generalize dropClaims n s = d at *
    have hself : (((d.setSlot n (toLost s.settings (d.slot n))).setFlag .lost).slot n) = toLost s.settings (d.slot n) :=
      setSlot_slot_self hn _
    rw [hself]
    obtain ⟨-, -, -, -, -, -, htier, hcap, -, -, hdisable, -, -, hrestore⟩ := hfields
    refine ⟨rfl, rfl, rfl, htier, hcap, hdisable, hholds, flagSet_setFlag_self _ _, ?_, fun k hk => ?_, hscore⟩
    · rw [← hrestore]
      rfl
    · exact (congrArg Slot.state (setSlot_slot_other hk _)).trans (hstates k)
  · refine congrArg Host.Outcome.next ((whenAwake_of_awake hs _).trans ((if_pos htimer).trans ?_))
    rfl

end Sys2Proof.Machine
end

section
/-! PROOFS. The checks that CLAIM and ACTUATE share (R52, R70, R101). -/

namespace Sys2Proof.Machine

/-- The answer to a CLAIM or ACTUATE of an element that is not open to its sender; none where the element is mute (R52,
R70). -/
def gateAnswer (n e : Nat) (s : State) : Option AnswerCode :=
  if e = 0 ∨ 32 < e ∨ s.defined e = false then some .noSuchElement
  else if s.mode e = .withdrawn ∨ s.mode e = .silent then none
  else if s.mode e = .refusing ∨ (s.run e).withdrawPending = true then some .closed
  else if (s.slot n).state = .disabled then some .disabled
  else if (s.slot n).state ≠ .admitted then some .notAdmitted
  else some .notNow

theorem elementKnown_eq_false_iff (s : State) (e : Nat) :
    s.elementKnown e = false ↔ e = 0 ∨ 32 < e ∨ s.defined e = false := by
  simp only [State.elementKnown, elementInRange, Bool.and_eq_false_iff, decide_eq_false_iff_not]
  constructor
  · rintro ((h | h) | h)
    · omega
    · omega
    · exact .inr (.inr h)
  · rintro (h | h | h)
    · exact .inl (.inl (by omega))
    · exact .inl (.inr (by omega))
    · exact .inr h

theorem elementKnown_iff (s : State) (e : Nat) : s.elementKnown e = true ↔ s.defined e = true := by
  simp only [State.elementKnown, Bool.and_eq_true, elementInRange_iff]
  exact ⟨fun h => h.2, fun h => ⟨element_range_of_defined h, h⟩⟩

theorem muteMode_iff (m : Mode) : muteMode m = true ↔ m = .withdrawn ∨ m = .silent := by cases m <;> simp [muteMode]

theorem gate_of_openTo {n e : Nat} {s : State} (h : openTo n e s) : gate n e s = none := by
  obtain ⟨hlow, hhigh, hd, hmode, hpending, hstate, hdrive⟩ := h
  simp [gate, (elementKnown_iff s e).mpr hd, hmode, muteMode, hpending, hstate, State.drivePermit, hdrive]

/-- An element that is not open to the sender turns its frame away by the first check that fails (R70, R101). -/
theorem gate_of_notOpen {n e : Nat} {s : State} (h : ¬openTo n e s) : gate n e s = some (gateAnswer n e s) := by
  unfold gate gateAnswer
  by_cases hknown : s.elementKnown e = true
  · have hd := (elementKnown_iff s e).mp hknown
    have hrange := element_range_of_defined hd
    have hnot : ¬(e = 0 ∨ 32 < e ∨ s.defined e = false) := by
      rw [← elementKnown_eq_false_iff, hknown]
      simp
    rw [if_neg (by simp [hknown]), if_neg hnot]
    simp only [muteMode_iff, Bool.or_eq_true, decide_eq_true_eq, bne_iff_ne, Bool.not_eq_true']
    split_ifs with hmute hclosed hdisabled hstate hdrive
    · rfl
    · rfl
    · rfl
    · rfl
    · rfl
    · refine absurd ⟨hrange.1, hrange.2, hd, ?_, ?_, not_not.mp hstate, ?_⟩ h
      · cases hmode : s.mode e <;> simp_all
      · simpa using fun hp => hclosed (.inr hp)
      · simpa [State.drivePermit, not_not.mp hstate] using hdrive
  · rw [if_pos (by simpa using hknown), if_pos ((elementKnown_eq_false_iff s e).mp (by simpa using hknown))]

theorem driveTime_congr {s t : State} (h : t.clock = s.clock) : t.driveTime = s.driveTime := by
  have hperiod : t.currentPeriod = s.currentPeriod := by
    unfold State.currentPeriod
    rw [h]
  rw [State.driveTime, State.matchTime, State.currentKind, hperiod, h]
  rfl

/-- The gate reads the definition and run-time part of the element, the state of the sender and the clock. -/
theorem gate_congr {n e : Nat} {s t : State} (hdef : t.elemDef e = s.elemDef e) (hrun : t.run e = s.run e)
    (hslot : (t.slot n).state = (s.slot n).state) (hclock : t.clock = s.clock) : gate n e t = gate n e s := by
  have hdefined : t.defined e = s.defined e := by rw [State.defined, hdef, State.defined]
  have hmode : t.mode e = s.mode e := by rw [State.mode, hrun, State.mode]
  have hdrive : t.driveTime = s.driveTime := driveTime_congr hclock
  unfold gate State.elementKnown State.drivePermit
  rw [hdefined, hmode, hrun, hslot, hdrive]

theorem gate_restartSilence (n e : Nat) (s : State) : gate n e (restartSilence n s) = gate n e s :=
  gate_congr (by simp) (by simp) (slot_state_restartSilence n n s) (by simp)

theorem exec_claim {s u : State} {x e : Byte} {tag : Half} (hs : s.awake)
    (htaken : takenFrom { slot := x.toNat, tag := tag, body := .claim e.toNat } s u) (haccepted : acceptedFrom x.toNat tag s) :
    exec (.claim x tag e) s = .next (settle (serveClaim
      { slot := x.toNat, tag := tag, body := .claim e.toNat } e.toNat (restartSilence x.toNat u))) :=
  exec_taking (f := { slot := x.toNat, tag := tag, body := .claim e.toNat }) hs htaken haccepted (by simp)

theorem exec_robotActuate {s u : State} {x e a : Byte} {tag : Half} (hs : s.awake)
    (htaken : takenFrom { slot := x.toNat, tag := tag, body := .actuate e.toNat a.toNat } s u)
    (haccepted : acceptedFrom x.toNat tag s) :
    exec (.robotActuate x tag e a) s = .next (settle (serveActuate
      { slot := x.toNat, tag := tag, body := .actuate e.toNat a.toNat } e.toNat a.toNat (restartSilence x.toNat u))) :=
  exec_taking (f := { slot := x.toNat, tag := tag, body := .actuate e.toNat a.toNat }) hs htaken haccepted (by simp)

/-- What a frame that is turned away leaves (R52, R159). -/
theorem turnAway_gateAnswer (f : UplinkFrame) (n e : Nat) (s w : State) : turnAway f (gateAnswer n e s) w =
    if e = 0 ∨ 32 < e ∨ s.defined e = false then answerFrame f .noSuchElement 0 w
    else if s.mode e = .withdrawn ∨ s.mode e = .silent then w
    else if s.mode e = .refusing ∨ (s.run e).withdrawPending = true then answerFrame f .closed 0 w
    else if (s.slot n).state = .disabled then answerFrame f .disabled 0 w
    else if (s.slot n).state ≠ .admitted then answerFrame f .notAdmitted 0 w
    else answerFrame f .notNow 0 w := by
  unfold gateAnswer
  split_ifs <;> rfl

/-- Settles O36: each of the two frames is turned away by the gate they share. -/
theorem claimAndActuateShareTheirFirstChecks : Obligations.ClaimAndActuateShareTheirFirstChecks := by
  intro s u x e a tag i kind hs haccepted hopen hframe
  have hzero : e = 0 ↔ e.toNat = 0 := by bv_omega
  have hgate : gate x.toNat e.toNat s = some (gateAnswer x.toNat e.toNat s) := gate_of_notOpen hopen
  simp only [hzero]
  rcases hframe with ⟨rfl, rfl, htaken⟩ | ⟨rfl, rfl, htaken⟩
  · rw [exec_claim hs htaken haccepted]
    obtain ⟨l, rfl⟩ := eq_of_takenFrom htaken
    have hgate' : gate x.toNat e.toNat (restartSilence x.toNat (s.withUplink l)) = some (gateAnswer x.toNat e.toNat s) :=
      (gate_restartSilence _ _ _).trans hgate
    rw [serveClaim]
    dsimp only
    rw [hgate']
    dsimp only
    rw [turnAway_gateAnswer]
    rfl
  · rw [exec_robotActuate hs htaken haccepted]
    obtain ⟨l, rfl⟩ := eq_of_takenFrom htaken
    have hgate' : gate x.toNat e.toNat (restartSilence x.toNat (s.withUplink l)) = some (gateAnswer x.toNat e.toNat s) :=
      (gate_restartSilence _ _ _).trans hgate
    rw [serveActuate]
    dsimp only
    rw [hgate']
    dsimp only
    rw [turnAway_gateAnswer]
    rfl

end Sys2Proof.Machine
end

section
/-! PROOFS. CLAIM and RELEASE of an element that is open to the sender, and the hold limit that runs out (R67 to R82). -/

namespace Sys2Proof.Machine

-- The state in which a frame is served (R35, R155)

/-- A slot's frame has left the uplink queue and has restarted its silence timer (R35, R155). -/
def heard (n : Nat) (l : List UplinkFrame) (s : State) : State := restartSilence n (s.withUplink l)

@[simp] theorem heard_frame (n : Nat) (l : List UplinkFrame) (s : State) :
    (heard n l s).clock = s.clock ∧ (heard n l s).table = s.table ∧ (heard n l s).claims = s.claims
      ∧ (heard n l s).bus = s.bus ∧ (heard n l s).lights = s.lights ∧ (heard n l s).score = s.score
      ∧ (heard n l s).stop = s.stop ∧ (heard n l s).attention = s.attention ∧ (heard n l s).settings = s.settings
      ∧ (heard n l s).store = s.store := by
  simp [heard, State.withUplink]

@[simp] theorem heard_reads (n k : Nat) (l : List UplinkFrame) (s : State) :
    (heard n l s).elemDef k = s.elemDef k ∧ (heard n l s).run k = s.run k ∧ (heard n l s).claim k = s.claim k
      ∧ (heard n l s).act k = s.act k ∧ (heard n l s).elemScore k = s.elemScore k
      ∧ (heard n l s).light k = s.light k ∧ (heard n l s).defined k = s.defined k
      ∧ (heard n l s).mode k = s.mode k ∧ ((heard n l s).slot k).state = (s.slot k).state := by
  simp only [State.elemDef, State.run, State.claim, State.act, State.elemScore, State.light, State.defined, State.mode,
    heard_frame, true_and]
  exact ⟨rfl, slot_state_restartSilence n k (s.withUplink l)⟩

theorem heard_slot_same {n : Nat} {s : State} (hn : (s.slot n).state = .admitted) (l : List UplinkFrame) :
    (heard n l s).slot n = { s.slot n with silenceTimer := some (millis s.settings.silenceLimit) } := by
  have hrange : 1 ≤ n ∧ n ≤ 24 := slot_range_of_registered (s := s) (by simp [hn])
  rw [heard, restartSilence_of_running (s := s.withUplink l) (.inl hn)]
  exact setSlot_slot_self (s := s.withUplink l) hrange _

theorem heard_slot_eq (n k : Nat) (l : List UplinkFrame) (s : State) : ∃ timer, (heard n l s).slot k
    = { s.slot k with silenceTimer := timer } := restartSilence_slot n k (s.withUplink l)

theorem heard_slot_other {n k : Nat} (hk : k ≠ n) (l : List UplinkFrame) (s : State) :
    (heard n l s).slot k = s.slot k := by
  rw [heard, restartSilence]
  split
  · exact setSlot_slot_other (s := s.withUplink l) hk _
  · rfl

theorem gate_heard (n e : Nat) (l : List UplinkFrame) (s : State) : gate n e (heard n l s) = gate n e s :=
  gate_restartSilence n e (s.withUplink l)

theorem lawfulClaims_heard {s : State} (hs : lawfulClaims s) (n : Nat) (l : List UplinkFrame) :
    lawfulClaims (heard n l s) := lawfulClaims_restartSilence (s := s.withUplink l) hs n

/-- What has happened since the frame was taken has happened since the state before (R155). -/
theorem othersUntouched_of_heard {n e : Nat} {l : List UplinkFrame} {s v : State}
    (h : othersUntouched n e (heard n l s) v) : othersUntouched n e s v := by
  obtain ⟨hclaims, hslots, hstate, halliances, hclock, htable, hattention, hacts, hstop, hsettings, hstore⟩ := h
  refine ⟨?_, fun k hk => (hslots k hk).trans (heard_slot_other hk l s), ?_, ?_⟩
  · simpa using hclaims
  · simpa using hstate
  · simp [halliances, hclock, htable, hattention, hacts, hstop, hsettings, hstore]

-- The checks of CLAIM (R71 to R74)

/-- The sender passes the checks that the element's definition and its bar make (R71, R72). -/
structure MayHold (n e : Nat) (s : State) : Prop where
  defined : s.defined e = true
  kind : (s.elemDef e).kind ≠ .goal ∨ (s.elemDef e).side = none
  side : ∀ a, (s.elemDef e).side = some a → a = (s.slot n).alliance
  tier : (s.elemDef e).minTier ≤ (s.slot n).tier.getD 0
  notBarred : ∀ b, (s.claim e).barred = some b → b.slot ≠ n

theorem MayHold.heard {n e : Nat} {s : State} (h : MayHold n e s) (l : List UplinkFrame) :
    MayHold n e (Machine.heard n l s) := by
  obtain ⟨timer, hslot⟩ := heard_slot_eq n n l s
  obtain ⟨hdefined, hkind, hside, htier, hbar⟩ := h
  constructor <;> simpa [hslot]

theorem claimable_iff (d : ElementDef) : claimable d = true ↔ d.kind ≠ .none ∧ (d.kind ≠ .goal ∨ d.side = none) := by
  unfold claimable
  cases d.kind <;> simp

theorem defined_iff (s : State) (e : Nat) : s.defined e = true ↔ (s.elemDef e).kind ≠ .none := by simp [State.defined]

theorem side_mismatch_iff (d : ElementDef) (a : Nat) :
    (d.side.isSome && d.side != some a) = true ↔ ∃ b, d.side = some b ∧ b ≠ a := by
  cases d.side <;> simp

theorem claimElement_of_notClaimable {n e : Nat} {s : State} (hkind : (s.elemDef e).kind = .goal)
    (hside : (s.elemDef e).side.isSome = true) : claimElement n e s = (s, .notClaimable, 0) := by
  have hnot : claimable (s.elemDef e) = false := by
    rw [← Bool.not_eq_true, claimable_iff]
    simpa [hkind] using Option.isSome_iff_ne_none.mp hside
  rw [claimElement]
  rw [if_pos (by simp [hnot])]

theorem claimElement_of_wrongSide {n e : Nat} {s : State} (hd : s.defined e = true)
    (hkind : (s.elemDef e).kind ≠ .goal ∨ (s.elemDef e).side = none)
    (hside : ∃ a, (s.elemDef e).side = some a ∧ a ≠ (s.slot n).alliance) :
    claimElement n e s = (s, .wrongSide, 0) := by
  rw [claimElement]
  rw [if_neg (by simpa using (claimable_iff _).mpr ⟨(defined_iff s e).mp hd, hkind⟩),
    if_pos ((side_mismatch_iff _ _).mpr hside)]

section
variable {n e : Nat} {s : State} (hd : s.defined e = true)
    (hkind : (s.elemDef e).kind ≠ .goal ∨ (s.elemDef e).side = none)
    (hside : ∀ a, (s.elemDef e).side = some a → a = (s.slot n).alliance)
include hd hkind hside

/-- Behind the checks of kind and side come the tier, the bar and the claim itself (R72 to R74). -/
theorem claimElement_of_claimable : claimElement n e s =
    if (s.slot n).tier.getD 0 < (s.elemDef e).minTier then (s, .tierLow, 0)
    else if (s.claim e).barred.map (·.slot) = some n then (s, .cooldown, cooldownReported (s.claim e))
    else if (s.claim e).holder = some n then (s, .held, reported (s.claim e).holdTimer)
    else if (s.claim e).waiters.contains n then (s, .queued, waitPosition n (s.claim e).waiters)
    else if (s.claim e).holder.isNone then
      if 2 ≤ (s.slot n).holdCount then (s, .limit, 0) else (becomeHolder n e s, .granted, (s.elemDef e).holdLimit)
    else if 2 ≤ (s.slot n).holdCount || 2 ≤ (s.slot n).waitCount then (s, .limit, 0)
    else if 4 ≤ (s.claim e).waiters.length then (s, .full, 0)
    else (joinList n e s, .queued, (s.claim e).waiters.length + 1) := by
  have hmismatch : ¬((s.elemDef e).side.isSome && (s.elemDef e).side != some (s.slot n).alliance) = true := by
    rw [side_mismatch_iff]
    rintro ⟨a, ha, hne⟩
    exact hne (hside a ha)
  rw [claimElement]
  rw [if_neg (by simpa using (claimable_iff _).mpr ⟨(defined_iff s e).mp hd, hkind⟩), if_neg hmismatch]

end

/-- A sender that may hold the element is answered by the claim and its own counts (R73, R74). -/
theorem claimElement_of_mayHold {n e : Nat} {s : State} (h : MayHold n e s) : claimElement n e s =
    if (s.claim e).holder = some n then (s, .held, reported (s.claim e).holdTimer)
    else if (s.claim e).waiters.contains n then (s, .queued, waitPosition n (s.claim e).waiters)
    else if (s.claim e).holder.isNone then
      if 2 ≤ (s.slot n).holdCount then (s, .limit, 0) else (becomeHolder n e s, .granted, (s.elemDef e).holdLimit)
    else if 2 ≤ (s.slot n).holdCount || 2 ≤ (s.slot n).waitCount then (s, .limit, 0)
    else if 4 ≤ (s.claim e).waiters.length then (s, .full, 0)
    else (joinList n e s, .queued, (s.claim e).waiters.length + 1) := by
  have hbar : ¬(s.claim e).barred.map (·.slot) = some n := by
    rw [Option.map_eq_some_iff]
    rintro ⟨b, hb, hslot⟩
    exact h.notBarred b hb hslot
  rw [claimElement_of_claimable h.defined h.kind h.side, if_neg (Nat.not_lt.mpr h.tier), if_neg hbar]

theorem serveClaim_of_openTo {n e : Nat} {tag : Half} {s : State} (hopen : openTo n e s) (l : List UplinkFrame) :
    serveClaim { slot := n, tag := tag, body := .claim e } e (heard n l s) =
      answerFrame { slot := n, tag := tag, body := .claim e } (claimElement n e (heard n l s)).2.1
        (claimElement n e (heard n l s)).2.2 (claimElement n e (heard n l s)).1 := by
  have hgate : gate n e (heard n l s) = none := (gate_heard n e l s).trans (gate_of_openTo hopen)
  rw [serveClaim]
  dsimp only
  rw [hgate]

/-- A CLAIM behind the shared checks is answered with what the claim's own checks give (R70, R75). -/
theorem exec_claim_of_openTo {s u : State} {x e : Byte} {tag : Half} (hs : s.awake)
    (htaken : takenFrom { slot := x.toNat, tag := tag, body := .claim e.toNat } s u) (haccepted : acceptedFrom x.toNat tag s)
    (hopen : openTo x.toNat e.toNat s) : ∃ l, u = s.withUplink l ∧ ∀ w code detail,
      claimElement x.toNat e.toNat (heard x.toNat l s) = (w, code, detail) →
      exec (.claim x tag e) s = .next (settle (queueReply
        { slot := x.toNat, tag := tag, body := .answer 5 e.toNat code detail } w)) := by
  obtain ⟨l, rfl⟩ := eq_of_takenFrom htaken
  refine ⟨l, rfl, fun w code detail h => ?_⟩
  rw [exec_claim hs htaken haccepted]
  change Host.Outcome.next (settle (serveClaim _ _ (heard x.toNat l s))) = _
  rw [serveClaim_of_openTo hopen, h]
  rfl

-- A CLAIM of a free element (R73)

theorem becomeHolder_elemScore_other {n e k : Nat} (hn : 1 ≤ n ∧ n ≤ 24) (hk : k ≠ e) (s : State) :
    (becomeHolder n e s).elemScore k = s.elemScore k := by
  have hbegun : (beginHold n e s).elemScore k = s.elemScore k := by
    simp [beginHold, clearAccumulator, elemScore_setElemScore, hk]
  rw [becomeHolder_eq hn]
  split
  · simpa using hbegun
  · exact hbegun

theorem othersUntouched_becomeHolder {n e : Nat} (hn : 1 ≤ n ∧ n ≤ 24) (s : State) :
    othersUntouched n e s (becomeHolder n e s) := by
  refine ⟨fun k hk => ?_, fun k hk => becomeHolder_slot_other hn hk e s, by simp⟩
  rw [becomeHolder_claim_other hn hk, becomeHolder_elemScore_other hn hk]
  exact ⟨rfl, rfl, rfl, rfl⟩

/-- A slot that now holds 2 leaves every list, and else no list changes (R73). -/
theorem becomeHolder_waiters {n e : Nat} {s : State} (hn : 1 ≤ n ∧ n ≤ 24) (he : 1 ≤ e ∧ e ≤ 32)
    (hnot : n ∉ (s.claim e).waiters) (k : Nat) : ((becomeHolder n e s).claim k).waiters
      = if (s.slot n).holdCount = 1 then (s.claim k).waiters.erase n else (s.claim k).waiters := by
  by_cases hk : k = e
  · rw [hk, becomeHolder_claim_same hn he hnot, List.erase_of_not_mem hnot, ite_self]
  · rw [becomeHolder_claim_other hn hk]

/-- Settles O37: the claim's own checks grant the element, and becoming its holder writes what R73 says. -/
theorem claimOfAFreeElementIsGranted : Obligations.ClaimOfAFreeElementIsGranted := by
  intro s u x e tag tier hs hlaw hplay htaken haccepted hopen hkind hside htier hmin hbar hholder hcount
  obtain ⟨l, -, hexec⟩ := exec_claim_of_openTo hs htaken haccepted hopen
  obtain ⟨_, _, hd, _, _, hadmitted, _⟩ := id hopen
  obtain ⟨_, _, hempty⟩ := hplay e.toNat
  have hnodup (k : Nat) : (s.claim k).waiters.Nodup := by
    obtain ⟨_, _, hnodup, _⟩ := hlaw.1 k
    exact hnodup
  have he := element_range_of_defined hd
  have hn : 1 ≤ x.toNat ∧ x.toNat ≤ 24 := slot_range_of_registered (s := s) (by simp [hadmitted])
  have hmay : MayHold x.toNat e.toNat s := ⟨hd, hkind, hside, by simpa [htier] using hmin, hbar⟩
  have hslot := heard_slot_same hadmitted l
  have hwaiters : (s.claim e.toNat).waiters = [] := hempty hholder
  have hnot : x.toNat ∉ ((heard x.toNat l s).claim e.toNat).waiters := by simp [hwaiters]
  have hgranted : claimElement x.toNat e.toNat (heard x.toNat l s)
      = (becomeHolder x.toNat e.toNat (heard x.toNat l s), .granted, (s.elemDef e.toNat).holdLimit) := by
    rw [claimElement_of_mayHold (hmay.heard l)]
    simp [hholder, hwaiters, hslot, hcount]
  have hlists := becomeHolder_waiters hn he hnot
  have hclaim := becomeHolder_claim_same hn he hnot
  refine ⟨_, hexec _ _ _ hgranted, by rw [hclaim], by rw [hclaim]; simpa using hwaiters, ?_, by rw [hclaim]; simp,
    becomeHolder_accumulator hn he _, becomeHolder_showsState hn (by simpa using hd) hnot, ?_, ?_,
    othersUntouched_of_heard (othersUntouched_becomeHolder hn _)⟩
  · rw [hclaim]
    simp [freshHold, tenths]
  · rw [becomeHolder_slot_same hn, hslot]
  · rw [becomeHolder_slot_same hn, hslot]
    simp only [hslot] at hlists
    split <;> next hone =>
      simp only [hlists, hone, if_true, if_false, heard_reads, true_and]
      simp [(hnodup _).not_mem_erase]

end Sys2Proof.Machine
end

section
/-! PROOFS. CLAIM of a held element, RELEASE, and the timers of a claim (R67 to R82). -/

namespace Sys2Proof.Machine

-- A CLAIM of a held element (R74)

theorem othersUntouched_joinList (n e : Nat) (s : State) : othersUntouched n e s (joinList n e s) := by
  refine ⟨fun k hk => ?_, fun k hk => ?_, by simp⟩
  · simp [joinList_claim_other hk]
  · rw [joinList_slot_other hk]

theorem joinList_showsState {e : Nat} {s : State} (hd : s.defined e = true) (n : Nat) :
    showsState e (joinList n e s) := showsState_recompute (by simpa using hd)

/-- The answers of a CLAIM that changes nothing, in the order of their checks (R71 to R75). -/
def ClaimTurnedAway (n e tier : Nat) (s : State) (c : AnswerCode) (detail : Nat) : Prop :=
  ((s.elemDef e).kind = .goal ∧ (s.elemDef e).side.isSome = true ∧ c = .notClaimable ∧ detail = 0)
    ∨ ((s.elemDef e).kind ≠ .goal ∧ (∃ a, (s.elemDef e).side = some a ∧ a ≠ (s.slot n).alliance)
        ∧ c = .wrongSide ∧ detail = 0)
    ∨ (((s.elemDef e).kind ≠ .goal ∨ (s.elemDef e).side = none)
      ∧ (∀ a, (s.elemDef e).side = some a → a = (s.slot n).alliance)
      ∧ ((tier < (s.elemDef e).minTier ∧ c = .tierLow ∧ detail = 0)
        ∨ ((s.elemDef e).minTier ≤ tier
          ∧ ((∃ left, (s.claim e).barred = some { slot := n, left := left } ∧ c = .cooldown
              ∧ detail = max 1 ((left + 99999) / 100000))
            ∨ ((∀ b, (s.claim e).barred = some b → b.slot ≠ n)
              ∧ (((s.claim e).holder = some n ∧ c = .held
                  ∧ detail = ((s.claim e).holdTimer.map fun left => max 1 ((left + 99999) / 100000)).getD 0)
                ∨ ((s.claim e).holder ≠ some n ∧ n ∈ (s.claim e).waiters ∧ c = .queued
                    ∧ detail = (s.claim e).waiters.idxOf n + 1)
                ∨ ((s.claim e).holder ≠ some n ∧ n ∉ (s.claim e).waiters
                    ∧ (2 ≤ (s.slot n).holdCount ∨ ((s.claim e).holder ≠ none ∧ 2 ≤ (s.slot n).waitCount))
                    ∧ c = .limit ∧ detail = 0)
                ∨ ((s.claim e).holder ≠ some n ∧ n ∉ (s.claim e).waiters ∧ (s.claim e).holder ≠ none
                    ∧ (s.slot n).holdCount < 2 ∧ (s.slot n).waitCount < 2 ∧ 4 ≤ (s.claim e).waiters.length
                    ∧ c = .full ∧ detail = 0)))))))

theorem ClaimTurnedAway.heard {n e tier detail : Nat} {c : AnswerCode} {s : State}
    (h : ClaimTurnedAway n e tier s c detail) (l : List UplinkFrame) :
    ClaimTurnedAway n e tier (Machine.heard n l s) c detail := by
  obtain ⟨timer, hslot⟩ := heard_slot_eq n n l s
  simpa only [ClaimTurnedAway, hslot, heard_reads] using h

/-- A CLAIM that is turned away leaves the state as it is (R71 to R75). -/
theorem claimElement_of_turnedAway {n e tier detail : Nat} {c : AnswerCode} {s : State} (hd : s.defined e = true)
    (htier : (s.slot n).tier = some tier) (h : ClaimTurnedAway n e tier s c detail) :
    claimElement n e s = (s, c, detail) := by
  rcases h with ⟨hkind, hside, rfl, rfl⟩ | ⟨hkind, hside, rfl, rfl⟩ | ⟨hkind, hside, h⟩
  · exact claimElement_of_notClaimable hkind hside
  · exact claimElement_of_wrongSide hd (.inl hkind) hside
  rcases h with ⟨hlow, rfl, rfl⟩ | ⟨hmin, ⟨left, hbar, rfl, rfl⟩ | ⟨hbar, h⟩⟩
  · rw [claimElement_of_claimable hd hkind hside, htier, Option.getD_some, if_pos hlow]
  · rw [claimElement_of_claimable hd hkind hside, htier, Option.getD_some, if_neg (Nat.not_lt.mpr hmin), hbar, Option.map_some,
      if_pos rfl, cooldownReported, hbar]
    rfl
  rw [claimElement_of_mayHold ⟨hd, hkind, hside, by simpa [htier] using hmin, hbar⟩]
  rcases h with ⟨hheld, rfl, rfl⟩ | ⟨hother, hwaits, rfl, rfl⟩ | ⟨hother, hnot, hlimit, rfl, rfl⟩
    | ⟨hother, hnot, hsome, hholds, hwaits, hfull, rfl, rfl⟩
  · rw [if_pos hheld]
    rfl
  · rw [if_neg hother, if_pos (by simpa using hwaits)]
    rfl
  · rw [if_neg hother, if_neg (by simpa using hnot)]
    cases hholder : (s.claim e).holder with
    | none => rw [if_pos Option.isNone_none, if_pos (by simpa [hholder] using hlimit)]
    | some h => rw [if_neg (by simp), if_pos (by simpa [hholder] using hlimit)]
  · rw [if_neg hother, if_neg (by simpa using hnot), if_neg (by simpa using hsome), if_neg (by simp; omega),
      if_pos hfull]

/-- Settles O38: the claim's own checks queue the sender or turn it away. -/
theorem claimOfAHeldElementIsQueuedOrTurnedAway : Obligations.ClaimOfAHeldElementIsQueuedOrTurnedAway := by
  refine ⟨fun s u x e tag tier h hs htaken haccepted hopen hkind hside htier hmin hbar hholder hother hnot hholds hwaits
    hroom => ?_, fun s u x e tag tier c detail hs htaken haccepted hopen htier hcase => ?_⟩
  · obtain ⟨l, -, hexec⟩ := exec_claim_of_openTo hs htaken haccepted hopen
    obtain ⟨_, _, hd, _, _, hadmitted, _⟩ := id hopen
    have he := element_range_of_defined hd
    have hn : 1 ≤ x.toNat ∧ x.toNat ≤ 24 := slot_range_of_registered (s := s) (by simp [hadmitted])
    have hmay : MayHold x.toNat e.toNat s := ⟨hd, hkind, hside, by simpa [htier] using hmin, hbar⟩
    have hslot := heard_slot_same hadmitted l
    have hjoined : claimElement x.toNat e.toNat (heard x.toNat l s)
        = (joinList x.toNat e.toNat (heard x.toNat l s), .queued, (s.claim e.toNat).waiters.length + 1) := by
      rw [claimElement_of_mayHold (hmay.heard l)]
      simp [hholder, hother, hnot, hslot, Nat.not_le.mpr hholds, Nat.not_le.mpr hwaits, Nat.not_le.mpr hroom]
    refine ⟨_, hexec _ _ _ hjoined, ?_, by simp, joinList_showsState (by simpa using hd) _, ?_, fun k hk => ?_,
      othersUntouched_of_heard (othersUntouched_joinList _ _ _)⟩
    · rw [joinList_claim_same he]
      simp
    · rw [joinList_slot_same hn, hslot]
      rfl
    · rw [joinList_claim_other hk]
      simp
  · obtain ⟨l, rfl, hexec⟩ := exec_claim_of_openTo hs htaken haccepted hopen
    obtain ⟨_, _, hd, _, _, hadmitted, _⟩ := id hopen
    have hcase : ClaimTurnedAway x.toNat e.toNat tier s c detail := hcase
    have hturned := claimElement_of_turnedAway (s := heard x.toNat l s) (by simpa using hd)
      (by rw [heard_slot_same hadmitted]; exact htier) (hcase.heard l)
    rw [hexec _ _ _ hturned, heard, restartSilence_of_running (s := s.withUplink l) (.inl hadmitted)]
    rfl

-- RELEASE (R77)

theorem exec_release {s u : State} {x e : Byte} {tag : Half} (hs : s.awake)
    (htaken : takenFrom { slot := x.toNat, tag := tag, body := .release e.toNat } s u)
    (haccepted : acceptedFrom x.toNat tag s) : ∃ l, u = s.withUplink l ∧ exec (.release x tag e) s = .next (settle
      (serveRelease { slot := x.toNat, tag := tag, body := .release e.toNat } e.toNat (heard x.toNat l s))) := by
  obtain ⟨l, rfl⟩ := eq_of_takenFrom htaken
  exact ⟨l, rfl, exec_taking (f := { slot := x.toNat, tag := tag, body := .release e.toNat }) hs htaken haccepted
    (by simp)⟩

/-- The answers of a RELEASE in the order of its checks (R77). -/
theorem serveRelease_eq (n e : Nat) (tag : Half) (l : List UplinkFrame) (s : State) :
    serveRelease { slot := n, tag := tag, body := .release e } e (heard n l s) =
      if s.elementKnown e = false then
        queueReply { slot := n, tag := tag, body := .answer 6 e .noSuchElement 0 } (heard n l s)
      else if s.mode e = .withdrawn ∨ s.mode e = .silent then heard n l s
      else if ¬(s.clock.phase = .running ∨ s.clock.phase = .held) then
        queueReply { slot := n, tag := tag, body := .answer 6 e .notNow 0 } (heard n l s)
      else answerFrame { slot := n, tag := tag, body := .release e } (releaseElement n e (heard n l s)).2.1
        (releaseElement n e (heard n l s)).2.2 (releaseElement n e (heard n l s)).1 := by
  have hphase (p : Phase) : (!releasePhase p) = true ↔ ¬(p = .running ∨ p = .held) := by
    cases p <;> simp [releasePhase]
  have hknown : (heard n l s).elementKnown e = s.elementKnown e := by simp [State.elementKnown]
  rw [serveRelease, hknown]
  simp only [Bool.not_eq_true', muteMode_iff, hphase, heard_reads, heard_frame]
  rfl

/-- The handover from the state in which the frame of the former holder was heard is one from the state before. -/
theorem handedOver_of_heard {n e : Nat} {l : List UplinkFrame} {s v : State} (hholder : (s.claim e).holder = some n)
    (hnot : n ∉ (s.claim e).waiters) (h : handedOver e (heard n l s) v) : handedOver e s v := by
  have hother (k : Nat) (hk : k ≠ n) : (heard n l s).slot k = s.slot k := heard_slot_other hk l s
  simp only [handedOver, heard_reads, heard_frame] at h
  obtain ⟨hnew, hwaiters, htimer, hacc, hlight, hothers, hhead, hnone, hslots, hstates, halliances, hclock, htable,
    hacts⟩ := h
  refine ⟨hnew, hwaiters, htimer, hacc, hlight, hothers, fun k hk => ?_, hnone, fun k hk hkhead => ?_, hstates,
    halliances, hclock, htable, hacts⟩
  · have hne : k ≠ n := fun heq => hnot (heq ▸ List.mem_of_head? hk)
    have hholds := hhead k hk
    simpa only [headHolds, hother k hne, heard_reads] using hholds
  · have hne : k ≠ n := fun heq => hk (heq ▸ hholder)
    rw [hslots k hk hkhead, hother k hne]

/-- The release of a hold is its revocation without a bar (R77, R84). -/
theorem endHold_eq_revoke (h e : Nat) (s : State) : endHold e s = revoke h e false s := rfl

theorem othersUntouched_leaveList (n e : Nat) (s : State) : othersUntouched n e s (leaveList n e s) := by
  refine ⟨fun k hk => ?_, fun k hk => leaveList_slot_other hk e s, by simp⟩
  simp [leaveList_claim_other hk]

theorem leaveList_slot_of_waiter {n e : Nat} {s : State} (hn : 1 ≤ n ∧ n ≤ 24) (hw : n ∈ (s.claim e).waiters) :
    (leaveList n e s).slot n = { s.slot n with waitCount := (s.slot n).waitCount - 1 } := by
  rw [leaveList, if_pos (by simpa using hw)]
  simp [countWait, slot_modSlot, hn]

/-- Settles O39, by the checks of R77 in their order; the holder's release is a revocation without a bar. -/
theorem releaseHandsTheElementOver : Obligations.ReleaseHandsTheElementOver := by
  intro s u x e tag hs hlaw htaken haccepted
  obtain ⟨l, rfl, hexec⟩ := exec_release hs htaken haccepted
  rw [serveRelease_eq] at hexec
  have hzero : e = 0 ↔ e.toNat = 0 := by bv_omega
  refine ⟨fun hunknown => ?_, fun hd => ?_⟩
  · rw [hexec, if_pos ((elementKnown_eq_false_iff s _).mpr (by rwa [← hzero]))]
    rfl
  rw [if_neg (by simpa using (elementKnown_iff s _).mpr hd)] at hexec
  refine ⟨fun hmute => ?_, fun hspeaks => ?_⟩
  · rw [hexec, if_pos hmute.symm]
    rfl
  rw [if_neg (by rcases hspeaks with h | h <;> simp [h])] at hexec
  refine ⟨fun hnotRunning hnotHeld => ?_, fun hphase => ?_⟩
  · rw [hexec, if_pos (by simp [hnotRunning, hnotHeld])]
    rfl
  rw [if_neg (not_not.mpr hphase)] at hexec
  have he := element_range_of_defined hd
  obtain ⟨hholds, hwaiting, _, _⟩ := hlaw.1 e.toNat
  refine ⟨fun hholder => ?_, fun hother hwaits => ?_, fun hother hnot => ?_⟩
  · obtain ⟨hadmitted, hnot⟩ := hholds _ hholder
    obtain ⟨hover, hbarred, hcount⟩ := revoke_takes_element (lawfulClaims_heard hlaw x.toNat l).1
      (by simpa using hd) (by simpa using hholder) false
    rw [releaseElement, if_pos (by simpa using hholder), endHold_eq_revoke x.toNat] at hexec
    refine ⟨_, hexec, handedOver_of_heard hholder hnot hover, by simpa using hbarred, ?_, by simp⟩
    rw [hcount, heard_slot_same hadmitted]
  · have hadmitted := hwaiting _ hwaits
    have hn : 1 ≤ x.toNat ∧ x.toNat ≤ 24 := slot_range_of_registered (s := s) (by simp [hadmitted])
    rw [releaseElement, if_neg (by simpa using hother), if_pos (by simpa using hwaits)] at hexec
    have hslot := leaveList_slot_of_waiter (s := heard x.toNat l s) hn (by simpa using hwaits)
    rw [heard_slot_same hadmitted] at hslot
    refine ⟨_, hexec, ?_, by rw [hslot], by rw [hslot], fun k hk => ?_,
      othersUntouched_of_heard (othersUntouched_leaveList _ _ _)⟩
    · rw [leaveList_claim_same]
      simp
    · rw [leaveList_claim_other hk]
      simp
  · rw [releaseElement, if_neg (by simpa using hother), if_neg (by simpa using hnot)] at hexec
    rw [hexec]
    rfl

-- The timers of a claim (R81, R82)

/-- The revocation by the hold limit is the console's with a bar, and sets REVOKED (R81, R84). -/
theorem expireHold_eq_revoke {e h : Nat} {s : State} (hholder : (s.claim e).holder = some h) :
    expireHold e s = revoke h e true (s.setFlag .revoked) := by
  have hdrop : dropHolder e (s.setFlag .revoked) = (dropHolder e s).setFlag .revoked := by
    have hsame : ((s.setFlag .revoked).claim e).holder = some h := hholder
    rw [dropHolder, dropHolder, hsame, hholder]
    rfl
  have hbar : bar h e ((dropHolder e s).setFlag .revoked) = (bar h e (dropHolder e s)).setFlag .revoked := by
    unfold bar
    rw [apply_ite (State.setFlag .revoked)]
    rfl
  rw [expireHold, hholder, revoke_eq_handover, unheld, hdrop, if_pos rfl, hbar]

/-- Settles O40: the hold limit revokes with a bar, and the cooldown's end removes the bar. -/
theorem holdExpiryRevokesAndBars : Obligations.HoldExpiryRevokesAndBars := by
  intro s e h hs hdrive
  refine ⟨fun hlaw hd hholder htimer => ?_, ?_⟩
  · obtain ⟨hover, hbarred, hcount⟩ :=
      revoke_takes_element (s := s.setFlag .revoked) (e := e) hlaw.1 hd hholder true
    have hexec : exec (.holdTimerExpiry e) s = .next (settle (expireHold e s)) :=
      congrArg Host.Outcome.next ((whenAwake_of_awake hs _).trans (if_pos (by simp [hholder, htimer, hdrive])))
    rw [expireHold_eq_revoke hholder] at hexec
    refine ⟨_, hexec, hover, by simpa [tenths] using hbarred, hcount, by simp, by simp⟩
  · exact congrArg Host.Outcome.next ((whenAwake_of_awake hs _).trans (if_pos hdrive))

end Sys2Proof.Machine
end

section
/-! PROOFS. A robot's ACTUATE behind the checks it shares with CLAIM (R101, R102, R126). -/

namespace Sys2Proof.Machine

/-- Checks 6 to 12 of a robot's ACTUATE, as the manual words them (R101). -/
theorem actuateRefusal_eq (n e : Nat) (s : State) : actuateRefusal n e s =
    if (s.elemDef e).kind ≠ .gate ∧ (s.elemDef e).kind ≠ .dispenser then some .notActuable
    else if (s.claim e).holder ≠ some n then some .notHeld
    else if (s.run e).jammed = true then some .jammed
    else if (s.run e).presence = .absent then some .absentElement
    else if (s.act e).state ≠ .none then some .busy
    else if (s.elemDef e).kind = .dispenser ∧ s.quotaLeft e (s.slot n).alliance = 0 then some .quotaSpent
    else if 16 ≤ s.bus.queue.length then some .fieldBusy
    else none :=
  if_congr (by rw [Bool.not_eq_true', actuable_eq_false_iff]) rfl
    (if_congr bne_iff_ne rfl (if_congr Iff.rfl rfl (if_congr Iff.rfl rfl (if_congr bne_iff_ne rfl
      (if_congr (by rw [Bool.and_eq_true, decide_eq_true_eq, decide_eq_true_eq]) rfl (if_congr Iff.rfl rfl rfl))))))

theorem quotaLeft_heard (n e a : Nat) (l : List UplinkFrame) (s : State) :
    (heard n l s).quotaLeft e a = s.quotaLeft e a := by simp [State.quotaLeft]

theorem alliance_heard (n k : Nat) (l : List UplinkFrame) (s : State) :
    ((heard n l s).slot k).alliance = (s.slot k).alliance := by
  obtain ⟨timer, hslot⟩ := heard_slot_eq n k l s
  rw [hslot]

theorem actuateRefusal_heard (n e : Nat) (l : List UplinkFrame) (s : State) :
    actuateRefusal n e (heard n l s) = actuateRefusal n e s := by
  simp only [actuateRefusal, heard_reads, heard_frame, quotaLeft_heard, alliance_heard]

theorem serveActuate_of_openTo {n e a : Nat} {tag : Half} {s : State} (hopen : openTo n e s) (l : List UplinkFrame) :
    serveActuate { slot := n, tag := tag, body := .actuate e a } e a (heard n l s) = match actuateRefusal n e s with
      | some c => queueReply { slot := n, tag := tag, body := .answer 7 e c 0 } (heard n l s)
      | none => queueReply { slot := n, tag := tag, body := .answer 7 e .accepted (acceptActuate n e a (heard n l s)).2 }
          (acceptActuate n e a (heard n l s)).1 := by
  have hgate : gate n e (heard n l s) = none := (gate_heard n e l s).trans (gate_of_openTo hopen)
  rw [serveActuate]
  dsimp only
  rw [hgate]
  dsimp only
  rw [actuateRefusal_heard]
  cases actuateRefusal n e s <;> rfl

/-- An accepted ACTUATE of a DISPENSER is charged, and of a GATE it is not (R102, R126). -/
theorem acceptActuate_eq (n e argument : Nat) (s : State) : acceptActuate n e argument s =
    if (s.elemDef e).kind = .dispenser then
      (queueActuation e (min (max 1 (min 8 argument)) (s.quotaLeft e (s.slot n).alliance)) (.slot n)
        (some { alliance := (s.slot n).alliance,
                count := min (max 1 (min 8 argument)) (s.quotaLeft e (s.slot n).alliance) })
        (chargeQuota e (s.slot n).alliance (min (max 1 (min 8 argument)) (s.quotaLeft e (s.slot n).alliance)) s),
        min (max 1 (min 8 argument)) (s.quotaLeft e (s.slot n).alliance))
    else (queueActuation e (min 3 argument) (.slot n) none s, min 3 argument) := by
  rw [acceptActuate, clampArgument_eq]
  by_cases hkind : (s.elemDef e).kind = .dispenser <;> simp only [hkind, if_true, if_false]

theorem queueActuation_eq (e argument : Nat) (o : Origin) (c : Option Charge) (s : State) :
    queueActuation e argument o c s =
      (s.setQueue (s.bus.queue ++ [{ element := e, arg := .actuate argument, origin := o, charge := c }])).setAct e
        { state := .queued, origin := some o, charge := c, timer := none } := rfl

theorem chargeQuota_eq (e a n : Nat) (s : State) : chargeQuota e a n s = s.setElemScore e
    { s.elemScore e with quotas := set1 (s.elemScore e).quotas a (s.quotaLeft e a - n) } := rfl

/-- Settles O43: the checks in their order, and then the charge and the entry of an accepted ACTUATE. -/
theorem robotActuateIsChargedAndQueued : Obligations.RobotActuateIsChargedAndQueued := by
  intro s u v x e a tag n k q c d hs htaken haccepted hopen hn hk hd hq hv hc
  rw [exec_robotActuate hs htaken haccepted]
  obtain ⟨l, rfl⟩ := eq_of_takenFrom htaken
  obtain ⟨_, _, _, _, _, hadmitted, _⟩ := id hopen
  subst hn hk
  have hheard : heard x.toNat l s = v := by
    rw [heard, restartSilence_of_running (s := s.withUplink l) (.inl hadmitted), hv]
    rfl
  have hdef : v.elemDef e.toNat = d := by simp [← hheard, hd]
  have halliance : (v.slot x.toNat).alliance = (s.slot x.toNat).alliance := by rw [← hheard, alliance_heard]
  have hquota : v.quotaLeft e.toNat (s.slot x.toNat).alliance = q := by rw [← hheard, quotaLeft_heard, hq]
  have hqueue : v.bus.queue = s.bus.queue := by simp [← hheard]
  have hscore : v.elemScore e.toNat = s.elemScore e.toNat := by simp [← hheard]
  change Host.Outcome.next (settle (serveActuate _ _ _ (heard x.toNat l s))) = _
  rw [serveActuate_of_openTo hopen, actuateRefusal_eq, acceptActuate_eq, hheard, hdef, halliance, hquota, ← hd, ← hq]
  clear hv hd hq
  by_cases hkind : d.kind = .dispenser
  · simp only [hkind, if_true] at hc ⊢
    rw [← hc, queueActuation_eq, chargeQuota_eq, hscore, hquota, setElemScore_bus, hqueue]
    split_ifs <;> rfl
  · simp only [hkind, if_false] at hc ⊢
    rw [← hc, queueActuation_eq, hqueue]
    split_ifs <;> rfl

end Sys2Proof.Machine
end

section
/-! PROOFS. What the two arbiters choose, the freed places and the reply queue (R98, R99, R121, R158, R160, R161). -/

namespace Sys2Proof.Machine

-- The lowest element with a property that no number outside 1..32 has

section
variable {p : Nat → Bool} (hout : ∀ e, ¬(1 ≤ e ∧ e ≤ 32) → p e = false)
include hout

theorem lowestElement_eq_some {e : Nat} (he : p e = true) (hlow : ∀ k, k < e → p k = false) :
    elementNumbers.find? p = some e := by
  have hrange : 1 ≤ e ∧ e ≤ 32 := by
    by_contra h
    simp [hout e h] at he
  exact List.find?_range'_eq_some.mpr
    ⟨he, List.mem_range'_1.mpr (by omega), fun k _ hk => by simp [hlow k hk]⟩

theorem lowestElement_eq_none_iff : elementNumbers.find? p = none ↔ ∀ e, p e = false := by
  refine ⟨fun h e => ?_, fun h => List.find?_eq_none.mpr fun e _ => by simp [h e]⟩
  by_cases he : 1 ≤ e ∧ e ≤ 32
  · simpa using List.find?_range'_eq_none.mp h e he.1 (by omega)
  · exact hout e he

end

theorem owed_outside (s : State) (e : Nat) (he : ¬(1 ≤ e ∧ e ≤ 32)) : (s.light e).owed = false := by
  unfold State.light
  rw [at1_outside _ _ _ he]
  rfl

theorem defined_outside (s : State) (e : Nat) (he : ¬(1 ≤ e ∧ e ≤ 32)) : s.defined e = false :=
  Bool.eq_false_iff.mpr fun h => he (element_range_of_defined h)

theorem lowestOwed_eq_some {s : State} {e : Nat} (he : (s.light e).owed = true)
    (hlow : ∀ k, k < e → (s.light k).owed = false) : s.lowestOwed = some e :=
  lowestElement_eq_some (owed_outside s) he hlow

theorem lowestOwed_eq_none_iff (s : State) : s.lowestOwed = none ↔ ∀ e, (s.light e).owed = false :=
  lowestElement_eq_none_iff (owed_outside s)

theorem someDefined_eq_false_iff (s : State) : s.someDefined = false ↔ ∀ e, s.defined e = false := by
  rw [← lowestElement_eq_none_iff (defined_outside s)]
  simp [State.someDefined]

theorem nextPolled_eq_none {s : State} (h : ∀ e, s.defined e = false) : s.nextPolled = none := by
  rw [State.nextPolled, (lowestElement_eq_none_iff (by simp [h])).mpr (by simp [h])]
  exact (lowestElement_eq_none_iff (defined_outside s)).mpr h

/-- The poll rotation goes on to the next defined element above the last polled, or else to the lowest (R99). -/
theorem nextPolled_eq_some {s : State} {e : Nat} (hd : s.defined e = true)
    (h : (s.bus.lastPolled < e ∧ ∀ k, s.bus.lastPolled < k → k < e → s.defined k = false)
      ∨ ((∀ k, s.bus.lastPolled < k → s.defined k = false) ∧ ∀ k, k < e → s.defined k = false)) :
    s.nextPolled = some e := by
  have hout (k : Nat) (hk : ¬(1 ≤ k ∧ k ≤ 32)) : (decide (s.bus.lastPolled < k) && s.defined k) = false := by
    simp [defined_outside s k hk]
  rcases h with ⟨habove, hbetween⟩ | ⟨hnone, hlow⟩
  · rw [State.nextPolled, lowestElement_eq_some hout (e := e) (by simp [habove, hd])
      fun k hk => by simpa using fun hlast => hbetween k hlast hk]
  · rw [State.nextPolled, (lowestElement_eq_none_iff hout).mpr fun k => by simpa using hnone k]
    exact lowestElement_eq_some (defined_outside s) hd hlow

-- The transaction arbiter (R98, R99)

theorem busArbiter_of_free {s : State} (h : s.bus.current = none) : busArbiter s = chooseTransaction s :=
  if_neg (by simp [h])

/-- The state in which the head of the queue has gone out, before its place is handed on (R98). -/
def headSent (x : Entry) (rest : List Entry) (s : State) : State := sendRequest (entryRequest x)
  { s with bus := { s.bus with queue := rest, commandCount := min 4 (s.bus.commandCount + 1) } }

theorem busArbiter_of_head {s : State} {x : Entry} {rest : List Entry} (hfree : s.bus.current = none)
    (hhalt : s.bus.haltPending = false) (hqueue : s.bus.queue = x :: rest)
    (hturn : s.bus.commandCount < 4 ∨ ∀ e, s.defined e = false) :
    busArbiter s = freedPlace (headSent x rest s) := by
  have hsend : (decide (s.bus.commandCount < 4) || !s.someDefined) = true := by
    rcases hturn with h | h
    · simp [h]
    · simp [(someDefined_eq_false_iff s).mpr h]
  rw [busArbiter_of_free hfree, chooseTransaction, hhalt, hqueue]
  dsimp only
  rw [hsend]
  rfl

theorem busArbiter_of_poll {s : State} {e : Nat} (hfree : s.bus.current = none) (hhalt : s.bus.haltPending = false)
    (hturn : s.bus.queue = [] ∨ 4 ≤ s.bus.commandCount) (hd : s.defined e = true) (hnext : s.nextPolled = some e) :
    busArbiter s = sendRequest (.poll e) { s with bus := { s.bus with commandCount := 0, lastPolled := e } } := by
  rw [busArbiter_of_free hfree, chooseTransaction, hhalt, hnext]
  cases hqueue : s.bus.queue with
  | nil => rfl
  | cons x rest =>
    have hpoll : (decide (s.bus.commandCount < 4) || !s.someDefined) = false := by
      have hcount : 4 ≤ s.bus.commandCount := hturn.resolve_left (by simp [hqueue])
      have hsome : s.someDefined = true := by
        by_contra hnone
        simp [(someDefined_eq_false_iff s).mp (by simpa using hnone) e] at hd
      simp [hcount, hsome]
    dsimp only
    rw [hpoll]
    rfl

theorem busArbiter_of_nothing {s : State} (hhalt : s.bus.haltPending = false) (hqueue : s.bus.queue = [])
    (hd : ∀ e, s.defined e = false) : busArbiter s = s := by
  unfold busArbiter
  split
  · rfl
  · rw [chooseTransaction, hhalt, hqueue, nextPolled_eq_none hd]
    rfl

-- A freed place (R121)

theorem servePlace_of_owed {s : State} {e : Nat} (howed : (s.light e).owed = true)
    (hlow : ∀ k, k < e → (s.light k).owed = false) (hroom : s.bus.queue.length < 16) :
    servePlace s = (s.setQueue (s.bus.queue ++ [lightEntry e (s.light e).computed])).setLight e
      { s.light e with issued := some (s.light e).computed, owed := false } := by
  rw [servePlace, lowestOwed_eq_some howed hlow]
  exact if_pos hroom

theorem servePlace_of_none {s : State} (h : (∀ e, (s.light e).owed = false) ∨ 16 ≤ s.bus.queue.length) :
    servePlace s = s := by
  unfold servePlace
  cases hlowest : s.lowestOwed with
  | none => rfl
  | some e =>
    have hfull : 16 ≤ s.bus.queue.length := h.resolve_left fun hnone => by
      simp [(lowestOwed_eq_none_iff s).mpr hnone] at hlowest
    exact if_neg (Nat.not_lt.mpr hfull)

theorem freedPlace_of_none {s : State} (h : ∀ e, (s.light e).owed = false) : freedPlace s = s :=
  if_pos (by simp [(lowestOwed_eq_none_iff s).mpr h])

/-- One more choice of the free value has been used (log entry 20). -/
def State.met (s : State) : State := { s with meetings := s.meetings + 1 }

theorem freedPlace_of_owed {s : State} {e : Nat} (howed : (s.light e).owed = true)
    (hlow : ∀ k, k < e → (s.light k).owed = false) : freedPlace s =
      if Config.otherRequestFirst s.meetings = true then
        { s with bus := { s.bus with freed := s.bus.freed + 1 }, meetings := s.meetings + 1 }
      else servePlace s.met := by
  rw [freedPlace, lowestOwed_eq_some howed hlow]
  rfl

/-- What the departure of the queue's head leaves, whatever becomes of its place (R98). -/
theorem freedPlace_headSent (x : Entry) (rest : List Entry) (s : State) :
    (freedPlace (headSent x rest s)).bus.current = some { request := entryRequest x, window := none }
      ∧ (freedPlace (headSent x rest s)).bus.commandCount = min 4 (s.bus.commandCount + 1)
      ∧ (freedPlace (headSent x rest s)).bus.lastPolled = s.bus.lastPolled
      ∧ (freedPlace (headSent x rest s)).bus.acts = s.bus.acts := by
  simp [headSent, sendRequest]

theorem step_of_freed {s : State} (hreset : s.resetAsserted = false) (hpending : s.pending = [])
    (hfreed : s.bus.freed ≠ 0) : step s = .next (settle s) := by
  have hwork : (s.busHasWork || s.portHasWork) = true := by simp [State.busHasWork, hfreed]
  rw [step, hpending, idle, hreset, hwork]
  rfl

/-- The place of the departed head, where a light is owed and the queue behind it has room (R121). -/
theorem freedPlace_headSent_of_owed {s : State} {e : Nat} (x : Entry) {rest : List Entry}
    (howed : (s.light e).owed = true) (hlow : ∀ k, k < e → (s.light k).owed = false) (hroom : rest.length < 16) :
    (freedPlace (headSent x rest s)).meetings = s.meetings + 1
      ∧ if Config.otherRequestFirst s.meetings = true then
          (freedPlace (headSent x rest s)).bus.queue = rest
            ∧ (freedPlace (headSent x rest s)).bus.freed = s.bus.freed + 1
            ∧ (freedPlace (headSent x rest s)).lights = s.lights
        else (freedPlace (headSent x rest s)).bus.queue = rest ++ [lightEntry e (s.light e).computed]
          ∧ (freedPlace (headSent x rest s)).bus.freed = s.bus.freed
          ∧ ((freedPlace (headSent x rest s)).light e).issued = some (s.light e).computed
          ∧ ((freedPlace (headSent x rest s)).light e).owed = false := by
  have he : 1 ≤ e ∧ e ≤ 32 := by
    by_contra hout
    simp [owed_outside s e hout] at howed
  have hplace := freedPlace_of_owed (s := headSent x rest s) howed hlow
  by_cases hother : Config.otherRequestFirst s.meetings = true
  · rw [hplace.trans (if_pos hother), if_pos hother]
    exact ⟨rfl, rfl, rfl, rfl⟩
  · rw [hplace.trans (if_neg hother), if_neg hother,
      servePlace_of_owed (s := (headSent x rest s).met) howed hlow hroom]
    refine ⟨rfl, rfl, rfl, ?_⟩
    simp only [light_setLight, he, and_self, if_true, and_true]
    rfl

-- The port arbiter (R160, R161)

theorem portArbiter_of_reply {s : State} {f : DownFrame} {rest : List DownFrame} (hport : s.link.port = none)
    (hdue : s.link.beaconDue = false) (hreplies : s.link.replies = f :: rest) :
    portArbiter s = { s with link := { s.link with port := some f, replies := rest } } := by
  rw [portArbiter, hport, hdue, hreplies]
  rfl

theorem portArbiter_of_nothing {s : State} (hdue : s.link.beaconDue = false) (hreplies : s.link.replies = []) :
    portArbiter s = s := by
  rw [portArbiter, hdue, hreplies]
  split <;> rfl

/-- Settles O44, clause by clause. -/
theorem arbitersChooseInTheirOrder : Obligations.ArbitersChooseInTheirOrder := by
  intro s
  refine ⟨fun hbusy => if_pos hbusy, fun hfree hhalt => ?_, fun x rest hfree hhalt hqueue hturn => ?_, rfl,
    fun _ => rfl, rfl, servePlace_of_none, fun e howed hlow hroom => servePlace_of_owed howed hlow hroom,
    step_of_freed, fun e hfree hhalt hturn hd hnext => ?_, fun hbusy => if_pos hbusy, fun hfree hdue => ?_,
    fun f rest => portArbiter_of_reply, busArbiter_of_nothing, portArbiter_of_nothing, fun _ => rfl⟩
  · rw [busArbiter_of_free hfree, chooseTransaction, hhalt]
    rfl
  · obtain ⟨hcurrent, hcount, hlast, hacts⟩ := freedPlace_headSent x rest s
    refine ⟨_, busArbiter_of_head hfree hhalt hqueue hturn, by rw [hcurrent]; rfl,
      ⟨entryRequest x, by rw [hcurrent]; rfl, rfl⟩, hcount, hlast, hacts, fun hnone => ?_,
      fun e howed hlow hroom => freedPlace_headSent_of_owed x howed hlow hroom⟩
    rw [freedPlace_of_none (s := headSent x rest s) hnone]
    exact ⟨rfl, rfl, rfl⟩
  · exact busArbiter_of_poll hfree hhalt hturn hd (nextPolled_eq_some hd hnext)
  · exact portArbiter_of_beaconDue hfree hdue

end Sys2Proof.Machine
end

section
/-! PROOFS. Frames and bits read back as they were sent (R154, R171, R190 to R192). -/

namespace Sys2Proof.Machine

-- Frames and their CRC (R190, R191)

theorem openFrame_closeFrame (lead : Byte) (covered : List Byte) :
    openFrame lead (closeFrame lead covered) = some covered := by
  simp [openFrame, closeFrame, twoBytes]

-- Fields of more than one byte, least significant first (R190)

theorem halfAt_twoBytes (x : Half) : byte (x.toNat / 256) ++ byte x.toNat = x := by
  apply BitVec.eq_of_toNat_eq
  have hx := x.isLt
  simp only [byte, BitVec.toNat_append, BitVec.toNat_ofNat]
  rw [← Nat.shiftLeft_add_eq_or_of_lt (by omega), Nat.shiftLeft_eq]
  omega

theorem wordAt_fourBytes (x : Word) (rest : List Byte) : wordAt (fourBytes x.toNat ++ rest) 0 = x := by
  apply BitVec.eq_of_toNat_eq
  have hx := x.isLt
  simp only [wordAt, byteAt, fourBytes, List.cons_append, List.getD_cons_succ, List.getD_cons_zero, byte,
    BitVec.toNat_append, BitVec.toNat_ofNat]
  rw [← Nat.shiftLeft_add_eq_or_of_lt (by omega), ← Nat.shiftLeft_add_eq_or_of_lt (by omega),
    ← Nat.shiftLeft_add_eq_or_of_lt (by omega)]
  simp only [Nat.shiftLeft_eq]
  omega

-- Uplink frames (R154, R192)

theorem uplinkKind_le (b : UplinkBody) : 1 ≤ uplinkKind b ∧ uplinkKind b ≤ 9 := by cases b <;> simp [uplinkKind]

/-- The kind and the payload of a body name that body (R192). -/
theorem uplinkBodyOf_payload {f : UplinkFrame} (hok : frameOk f = true) (hfits : bodyFits f.body = true) :
    uplinkBodyOf (uplinkKind f.body) (uplinkPayload f.body) = some f.body := by
  obtain ⟨slot, tag, body⟩ := f
  cases body with
  | hello kit tiers =>
    have hkit := wordAt_fourBytes kit [tiers]
    simpa [uplinkBodyOf, uplinkKind, uplinkPayload, fourBytes, byteAt] using hkit
  | presence | bye => rfl
  | mailPut bytes =>
    obtain ⟨hlow, hhigh⟩ : 1 ≤ bytes.length ∧ bytes.length ≤ 48 := by simp_all [frameOk]
    simp [uplinkBodyOf, uplinkKind, uplinkPayload, hlow, hhigh]
  | actuate e argument =>
    obtain ⟨he, ha⟩ : e < 256 ∧ argument < 256 := by simpa [bodyFits] using hfits
    simp [uplinkBodyOf, uplinkKind, uplinkPayload, byteAt, toNat_byte_of_lt he, toNat_byte_of_lt ha]
  | confirm n | claim n | release n | mailRead n =>
    have hn : n < 256 := by simpa [bodyFits] using hfits
    simp [uplinkBodyOf, uplinkKind, uplinkPayload, byteAt, toNat_byte_of_lt hn]

theorem uplinkPayload_length_le {f : UplinkFrame} (hok : frameOk f = true) : (uplinkPayload f.body).length ≤ 80 := by
  obtain ⟨slot, tag, body⟩ := f
  cases body with
  | mailPut bytes =>
    obtain ⟨_, hhigh⟩ : 1 ≤ bytes.length ∧ bytes.length ≤ 48 := by simp_all [frameOk]
    exact hhigh.trans (by decide)
  | hello kit tiers | actuate e argument | confirm n | claim n | release n | mailRead n | presence | bye =>
    simp [uplinkPayload, fourBytes]

theorem uplinkFrameOf_uplinkBytes {f : UplinkFrame} (hok : frameOk f = true) (hfits : bodyFits f.body = true) :
    uplinkFrameOf (uplinkBytes f) = some f := by
  have hlength := uplinkPayload_length_le hok
  have hslot : f.slot ≤ 24 := by simp_all [frameOk]
  have hkind := uplinkKind_le f.body
  have htag := halfAt_twoBytes f.tag
  rw [uplinkFrameOf, uplinkBytes, openFrame_closeFrame]
  simp [byteAt, twoBytes, halfAt, toNat_byte_of_lt (n := (uplinkPayload f.body).length) (by omega),
    toNat_byte_of_lt (n := f.slot) (by omega), toNat_byte_of_lt (n := uplinkKind f.body) (by omega),
    uplinkBodyOf_payload hok hfits, Nat.not_lt.mpr hlength, Nat.not_lt.mpr hslot, htag]

-- Bits on a line (R190)

theorem testBit_bitsValue (l : List Bool) (i : Nat) : (bitsValue l).testBit i = l.getD i false := by
  induction l generalizing i with
  | nil => simp [bitsValue]
  | cons b rest ih =>
    cases i with
    | zero => cases b <;> simp [bitsValue, Nat.testBit_zero]
    | succ i =>
      have hhalf : (b.toNat + 2 * bitsValue rest) / 2 = bitsValue rest := by cases b <;> simp; omega
      rw [bitsValue, Nat.testBit_succ, hhalf, ih, List.getD_cons_succ]

/-- Eight bits that a byte sent are that byte again (R190). -/
theorem byte_bitsValue_byteBits (b : Byte) : byte (bitsValue (byteBits b)) = b := by
  apply BitVec.eq_of_getLsbD_eq
  intro i hi
  rw [byte, BitVec.getLsbD_ofNat, testBit_bitsValue]
  interval_cases i <;> simp [byteBits]

theorem lineBytes_lineBits (bytes : List Byte) : lineBytes (lineBits bytes) = bytes := by
  induction bytes with
  | nil => rfl
  | cons b rest ih =>
    have hb := byte_bitsValue_byteBits b
    change byte (bitsValue (byteBits b)) :: lineBytes (lineBits rest) = _
    rw [hb, ih]

theorem byteBits_getElem? (b : Byte) {i : Nat} (hi : i < 8) : (byteBits b)[i]? = some (b.getLsbD i) := by
  interval_cases i <;> rfl

/-- Settles O51: the CRC closes a frame that opens again, and the bits of its bytes are its bytes. -/
theorem uplinkFramesReadBackAsSent : Obligations.UplinkFramesReadBackAsSent := by
  refine ⟨fun f hok hfits => ⟨uplinkFrameOf_uplinkBytes hok hfits, ?_⟩, fun b rest i => ?_,
    fun f => lineBytes_lineBits _, fun q => lineBytes_lineBits _⟩
  · rw [lineBytes_lineBits]
    exact uplinkFrameOf_uplinkBytes hok hfits
  · have hb := byte_bitsValue_byteBits b
    refine ⟨fun hi => ⟨?_, ?_⟩, rfl, lineBytes_lineBits _, rfl, rfl, rfl, ?_, rfl⟩
    · exact (List.getElem?_append_left (by simpa [byteBits] using hi)).trans (byteBits_getElem? b hi)
    · exact (List.getElem?_append_left (Nat.succ_lt_succ hi)).trans (byteBits_getElem? b hi)
    · exact congrArg (fun x => some (Instr.consoleByte x)) hb

end Sys2Proof.Machine
end

section
/-! PROOFS. Arrivals at the uplink queue, the downlink port and the beacon (R153, R154, R160 to R164). -/

namespace Sys2Proof.Machine

-- The downlink port (R153, R160, R161)

/-- The port has been freed (R153). -/
def State.withPortFree (s : State) : State := { s with link := { s.link with port := none } }

theorem exec_downlinkFrameSent {s : State} (hs : s.awake) (hport : s.link.port.isSome = true) :
    exec .downlinkFrameSent s = .next (portArbiter s.withPortFree) :=
  congrArg Host.Outcome.next ((whenAwake_of_awake hs _).trans (if_pos hport))

/-- The beacon interval has run out (R161). -/
def State.withBeaconDue (s : State) : State := { s with link := { s.link with beaconTimer := none, beaconDue := true } }

theorem exec_beaconIntervalExpiry {s : State} (hs : s.awake) (htimer : s.link.beaconTimer.isSome = true) :
    exec .beaconIntervalExpiry s = .next (portArbiter s.withBeaconDue) :=
  congrArg Host.Outcome.next ((whenAwake_of_awake hs _).trans (if_pos htimer))

-- The beacon (R162 to R164)

theorem numbered_getElem? {α : Type} (f : Nat → α) {len n : Nat} (hn : 1 ≤ n ∧ n ≤ len) :
    ((List.range' 1 len).map f)[n - 1]? = some (f n) := by
  have hget : 1 + (n - 1) = n := by omega
  simp [hget, show n - 1 < len by omega]

theorem beacon_permit_iff (s : State) {n : Nat} (hn : 1 ≤ n ∧ n ≤ 24) :
    s.beacon.permits[n - 1]? = some true ↔ (s.slot n).state = .admitted ∧ s.driveTime = true := by
  have hpermit : s.beacon.permits[n - 1]? = some (s.drivePermit n) := numbered_getElem? s.drivePermit hn
  simp [hpermit, State.drivePermit]

theorem beacon_element (s : State) {e : Nat} (he : 1 ≤ e ∧ e ≤ 32) : s.beacon.elements[e - 1]? = some (
    if s.defined e = true then
      { holder := (s.claim e).holder.getD 0, waiting := (s.claim e).waiters.length, act := (s.act e).state,
        mode := if s.mode e = .opened ∧ (s.run e).withdrawPending = true then .refusing else s.mode e }
    else { holder := 0, waiting := 0, mode := .withdrawn, act := .none }) := by
  have helement : s.beacon.elements[e - 1]? = some (s.elementStatus e) := numbered_getElem? s.elementStatus he
  rw [helement, State.elementStatus]
  by_cases hd : s.defined e = true
  · simp [hd, orZero, State.modeShown, State.modeReported]
  · simp [hd, undefinedStatus]

/-- Settles O52, by the checks of an arrival and the choices of the port arbiter. -/
theorem uplinkArrivalAndDownlinkPort : Obligations.UplinkArrivalAndDownlinkPort := by
  refine ⟨fun s hs => ⟨fun f hok hfits => ?_, fun bytes hbytes => ?_⟩, fun s b hs hb => ?_⟩
  · refine congrArg Host.Outcome.next ((whenAwake_of_awake hs _).trans ?_)
    rw [arrive, uplinkFrameOf_uplinkBytes hok hfits]
    rfl
  · refine congrArg Host.Outcome.next ((whenAwake_of_awake hs _).trans ?_)
    rw [arrive, hbytes]
  subst hb
  refine ⟨fun hport hdue => ?_, fun f rest hport hdue hreplies => ?_, fun hport hdue hreplies => ?_, fun htimer => ?_,
    rfl, rfl, rfl, by simp [State.beacon, slotNumbers], by simp [State.beacon, elementNumbers],
    fun n h1 h24 => beacon_permit_iff s ⟨h1, h24⟩, fun e h1 h32 => beacon_element s ⟨h1, h32⟩⟩
  · rw [exec_downlinkFrameSent hs hport, portArbiter_of_beaconDue (u := s.withPortFree) rfl hdue]
    rfl
  · rw [exec_downlinkFrameSent hs hport, portArbiter_of_reply (s := s.withPortFree) rfl hdue hreplies]
    rfl
  · rw [exec_downlinkFrameSent hs hport, portArbiter_of_nothing (s := s.withPortFree) hdue hreplies]
    rfl
  · rw [exec_beaconIntervalExpiry hs htimer]
    by_cases hport : s.link.port.isSome = true
    · rw [if_pos hport, portArbiter, if_pos (by exact hport)]
      rfl
    · rw [if_neg hport, portArbiter_of_beaconDue (u := s.withBeaconDue) (by simpa [State.withBeaconDue] using hport) rfl]
      rfl

end Sys2Proof.Machine
end

section
/-! PROOFS. The answers of the field bus: how their bytes are read, and the transaction that they end (R59, R94, R95, R191). -/

namespace Sys2Proof.Machine

-- Flags (R183)

theorem flagNumber_lt (f : Flag) : flagNumber f < 22 := by cases f <;> decide

/-- A flag is set by its own cause alone (R183). -/
theorem flagSet_setFlag (f g : Flag) (s : State) :
    (s.setFlag f).flagSet g = (s.flagSet g || decide (flagNumber f = flagNumber g)) := by
  have hbit : (flagBit f).getLsbD (flagNumber g) = decide (flagNumber f = flagNumber g) := by
    have hlt := flagNumber_lt f
    rw [flagBit, ← BitVec.twoPow_eq, BitVec.getLsbD_twoPow]
    simp [hlt]
  rw [State.flagSet, State.setFlag, BitVec.getLsbD_or, hbit, State.flagSet]

theorem flagSet_setFlag_other {f g : Flag} (h : flagNumber f ≠ flagNumber g) (s : State) :
    (s.setFlag f).flagSet g = s.flagSet g := by simp [flagSet_setFlag, h]

theorem flagSet_setFlagIf (c : Bool) (f g : Flag) (s : State) :
    (s.setFlagIf c f).flagSet g = (s.flagSet g || (c && decide (flagNumber f = flagNumber g))) := by
  cases c
  · simp [State.setFlagIf]
  · simpa [State.setFlagIf] using flagSet_setFlag f g s

-- The bytes of an answer (R94, R191)

theorem busAnswerOf_answerBytes {e : Nat} (he : 1 ≤ e ∧ e ≤ 32) (kind : Nat) {p : List Byte} (hp : p.length ≤ 8) :
    busAnswerOf e (answerBytes e kind p) = some ((byte kind).toNat, p) := by
  rw [busAnswerOf, answerBytes, openFrame_closeFrame]
  simp [byteAt, toNat_byte_of_lt (n := e) (by omega), toNat_byte_of_lt (n := p.length) (by omega), hp]

section
variable {e : Nat} (he : 1 ≤ e ∧ e ≤ 32)
include he

theorem goodAnswerOf_poll (total : Nat) {status position : Nat} (hstatus : status ≤ 4) (hposition : position ≤ 3) :
    goodAnswerOf (.poll e) (answerBytes e 0x81 [byte total, byte status, byte position])
      = some (.poll (byte total).toNat status position) := by
  unfold goodAnswerOf
  rw [show busAddress (.poll e) = e from rfl, busAnswerOf_answerBytes he _ (by simp)]
  simp [byteAt, toNat_byte_of_lt (n := status) (by omega), toNat_byte_of_lt (n := position) (by omega),
    toNat_byte_of_lt (n := 129) (by omega), hstatus, hposition]

theorem goodAnswerOf_accept (a : Nat) :
    goodAnswerOf (.actuate e a) (answerBytes e 0x82 [0]) = some (.actuate true) := by
  unfold goodAnswerOf
  rw [show busAddress (.actuate e a) = e from rfl, busAnswerOf_answerBytes he _ (by simp)]
  rfl

theorem goodAnswerOf_refuse (a : Nat) :
    goodAnswerOf (.actuate e a) (answerBytes e 0x82 [1]) = some (.actuate false) := by
  unfold goodAnswerOf
  rw [show busAddress (.actuate e a) = e from rfl, busAnswerOf_answerBytes he _ (by simp)]
  rfl

theorem goodAnswerOf_light (d : Display) : goodAnswerOf (.light e d) (answerBytes e 0x83 [0]) = some .light := by
  unfold goodAnswerOf
  rw [show busAddress (.light e d) = e from rfl, busAnswerOf_answerBytes he _ (by simp)]
  rfl

theorem goodAnswerOf_raw (kind : Nat) (request : List Byte) {answer : List Byte} (hlength : answer.length ≤ 8) :
    goodAnswerOf (.raw e request) (answerBytes e kind answer) = some (.raw answer) := by
  unfold goodAnswerOf
  rw [show busAddress (.raw e request) = e from rfl, busAnswerOf_answerBytes he _ hlength]

end

-- The transaction that an answer ends (R95)

/-- The bus is free again (R95). -/
def State.withBusFree (s : State) : State := { s with bus := { s.bus with current := none } }

section
variable {s : State} {q : BusRequest} {left : Nat} (hs : s.awake)
    (hcurrent : s.bus.current = some { request := q, window := some left })
include hs hcurrent

theorem exec_busAnswer_of_waiting (bytes : List Byte) : exec (.busAnswer bytes) s = .next (settle
    (actOnResult q (classify q bytes) (reportResult (busAddress q) (classify q bytes) s.withBusFree))) := by
  refine congrArg Host.Outcome.next ((whenAwake_of_awake hs _).trans ?_)
  rw [takeResult, hcurrent]
  rfl

theorem exec_busAnswer_of_good {bytes : List Byte} {a : AnswerData} (hgood : goodAnswerOf q bytes = some a) :
    exec (.busAnswer bytes) s = .next (settle
      (actOnResult q (.good a) (reportResult (busAddress q) (.good a) s.withBusFree))) := by
  have hclass : classify q bytes = .good a := by rw [classify, hgood]
  rw [exec_busAnswer_of_waiting hs hcurrent, hclass]

theorem exec_busAnswer_of_bad {bytes : List Byte} (hbad : goodAnswerOf q bytes = none) :
    exec (.busAnswer bytes) s = .next (settle
      (actOnResult q .failedCheck (reportResult (busAddress q) .failedCheck s.withBusFree))) := by
  have hclass : classify q bytes = .failedCheck := by rw [classify, hbad]
  rw [exec_busAnswer_of_waiting hs hcurrent, hclass]

theorem exec_answerWindowExpiry_of_waiting : exec .answerWindowExpiry s = .next (settle
    (actOnResult q .noAnswer (reportResult (busAddress q) .noAnswer s.withBusFree))) := by
  refine congrArg Host.Outcome.next ((whenAwake_of_awake hs _).trans ?_)
  rw [takeResult, hcurrent]
  rfl

end

-- A good answer at the Element Table (R59)

/-- A run-time part behind a good answer (R59). -/
def ElementRun.answered (r : ElementRun) : ElementRun := { r with missCount := 0, presence := .present }

/-- The state in which a good answer of a defined element has been reported, in front of what it brings about (R95). -/
def answered (e : Nat) (s : State) : State := goodAnswer e s.withBusFree

theorem reportResult_of_good {e : Nat} {s : State} (hd : s.defined e = true) (a : AnswerData) :
    reportResult e (.good a) s.withBusFree = answered e s := if_pos hd

@[simp] theorem answered_frame (e : Nat) (s : State) :
    (answered e s).clock = s.clock ∧ (answered e s).roster = s.roster ∧ (answered e s).table.defs = s.table.defs
      ∧ (answered e s).table.capture = s.table.capture ∧ (answered e s).table.repeated = s.table.repeated
      ∧ (answered e s).claims = s.claims ∧ (answered e s).bus = { s.bus with current := none }
      ∧ (answered e s).lights = s.lights ∧ (answered e s).score = s.score ∧ (answered e s).settings = s.settings
      ∧ (answered e s).uptime = s.uptime := by
  simp [answered, State.withBusFree]

@[simp] theorem answered_reads (e k : Nat) (s : State) :
    (answered e s).slot k = s.slot k ∧ (answered e s).elemDef k = s.elemDef k ∧ (answered e s).claim k = s.claim k
      ∧ (answered e s).light k = s.light k ∧ (answered e s).act k = s.act k
      ∧ (answered e s).elemScore k = s.elemScore k ∧ (answered e s).alliance k = s.alliance k
      ∧ (answered e s).defined k = s.defined k := by
  simp only [answered, goodAnswer_frame]
  exact ⟨rfl, rfl, rfl, rfl, rfl, rfl, rfl, rfl⟩

theorem answered_run (e k : Nat) (s : State) :
    (answered e s).run k = if k = e ∧ 1 ≤ e ∧ e ≤ 32 then (s.run e).answered else s.run k := by
  simp only [answered, goodAnswer, setFlagIf_reads, run_setRun]
  rfl

theorem answered_flagSet (e : Nat) (f : Flag) (s : State) : (answered e s).flagSet f
    = (s.flagSet f || ((s.run e).presence != .present && decide (flagNumber .presence = flagNumber f))) :=
  flagSet_setFlagIf _ _ _ _

end Sys2Proof.Machine
end

section
/-! PROOFS. Objects that arrive at a goal, tower seconds, and the credits that they bring (R118, R124, R130 to R137). -/

namespace Sys2Proof.Machine

-- The record of an alliance (R124)

/-- An alliance record behind an addition: what the score cannot take goes to the clamp loss (R124). -/
def AllianceRecord.plus (n : Nat) (r : AllianceRecord) : AllianceRecord :=
  { r with score := if r.score + n ≤ 65535 then r.score + n else 65535,
           clampLoss := if r.score + n ≤ 65535 then r.clampLoss
             else min 65535 (r.clampLoss + (r.score + n - 65535)) }

theorem addPoints_alliance {a : Nat} (ha : 1 ≤ a ∧ a ≤ 4) (n k : Nat) (s : State) :
    (addPoints a n s).alliance k = if k = a then (s.alliance a).plus n else s.alliance k := by
  by_cases hroom : (s.alliance a).score + n ≤ 65535
  · rw [addPoints_of_le hroom, alliance_setAlliance]
    simp [ha, AllianceRecord.plus, hroom]
  · rw [addPoints_of_gt hroom]
    simp [alliance_setAlliance, ha, AllianceRecord.plus, hroom]

theorem addPoints_attention (a n : Nat) (s : State) : (addPoints a n s).attention
    = if (s.alliance a).score + n ≤ 65535 then s.attention else (s.setFlag .scoreClamp).attention := by
  by_cases hroom : (s.alliance a).score + n ≤ 65535
  · rw [addPoints_of_le hroom, if_pos hroom]
    rfl
  · rw [addPoints_of_gt hroom, if_neg hroom]
    rfl

-- The pulse of a credit (R118)

theorem startPulse_light {e : Nat} (he : 1 ≤ e ∧ e ≤ 32) (a : Nat) (s : State) :
    ((startPulse e a s).light e).pulse = some (millis s.settings.pulseTime)
      ∧ ((startPulse e a s).light e).lastCredited = some a := by
  obtain ⟨hpulse, hcredited⟩ := recompute_light_pulse e e
    (s.setLight e { s.light e with lastCredited := some a, pulse := some (millis s.settings.pulseTime) })
  rw [startPulse, hpulse, hcredited, light_setLight, if_pos ⟨rfl, he⟩]
  exact ⟨rfl, rfl⟩

theorem startPulse_showsState {e : Nat} {s : State} (hd : s.defined e = true) (a : Nat) :
    showsState e (startPulse e a s) := showsState_recompute (by simpa using hd)

-- The arrival of objects (R130 to R132)

/-- A goal's total has become the baseline of the next arrival count (R130). -/
def State.withBaseline (e total : Nat) (s : State) : State :=
  s.setElemScore e { s.elemScore e with baseline := some total }

theorem withBaseline_elemScore {e : Nat} (he : 1 ≤ e ∧ e ≤ 32) (total k : Nat) (s : State) :
    (s.withBaseline e total).elemScore k
      = if k = e then { s.elemScore e with baseline := some total } else s.elemScore k := by
  rw [State.withBaseline, elemScore_setElemScore]
  simp [he]

theorem arrivalCount_eq_zero_iff {total b : Nat} (htotal : total < 256) (hb : b < 256) :
    arrivalCount total b = 0 ↔ total = b := by
  unfold arrivalCount
  omega

/-- Behind an UNSET baseline or with an unchanged total, nothing is counted (R130). -/
theorem goalTotal_of_uncounted {e total : Nat} {s : State} (htotal : total < 256)
    (h : (s.elemScore e).baseline = none ∨ (s.elemScore e).baseline = some total) :
    goalTotal e total s = s.withBaseline e total := by
  rw [goalTotal]
  rcases h with h | h
  · rw [h]
    rfl
  · rw [h]
    exact if_pos ((arrivalCount_eq_zero_iff htotal htotal).mpr rfl)

theorem goalTotal_of_arrival {e total b : Nat} {s : State} (htotal : total < 256) (hb : b < 256)
    (hbaseline : (s.elemScore e).baseline = some b) (hne : total ≠ b) :
    goalTotal e total s = countObjects e (arrivalCount total b) (s.withBaseline e total) := by
  rw [goalTotal, hbaseline]
  exact if_neg (mt (arrivalCount_eq_zero_iff htotal hb).mp hne)

theorem creditWindow_iff (p : Phase) : creditWindow p = true ↔ p = .running ∨ p = .held ∨ p = .grace := by
  cases p <;> simp [creditWindow]

section
variable {s : State} {e : Nat}

theorem countObjects_of_closed (n : Nat) (h : creditWindow s.clock.phase = false ∨ (s.run e).withdrawn = true) :
    countObjects e n s = s.setElemScore e
      { s.elemScore e with uncounted := min 65535 ((s.elemScore e).uncounted + n) } := by
  rw [countObjects, if_pos (by rcases h with h | h <;> simp [h])]
  rfl

variable (hphase : creditWindow s.clock.phase = true) (hw : (s.run e).withdrawn = false)
include hphase hw

theorem countObjects_of_open (n : Nat) : countObjects e n s = match (s.elemDef e).side, s.holderAlliance e with
    | some a, _ => creditGoal e a 8 n s
    | none, some a => creditGoal e a (s.elemDef e).controlBonus n s
    | none, none => s.setElemScore e
      { s.elemScore e with unattributed := min 65535 ((s.elemScore e).unattributed + n) } := by
  rw [countObjects, if_neg (by simp [hphase, hw])]
  rfl

/-- The alliance that a goal's objects go to, and the multiplier in eighths (R132, R133). -/
theorem countObjects_of_credit {a m : Nat} (n : Nat) (h : ((s.elemDef e).side = some a ∧ m = 8)
    ∨ ((s.elemDef e).side = none ∧ s.holderAlliance e = some a ∧ m = (s.elemDef e).controlBonus)) :
    countObjects e n s = creditGoal e a m n s := by
  rw [countObjects_of_open hphase hw]
  rcases h with ⟨hside, rfl⟩ | ⟨hside, hholder, rfl⟩
  · rw [hside]
  · rw [hside, hholder]

theorem countObjects_of_nobody (n : Nat) (hside : (s.elemDef e).side = none) (hholder : s.holderAlliance e = none) :
    countObjects e n s = s.setElemScore e
      { s.elemScore e with unattributed := min 65535 ((s.elemScore e).unattributed + n) } := by
  rw [countObjects_of_open hphase hw, hside, hholder]

end

-- The credit (R133 to R135)

/-- The objects of a credit have been added to the element's tally (R135). -/
def tallied (e n : Nat) (s : State) : State :=
  s.setElemScore e { s.elemScore e with credited := min 65535 ((s.elemScore e).credited + n) }

theorem creditGoal_eq (e a m n : Nat) (s : State) : creditGoal e a m n s = startPulse e a
    (tallied e n (addPoints a (creditPoints n (s.elemDef e).baseValue m s.periodFactor) s)) := rfl

theorem creditGoal_elemScore {e : Nat} (he : 1 ≤ e ∧ e ≤ 32) (a m n k : Nat) (s : State) :
    (creditGoal e a m n s).elemScore k = if k = e
      then { s.elemScore e with credited := min 65535 ((s.elemScore e).credited + n) } else s.elemScore k := by
  rw [creditGoal_eq]
  simp [tallied, elemScore_setElemScore, he]

theorem creditGoal_alliance {a : Nat} (ha : 1 ≤ a ∧ a ≤ 4) (e m n k : Nat) (s : State) :
    (creditGoal e a m n s).alliance k = if k = a
      then (s.alliance a).plus (creditPoints n (s.elemDef e).baseValue m s.periodFactor) else s.alliance k := by
  rw [creditGoal_eq]
  simp [tallied, addPoints_alliance ha]

theorem creditGoal_attention (e a m n : Nat) (s : State) : (creditGoal e a m n s).attention
    = if (s.alliance a).score + creditPoints n (s.elemDef e).baseValue m s.periodFactor ≤ 65535 then s.attention
      else (s.setFlag .scoreClamp).attention := by
  rw [creditGoal_eq]
  simp [tallied, addPoints_attention]

theorem creditGoal_light {e : Nat} (he : 1 ≤ e ∧ e ≤ 32) (a m n : Nat) (s : State) :
    ((creditGoal e a m n s).light e).pulse = some (millis s.settings.pulseTime)
      ∧ ((creditGoal e a m n s).light e).lastCredited = some a := by
  have hlight := startPulse_light he a
    (tallied e n (addPoints a (creditPoints n (s.elemDef e).baseValue m s.periodFactor) s))
  rw [creditGoal_eq]
  simpa [tallied] using hlight

theorem countObjects_elemScore_other {e k : Nat} (hk : k ≠ e) (n : Nat) (s : State) :
    (countObjects e n s).elemScore k = s.elemScore k := by
  unfold countObjects
  split
  · simp [elemScore_setElemScore, hk]
  · split <;> simp [creditGoal_eq, tallied, elemScore_setElemScore, hk]

/-- The arrivals at a goal are counted in its own tallies (R130 to R135). -/
theorem goalTotal_elemScore_other {e k : Nat} (hk : k ≠ e) (total : Nat) (s : State) :
    (goalTotal e total s).elemScore k = s.elemScore k := by
  unfold goalTotal
  split
  · simp [elemScore_setElemScore, hk]
  · dsimp only
    split
    · simp [elemScore_setElemScore, hk]
    · rw [countObjects_elemScore_other hk]
      simp [elemScore_setElemScore, hk]

-- The answer of a POLL (R96)

theorem exec_pollAnswer {s : State} {e left status position : Nat} (total : Nat) (hs : s.awake)
    (hd : s.defined e = true) (hcurrent : s.bus.current = some { request := .poll e, window := some left })
    (hstatus : status ≤ 4) (hposition : position ≤ 3) :
    exec (.busAnswer (answerBytes e 0x81 [byte total, byte status, byte position])) s = .next (settle
      (takeStatus e status (if (s.elemDef e).kind = .goal then goalTotal e (byte total).toNat (answered e s)
        else answered e s))) := by
  rw [exec_busAnswer_of_good hs hcurrent
    (goodAnswerOf_poll (element_range_of_defined hd) total hstatus hposition),
    show busAddress (.poll e) = e from rfl, reportResult_of_good hd]
  simp only [actOnResult, pollResult, answered_reads]

theorem takeStatus_of_notInFlight {e : Nat} {s : State} (status : Nat) (h : (s.act e).state ≠ .inFlight) :
    takeStatus e status s = s := if_neg h

theorem holderAlliance_congr {e : Nat} {s t : State} (hclaim : t.claim e = s.claim e)
    (hslot : ∀ n, (t.slot n).alliance = (s.slot n).alliance) : t.holderAlliance e = s.holderAlliance e := by
  simp only [State.holderAlliance, hclaim, hslot]

theorem exec_pollAnswer_of_goal {s : State} {e left total status position : Nat} (hs : s.awake)
    (hkind : (s.elemDef e).kind = .goal) (hcurrent : s.bus.current = some { request := .poll e, window := some left })
    (htotal : total < 256) (hstatus : status ≤ 4) (hposition : position ≤ 3) (hact : (s.act e).state ≠ .inFlight) :
    exec (.busAnswer (answerBytes e 0x81 [byte total, byte status, byte position])) s
      = .next (settle (goalTotal e total (answered e s))) := by
  have hd : s.defined e = true := (defined_iff s e).mpr (by simp [hkind])
  rw [exec_pollAnswer total hs hd hcurrent hstatus hposition, if_pos hkind, toNat_byte_of_lt htotal,
    takeStatus_of_notInFlight status (by simpa using hact)]

/-- The state in which an answering goal's arrivals are counted (R130). -/
def polled (e total : Nat) (s : State) : State := (answered e s).withBaseline e total

@[simp] theorem polled_frame (e total : Nat) (s : State) :
    (polled e total s).clock = s.clock ∧ (polled e total s).roster = s.roster ∧ (polled e total s).claims = s.claims
      ∧ (polled e total s).lights = s.lights ∧ (polled e total s).score.alliances = s.score.alliances
      ∧ (polled e total s).settings = s.settings := by
  simp [polled, State.withBaseline]

@[simp] theorem polled_reads (e total k : Nat) (s : State) :
    (polled e total s).elemDef k = s.elemDef k ∧ (polled e total s).claim k = s.claim k
      ∧ (polled e total s).slot k = s.slot k ∧ (polled e total s).alliance k = s.alliance k
      ∧ (polled e total s).holderAlliance k = s.holderAlliance k
      ∧ ((polled e total s).run k).withdrawn = (s.run k).withdrawn := by
  have hclaim : (polled e total s).claim k = s.claim k := by simp [polled, State.withBaseline]
  have hslot (n : Nat) : (polled e total s).slot n = s.slot n := by simp [polled, State.withBaseline]
  refine ⟨by simp [polled, State.withBaseline], hclaim, hslot k, by simp [polled, State.withBaseline],
    holderAlliance_congr hclaim fun n => by rw [hslot], ?_⟩
  have hrun : (polled e total s).run k = (answered e s).run k := by simp [polled, State.withBaseline]
  rw [hrun, answered_run]
  split
  · next hk => rw [hk.1]; rfl
  · rfl

theorem polled_elemScore {e : Nat} (he : 1 ≤ e ∧ e ≤ 32) (total k : Nat) (s : State) : (polled e total s).elemScore k
    = if k = e then { s.elemScore e with baseline := some total } else s.elemScore k := by
  rw [polled, withBaseline_elemScore he]
  simp

theorem polled_flagSet {f : Flag} (hf : flagNumber .presence ≠ flagNumber f) (e total : Nat) (s : State) :
    (polled e total s).flagSet f = s.flagSet f := by
  have h : (answered e s).flagSet f = s.flagSet f := by simp [answered_flagSet, hf]
  exact h

theorem periodFactor_of_clock {s t : State} {d : Period} (hclock : t.clock = s.clock) (hd : s.currentPeriod = some d) :
    t.periodFactor = d.factor := by
  have hperiod : t.currentPeriod = s.currentPeriod := by
    unfold State.currentPeriod
    rw [hclock]
  rw [State.periodFactor, hperiod, hd]
  rfl

-- The tower second (R137)

theorem takeSecond_elemScore {e : Nat} (he : 1 ≤ e ∧ e ≤ 32) (k : Nat) (s : State) : (takeSecond e s).elemScore k
    = if k = e then { s.elemScore e with accumulator := (s.elemScore e).accumulator - 1000000 } else s.elemScore k := by
  rw [takeSecond, elemScore_setElemScore]
  simp [he, seconds]

theorem exec_towerSecond {s : State} {e a : Nat} (hs : s.awake) (hkind : (s.elemDef e).kind = .tower)
    (hholder : s.holderAlliance e = some a) (hcomes : s.driveTime = true ∨ 1000000 ≤ (s.elemScore e).accumulator) :
    exec (.towerSecond e) s = .next (settle (creditSecond e a s)) := by
  refine congrArg Host.Outcome.next ((whenAwake_of_awake hs _).trans ?_)
  rw [takeTowerSecond, hkind, hholder]
  exact if_pos (by rcases hcomes with h | h <;> simp [State.secondComes, seconds, h])

theorem creditSecond_eq (e a : Nat) (s : State) : creditSecond e a s = startPulse e a (addPoints a
    (creditPoints 1 ((takeSecond e s).elemDef e).baseValue ((takeSecond e s).elemDef e).controlBonus
      (takeSecond e s).periodFactor) (takeSecond e s)) := rfl

/-- Settles O48: the answer of a goal and the tower second bring the credit that they are due. -/
theorem arrivalsAndTowerSecondsAreCredited : Obligations.ArrivalsAndTowerSecondsAreCredited := by
  refine ⟨fun s e a m p d hs h1 h32 ha1 ha4 hperiod => ⟨fun b total status position left hcurrent hkind hbaseline hb
    htotal hne hstatus hposition hact hphase hw hside hp => ?_, fun hkind hholder hcomes hp => ?_⟩,
    fun s e total status position left hs h1 h32 hcurrent hkind htotal hstatus hposition hact => ?_⟩
  · have he : 1 ≤ e ∧ e ≤ 32 := ⟨h1, h32⟩
    have ha : 1 ≤ a ∧ a ≤ 4 := ⟨ha1, ha4⟩
    have hcounted : goalTotal e total (answered e s) = creditGoal e a m (arrivalCount total b) (polled e total s) := by
      rw [goalTotal_of_arrival htotal hb (by simpa using hbaseline) hne]
      exact countObjects_of_credit (s := polled e total s) (by simpa using (creditWindow_iff _).mpr hphase)
        (by simpa using hw) _ (by simpa using hside)
    have hfactor : (polled e total s).periodFactor = d.factor := periodFactor_of_clock (by simp) hperiod
    have hpoints : creditPoints (arrivalCount total b) (s.elemDef e).baseValue m (polled e total s).periodFactor = p := by
      rw [hp, hfactor]
      simp [creditPoints, arrivalCount]
    have halliance (k : Nat) := creditGoal_alliance ha e m (arrivalCount total b) k (polled e total s)
    have hscore (k : Nat) := creditGoal_elemScore he a m (arrivalCount total b) k (polled e total s)
    have hattention := creditGoal_attention e a m (arrivalCount total b) (polled e total s)
    have hlight := creditGoal_light he a m (arrivalCount total b) (polled e total s)
    simp only [hpoints, polled_reads, polled_frame, polled_elemScore he, if_true] at halliance hscore hattention hlight
    refine ⟨_, by rw [exec_pollAnswer_of_goal hs hkind hcurrent htotal hstatus hposition (by simp [hact]), hcounted],
      ?_⟩
    generalize creditGoal e a m (arrivalCount total b) (polled e total s) = t at halliance hscore hattention hlight ⊢
    have hflags : flagNumber .presence ≠ flagNumber .scoreClamp := by decide
    refine ⟨by rw [halliance]; simp [AllianceRecord.plus], by rw [halliance]; simp [AllianceRecord.plus],
      by rw [halliance]; simp [AllianceRecord.plus], fun hfull => ?_, fun hroom => ?_, by simp [hscore],
      by simp [hscore], by simp [hscore, arrivalCount], by simp [hscore], hlight.1, hlight.2,
      fun k hk => by rw [halliance, if_neg hk], fun k hk => by simp [hscore, hk]⟩
    · rw [State.flagSet, hattention, if_neg (by omega)]
      exact flagSet_setFlag_self .scoreClamp _
    · rw [State.flagSet, hattention, if_pos hroom]
      exact polled_flagSet hflags e total s
  · have ha : 1 ≤ a ∧ a ≤ 4 := ⟨ha1, ha4⟩
    have he : 1 ≤ e ∧ e ≤ 32 := ⟨h1, h32⟩
    have hd : s.defined e = true := (defined_iff s e).mpr (by simp [hkind])
    have hfactor : (takeSecond e s).periodFactor = d.factor := periodFactor_of_clock (by simp [takeSecond]) hperiod
    have hpoints : creditPoints 1 ((takeSecond e s).elemDef e).baseValue ((takeSecond e s).elemDef e).controlBonus
        (takeSecond e s).periodFactor = p := by
      rw [hp, hfactor]
      simp [creditPoints, takeSecond]
    have hcredit := creditSecond_eq e a s
    rw [hpoints] at hcredit
    have halliance (k : Nat) : (creditSecond e a s).alliance k = if k = a then (s.alliance a).plus p else s.alliance k := by
      rw [hcredit]
      simp [addPoints_alliance ha, takeSecond]
    have hscore (k : Nat) : (creditSecond e a s).elemScore k = (takeSecond e s).elemScore k := by
      rw [hcredit]
      simp
    have hattention : (creditSecond e a s).attention
        = if (s.alliance a).score + p ≤ 65535 then s.attention else (s.setFlag .scoreClamp).attention := by
      rw [hcredit]
      simp [addPoints_attention, takeSecond]
    have hlight := startPulse_light he a (addPoints a p (takeSecond e s))
    have hshown : showsState e (creditSecond e a s) := by
      rw [hcredit]
      exact startPulse_showsState (by simpa [takeSecond] using hd) a
    refine ⟨_, exec_towerSecond hs hkind hholder hcomes, by rw [halliance]; simp [AllianceRecord.plus],
      by rw [halliance]; simp [AllianceRecord.plus], fun hfull => ?_, fun hroom => by rw [hattention, if_pos hroom], ?_,
      ?_, ?_, hshown, fun k hk => by rw [halliance, if_neg hk], fun k hk => ?_, by simp [hcredit, takeSecond],
      by simp [hcredit, takeSecond]⟩
    · rw [State.flagSet, hattention, if_neg (by omega)]
      exact flagSet_setFlag_self .scoreClamp _
    · rw [hscore, takeSecond_elemScore he, if_pos rfl]
    · rw [hcredit, hlight.1]
      simp [takeSecond, millis]
    · rw [hcredit, hlight.2]
    · rw [hscore, takeSecond_elemScore he, if_neg hk]
  · have he : 1 ≤ e ∧ e ≤ 32 := ⟨h1, h32⟩
    refine ⟨_, exec_pollAnswer_of_goal hs hkind hcurrent htotal hstatus hposition hact, fun hsame => ?_,
      fun b n hbaseline hb hne hn => ⟨fun hclosed => ?_, fun hphase hw hside hholder => ?_⟩, fun k hk => ?_⟩
    · have hpolled : goalTotal e total (answered e s) = polled e total s :=
        goalTotal_of_uncounted htotal (by simpa using hsame)
      rw [hpolled]
      exact ⟨by simp, by simp, by rw [polled_elemScore he, if_pos rfl]⟩
    · have hcounted := (goalTotal_of_arrival htotal hb (by simpa using hbaseline) hne).trans
        (countObjects_of_closed (s := polled e total s) (arrivalCount total b) (by
          rcases hclosed with h | h | h | h <;> simp [creditWindow, h]))
      rw [hcounted]
      refine ⟨by simp, by simp, ?_⟩
      simp [elemScore_setElemScore, he, polled_elemScore he, hn, arrivalCount]
    · have hnobody : (polled e total s).holderAlliance e = none := by simp [State.holderAlliance, hholder]
      have hcounted := (goalTotal_of_arrival htotal hb (by simpa using hbaseline) hne).trans
        (countObjects_of_nobody (s := polled e total s) (by simpa using (creditWindow_iff _).mpr hphase)
          (by simpa using hw) (arrivalCount total b) (by simpa using hside) hnobody)
      rw [hcounted]
      refine ⟨by simp, by simp, ?_⟩
      simp [elemScore_setElemScore, he, polled_elemScore he, hn, arrivalCount]
    · rw [goalTotal_elemScore_other hk]
      simp

end Sys2Proof.Machine
end

section
/-! PROOFS. Faults and the end of an actuation: what they write on the element, its claim, its light, the flags and the
fault capture (R56, R57, R61, R62, R105, R106). -/

namespace Sys2Proof.Machine

-- A recorded fault (R61, R62)

/-- A run-time part behind one more fault (R61). -/
def ElementRun.faulted (k : FaultKind) (r : ElementRun) : ElementRun :=
  { r with faultTally := min 255 (r.faultTally + 1), lastFault := some k, jammed := r.jammed || k == .jam }

/-- The fault capture and its repeat mark. -/
def State.captured (s : State) : Option CapturedFault × Bool := (s.table.capture, s.table.repeated)

theorem graver_eq (a b : FaultKind) : graver a b = decide (faultPriority a < faultPriority b) := by
  cases a <;> cases b <;> rfl

theorem captured_captureFault (e : Nat) (k : FaultKind) (s : State) : (captureFault e k s).captured
    = captureBehind s.captured { kind := k, element := e, time := s.faultTime } := by
  unfold captureFault captureBehind State.captured
  dsimp only
  cases hc : s.table.capture with
  | none => rfl
  | some held =>
    simp only [graver_eq, decide_eq_true_eq]
    split <;> rfl

/-- The state whose run-time part holds the fault, before the capture and the flag (R61). -/
def marked (e : Nat) (k : FaultKind) (s : State) : State :=
  if k = .jam && !(s.run e).jammed then recompute e (s.modRun e (ElementRun.faulted k)) else s.modRun e (ElementRun.faulted k)

theorem recordFault_eq (e : Nat) (k : FaultKind) (s : State) :
    recordFault e k s = (captureFault e k (marked e k s)).setFlag .elementFault := rfl

theorem marked_run (e j : Nat) (k : FaultKind) (s : State) :
    (marked e k s).run j = if j = e ∧ 1 ≤ e ∧ e ≤ 32 then (s.run e).faulted k else s.run j := by
  rw [← run_modRun, marked]
  split <;> simp

theorem marked_light_other {e j : Nat} (hj : j ≠ e) (k : FaultKind) (s : State) :
    (marked e k s).light j = s.light j := by
  unfold marked
  split
  · rw [recompute_light_other hj]
    simp
  · simp

@[simp] theorem marked_frame (e : Nat) (k : FaultKind) (s : State) :
    (marked e k s).attention = s.attention ∧ (marked e k s).captured = s.captured
      ∧ (marked e k s).faultTime = s.faultTime := by
  unfold marked State.captured State.faultTime
  split <;> simp

theorem recordFault_run (e j : Nat) (k : FaultKind) (s : State) :
    (recordFault e k s).run j = if j = e ∧ 1 ≤ e ∧ e ≤ 32 then (s.run e).faulted k else s.run j := by
  rw [← marked_run, recordFault_eq]
  simp

theorem recordFault_light_other {e j : Nat} (hj : j ≠ e) (k : FaultKind) (s : State) :
    (recordFault e k s).light j = s.light j := by
  rw [← marked_light_other hj k s, recordFault_eq]
  simp

/-- Only a JAM fault recomputes the light of its element (R119). -/
theorem recordFault_lights {k : FaultKind} (hk : k ≠ .jam) (e : Nat) (s : State) :
    (recordFault e k s).lights = s.lights ∧ (recordFault e k s).bus = s.bus := by
  simp [recordFault_eq, marked, hk]

theorem recordFault_flagSet (e : Nat) (k : FaultKind) (f : Flag) (s : State) : (recordFault e k s).flagSet f
    = (s.flagSet f || decide (flagNumber .elementFault = flagNumber f)) := by
  have hattention : (captureFault e k (marked e k s)).flagSet f = s.flagSet f := by simp [State.flagSet]
  rw [recordFault_eq, flagSet_setFlag, hattention]

theorem recordFault_captured (e : Nat) (k : FaultKind) (s : State) : (recordFault e k s).captured
    = captureBehind s.captured { kind := k, element := e, time := s.faultTime } := by
  have hcaptured := captured_captureFault e k (marked e k s)
  simp only [marked_frame] at hcaptured
  exact hcaptured

-- The outcome of an actuation (R57)

/-- A run-time part behind the end of its actuation (R57). -/
def ElementRun.ended (o : ActOutcome) (r : ElementRun) : ElementRun :=
  match endingFault o with
  | some k => ElementRun.faulted k { r with lastOutcome := some o }
  | none => { r with lastOutcome := some o }

theorem outcomeReported_run (e j : Nat) (o : ActOutcome) (s : State) : (outcomeReported e o s).run j
    = if j = e ∧ 1 ≤ e ∧ e ≤ 32 then (s.run e).ended o else s.run j := by
  unfold outcomeReported ElementRun.ended
  cases endingFault o with
  | none => exact run_modRun s e j fun r => { r with lastOutcome := some o }
  | some k =>
    dsimp only
    rw [recordFault_run, run_modRun, run_modRun]
    split_ifs with h h' <;> simp_all

theorem outcomeReported_light_other {e j : Nat} (hj : j ≠ e) (o : ActOutcome) (s : State) :
    (outcomeReported e o s).light j = s.light j := by
  unfold outcomeReported
  cases endingFault o with
  | none => simp
  | some k =>
    dsimp only
    rw [recordFault_light_other hj]
    simp

@[simp] theorem outcomeReported_frame (e : Nat) (o : ActOutcome) (s : State) :
    (outcomeReported e o s).claims = s.claims ∧ (outcomeReported e o s).score = s.score
      ∧ (outcomeReported e o s).bus.acts = s.bus.acts ∧ (∀ k, (outcomeReported e o s).claim k = s.claim k)
      ∧ (∀ k, (outcomeReported e o s).elemScore k = s.elemScore k)
      ∧ (∀ k, (outcomeReported e o s).act k = s.act k) ∧ (∀ k, (outcomeReported e o s).defined k = s.defined k) := by
  unfold outcomeReported
  cases endingFault o <;> simp

theorem outcomeReported_flagSet (e : Nat) (o : ActOutcome) (f : Flag) (s : State) : (outcomeReported e o s).flagSet f
    = (s.flagSet f || ((endingFault o).isSome && decide (flagNumber .elementFault = flagNumber f))) := by
  unfold outcomeReported
  cases endingFault o with
  | none => simp [State.flagSet]
  | some k => exact recordFault_flagSet _ _ _ _

theorem outcomeReported_captured (e : Nat) (o : ActOutcome) (s : State) : (outcomeReported e o s).captured
    = (endingFault o).elim s.captured fun k =>
        captureBehind s.captured { kind := k, element := e, time := s.faultTime } := by
  unfold outcomeReported
  cases endingFault o with
  | none => rfl
  | some k => exact recordFault_captured _ _ _

-- The end of an actuation (R56, R57, R106)

theorem withdrawNow_flagSet_eq (e : Nat) (f : Flag) (s : State) : (withdrawNow e s).flagSet f
    = (s.flagSet f || decide (flagNumber .withdrawn = flagNumber f)) := by
  have hattention : (withdrawNow e s).attention = (s.setFlag .withdrawn).attention := by
    rw [withdrawNow_eq]
    simp
  rw [← flagSet_setFlag, State.flagSet, hattention]
  rfl

theorem ended_withdrawals (o : ActOutcome) (r : ElementRun) :
    (r.ended o).withdrawPending = r.withdrawPending ∧ (r.ended o).withdrawn = r.withdrawn := by
  unfold ElementRun.ended
  cases endingFault o <;> exact ⟨rfl, rfl⟩

/-- The state of an ending before its outcome is reported: the actuation is at rest (R106). -/
def atRest (e : Nat) (s : State) : State := s.setAct e restAct

theorem endActuation_eq {e : Nat} {o : ActOutcome} {s : State} (he : 1 ≤ e ∧ e ≤ 32) (ho : o ≠ .aborted) :
    endActuation e o s = (if (s.run e).withdrawPending = true then withdrawNow e (outcomeReported e o (atRest e s))
      else outcomeReported e o (atRest e s)).setFlagIf ((s.act e).origin = some .console) .consoleActDone := by
  have hrefund : refundCharge e o (s.act e).charge (s.setAct e restAct) = atRest e s := by
    cases o with
    | aborted => exact absurd rfl ho
    | done | jammed | halted | refused | noAnswer => rfl
  have hpending : ((outcomeReported e o (atRest e s)).run e).withdrawPending = (s.run e).withdrawPending := by
    rw [outcomeReported_run, if_pos ⟨rfl, he⟩, (ended_withdrawals _ _).1]
    rfl
  rw [endActuation]
  rw [hrefund, actuationEnded_eq, hpending]

section
variable {e : Nat} {o : ActOutcome} {s : State} (he : 1 ≤ e ∧ e ≤ 32) (ho : o ≠ .aborted)
include he ho

theorem endActuation_run (k : Nat) : (endActuation e o s).run k = if k = e then
      (if (s.run e).withdrawPending = true then ((s.run e).ended o).taken else (s.run e).ended o)
    else s.run k := by
  rw [endActuation_eq he ho]
  by_cases hk : k = e
  · subst hk
    split <;> simp [*, withdrawNow_run, outcomeReported_run, atRest]
  · split <;> simp [*, withdrawNow_run, outcomeReported_run, atRest]

theorem endActuation_act (k : Nat) : (endActuation e o s).act k = if k = e then restAct else s.act k := by
  rw [endActuation_eq he ho]
  split <;> simp [*, atRest, act_setAct]

theorem endActuation_claim (k : Nat) : (endActuation e o s).claim k
    = if (s.run e).withdrawPending = true ∧ k = e then emptyClaim else s.claim k := by
  rw [endActuation_eq he ho]
  split <;> simp [*, withdrawNow_claim, atRest]

theorem endActuation_elemScore (k : Nat) : (endActuation e o s).elemScore k
    = if (s.run e).withdrawPending = true ∧ k = e then { s.elemScore e with accumulator := 0 } else s.elemScore k := by
  rw [endActuation_eq he ho]
  split <;> simp [*, withdrawNow_elemScore, atRest]

theorem endActuation_score (hpending : (s.run e).withdrawPending = false) : (endActuation e o s).score = s.score := by
  rw [endActuation_eq he ho, hpending]
  simp [atRest]

theorem endActuation_claims (hpending : (s.run e).withdrawPending = false) : (endActuation e o s).claims = s.claims := by
  rw [endActuation_eq he ho, hpending]
  simp [atRest]

theorem endActuation_light_other {k : Nat} (hk : k ≠ e) : (endActuation e o s).light k = s.light k := by
  rw [endActuation_eq he ho]
  split <;> simp [withdrawNow_eq, recompute_light_other hk, outcomeReported_light_other hk, atRest]

theorem endActuation_flagSet (f : Flag) : (endActuation e o s).flagSet f = (s.flagSet f
    || ((endingFault o).isSome && decide (flagNumber .elementFault = flagNumber f))
    || ((s.run e).withdrawPending && decide (flagNumber .withdrawn = flagNumber f))
    || (decide ((s.act e).origin = some .console) && decide (flagNumber .consoleActDone = flagNumber f))) := by
  have hreported : (outcomeReported e o (atRest e s)).flagSet f
      = (s.flagSet f || ((endingFault o).isSome && decide (flagNumber .elementFault = flagNumber f))) :=
    outcomeReported_flagSet e o f (atRest e s)
  rw [endActuation_eq he ho, flagSet_setFlagIf]
  cases hpending : (s.run e).withdrawPending with
  | false => simp [hreported]
  | true => simp [withdrawNow_flagSet_eq, hreported]

theorem endActuation_captured : (endActuation e o s).captured
    = (endingFault o).elim s.captured fun k =>
        captureBehind s.captured { kind := k, element := e, time := s.faultTime } := by
  have hreported := outcomeReported_captured e o (atRest e s)
  rw [endActuation_eq he ho]
  refine Eq.trans ?_ hreported
  unfold State.captured
  split <;> simp

theorem endActuation_light (hd : s.defined e = true) (hpending : (s.run e).withdrawPending = true) :
    ((endActuation e o s).light e).computed = .off := by
  rw [endActuation_eq he ho, if_pos hpending]
  simpa using withdrawNow_light (by simpa [atRest] using hd)

/-- Whatever ends an actuation, a withdrawal that is pending takes effect (R56, R57). -/
theorem pendingWithdrawalTaken_endActuation : pendingWithdrawalTaken e s (endActuation e o s) := by
  obtain ⟨hpendingEnded, hwithdrawn⟩ := ended_withdrawals o (s.run e)
  unfold pendingWithdrawalTaken
  rw [endActuation_run he ho, if_pos rfl, endActuation_claim he ho, endActuation_elemScore he ho, endActuation_flagSet he ho]
  split
  · next hpending =>
    refine ⟨rfl, rfl, by simp [hpending, emptyClaim], by simp [hpending], fun hd => endActuation_light he ho hd hpending, by simp [hpending]⟩
  · next hpending =>
    exact ⟨hwithdrawn, by rw [hpendingEnded]; simpa using hpending, by simp [hpending], by simp [hpending]⟩

end

/-- A withdrawal pending behind the actuation that ends was pending before the answer was reported (R57). -/
theorem pendingWithdrawalTaken_congr {e : Nat} {s u t : State} (h : pendingWithdrawalTaken e u t)
    (hpending : (u.run e).withdrawPending = (s.run e).withdrawPending)
    (hwithdrawn : (u.run e).withdrawn = (s.run e).withdrawn) (hclaim : u.claim e = s.claim e)
    (hscore : (u.elemScore e).accumulator = (s.elemScore e).accumulator) (hd : u.defined e = s.defined e) :
    pendingWithdrawalTaken e s t := by
  unfold pendingWithdrawalTaken at h ⊢
  rwa [hpending, hwithdrawn, hclaim, hscore, hd] at h

end Sys2Proof.Machine
end

section
/-! PROOFS. Good answers on the field bus, by the transaction that they end (R59, R94 to R96, R104 to R106, R113, R122). -/

namespace Sys2Proof.Machine

-- What the end of an actuation writes on its element (R57)

section
variable {e : Nat} {o : ActOutcome} {s : State} (he : 1 ≤ e ∧ e ≤ 32) (ho : o ≠ .aborted)
include he ho

theorem endActuation_run_fields : ((endActuation e o s).run e).lastOutcome = some o
    ∧ ((endActuation e o s).run e).presence = (s.run e).presence
    ∧ ((endActuation e o s).run e).missCount = (s.run e).missCount := by
  rw [endActuation_run he ho, if_pos rfl, ElementRun.ended]
  cases endingFault o <;> split <;> exact ⟨rfl, rfl, rfl⟩

theorem endActuation_run_of_fault {k : FaultKind} (hk : endingFault o = some k) :
    ((endActuation e o s).run e).lastFault = some k
      ∧ ((endActuation e o s).run e).faultTally = min 255 ((s.run e).faultTally + 1)
      ∧ ((endActuation e o s).run e).jammed = ((s.run e).jammed || k == .jam) := by
  rw [endActuation_run he ho, if_pos rfl, ElementRun.ended, hk]
  split <;> exact ⟨rfl, rfl, rfl⟩

theorem endActuation_run_of_noFault (hk : endingFault o = none) :
    ((endActuation e o s).run e).lastFault = (s.run e).lastFault
      ∧ ((endActuation e o s).run e).faultTally = (s.run e).faultTally
      ∧ ((endActuation e o s).run e).jammed = (s.run e).jammed := by
  rw [endActuation_run he ho, if_pos rfl, ElementRun.ended, hk]
  split <;> exact ⟨rfl, rfl, rfl⟩

theorem endActuation_baseline :
    ((endActuation e o s).elemScore e).baseline = (s.elemScore e).baseline := by
  rw [endActuation_elemScore he ho]
  split <;> rfl

end

-- The end of a request frame (R94)

theorem exec_busFrameSent_of_halt {s : State} (hs : s.awake)
    (hcurrent : s.bus.current = some { request := .halt, window := none }) :
    exec .busFrameSent s = .next (settle { s with bus := { s.bus with current := none } }) := by
  refine congrArg Host.Outcome.next ((whenAwake_of_awake hs _).trans ?_)
  rw [requestFrameEnds, hcurrent]

theorem exec_busFrameSent_of_request {s : State} {q : BusRequest} (hs : s.awake) (hq : q ≠ .halt)
    (hcurrent : s.bus.current = some { request := q, window := none }) :
    exec .busFrameSent s = .next { s with bus := { s.bus with
      current := some { request := q, window := some (s.settings.answerWindow * 1000) } } } := by
  refine congrArg Host.Outcome.next ((whenAwake_of_awake hs _).trans ?_)
  rw [requestFrameEnds, hcurrent]
  cases q with
  | halt => exact absurd rfl hq
  | poll e | actuate e a | light e d | raw e p => rfl

-- The answer of a POLL (R96)

/-- A goal's arrivals set SCORE_CLAMP or no flag (R124). -/
theorem goalTotal_flagSet_other {f : Flag} (hf : flagNumber .scoreClamp ≠ flagNumber f) (e total : Nat) (s : State) :
    (goalTotal e total s).flagSet f = s.flagSet f := by
  have hcredit (a m n : Nat) (u : State) : (creditGoal e a m n u).flagSet f = u.flagSet f := by
    rw [State.flagSet, creditGoal_attention]
    split
    · rfl
    · exact flagSet_setFlag_other hf u
  have hcount (n : Nat) (u : State) : (countObjects e n u).flagSet f = u.flagSet f := by
    unfold countObjects
    split
    · rfl
    · split
      · exact hcredit _ _ _ _
      · exact hcredit _ _ _ _
      · rfl
  unfold goalTotal
  split
  · rfl
  · dsimp only
    split
    · rfl
    · exact hcount _ _

theorem goalTotal_elemScore_same {e : Nat} (he : 1 ≤ e ∧ e ≤ 32) (total : Nat) (s : State) :
    ((goalTotal e total s).elemScore e).baseline = some total
      ∧ ((goalTotal e total s).elemScore e).accumulator = (s.elemScore e).accumulator := by
  have hcount (n : Nat) (u : State) : ((countObjects e n u).elemScore e).baseline = (u.elemScore e).baseline
      ∧ ((countObjects e n u).elemScore e).accumulator = (u.elemScore e).accumulator := by
    unfold countObjects
    split
    · simp [elemScore_setElemScore, he]
    · split <;> simp [creditGoal_elemScore he, elemScore_setElemScore, he]
  unfold goalTotal
  split
  · simp [elemScore_setElemScore, he]
  · dsimp only
    split
    · simp [elemScore_setElemScore, he]
    · simp [hcount, elemScore_setElemScore, he]

/-- The state in which a POLL's answer has been reported and its object total counted, before its status (R96). -/
def totalled (e total : Nat) (s : State) : State :=
  if (s.elemDef e).kind = .goal then goalTotal e total (answered e s) else answered e s

@[simp] theorem totalled_frame (e total : Nat) (s : State) :
    (totalled e total s).claims = s.claims ∧ (totalled e total s).bus.current = none
      ∧ (totalled e total s).captured = s.captured ∧ (totalled e total s).faultTime = s.faultTime
      ∧ (∀ k, (totalled e total s).act k = s.act k) ∧ (∀ k, (totalled e total s).claim k = s.claim k)
      ∧ (∀ k, (totalled e total s).run k = (answered e s).run k)
      ∧ (∀ k, (totalled e total s).defined k = s.defined k) := by
  unfold totalled State.captured State.faultTime
  split <;> simp

theorem totalled_flagSet {f : Flag} (hf : flagNumber .scoreClamp ≠ flagNumber f) (e total : Nat) (s : State) :
    (totalled e total s).flagSet f = (answered e s).flagSet f := by
  unfold totalled
  split
  · exact goalTotal_flagSet_other hf e total _
  · rfl

theorem totalled_elemScore {e : Nat} (he : 1 ≤ e ∧ e ≤ 32) (total : Nat) (s : State) :
    ((s.elemDef e).kind = .goal → ((totalled e total s).elemScore e).baseline = some total)
      ∧ ((totalled e total s).elemScore e).accumulator = (s.elemScore e).accumulator := by
  have hgoal := goalTotal_elemScore_same he total (answered e s)
  unfold totalled
  split
  · exact ⟨fun _ => hgoal.1, by simp [hgoal.2]⟩
  · next hkind => exact ⟨fun h => absurd h hkind, by simp⟩

/-- What a POLL's status leaves to an actuation that it does not end (R96). -/
theorem takeStatus_of_ignored {e status : Nat} {s : State} (h : (s.act e).state ≠ .inFlight ∨ status ≤ 1) :
    takeStatus e status s = s := by
  unfold takeStatus
  split
  · next hact =>
    have hstatus : status ≤ 1 := h.resolve_left (not_not.mpr hact)
    have hnone : statusOutcome status = none := by
      rw [statusOutcome, if_neg (by omega), if_neg (by omega), if_neg (by omega)]
    rw [hnone]
  · rfl

theorem takeStatus_of_ending {e status : Nat} {o : ActOutcome} {s : State} (hact : (s.act e).state = .inFlight)
    (ho : statusOutcome status = some o) : takeStatus e status s = endActuation e o s := by
  rw [takeStatus, if_pos hact, ho]

theorem exec_pollAnswer_eq {s : State} {e left total status position : Nat} (hs : s.awake) (hd : s.defined e = true)
    (hcurrent : s.bus.current = some { request := .poll e, window := some left }) (hstatus : status ≤ 4)
    (hposition : position ≤ 3) :
    exec (.busAnswer (answerBytes e 0x81 [byte total, byte status, byte position])) s
      = .next (settle (takeStatus e status (totalled e (byte total).toNat s))) :=
  exec_pollAnswer total hs hd hcurrent hstatus hposition

theorem statusOutcome_of_ending {status : Nat} (hlow : 2 ≤ status) (hhigh : status ≤ 4) :
    ∃ o, statusOutcome status = some o ∧ o ≠ .aborted ∧ (status = 2 → o = .done) ∧ (status = 3 ↔ o = .jammed)
      ∧ (status = 4 → o = .halted) ∧ endingFault o = if status = 3 then some .jam else none := by
  interval_cases status <;> exact ⟨_, rfl, by decide⟩

@[simp] theorem answered_captured (e : Nat) (s : State) :
    (answered e s).captured = s.captured ∧ (answered e s).faultTime = s.faultTime := by
  simp [State.captured, State.faultTime]

theorem answered_run_same {e : Nat} (he : 1 ≤ e ∧ e ≤ 32) (s : State) : (answered e s).run e = (s.run e).answered := by
  rw [answered_run, if_pos ⟨rfl, he⟩]

theorem answered_run_other {e k : Nat} (hk : k ≠ e) (s : State) : (answered e s).run k = s.run k := by
  rw [answered_run, if_neg (by simp [hk])]

-- The answer of an ACTUATE (R104)

section
variable {s : State} {e a left : Nat} (hs : s.awake) (hd : s.defined e = true)
    (hcurrent : s.bus.current = some { request := .actuate e a, window := some left })
include hs hd hcurrent

theorem exec_acceptAnswer : exec (.busAnswer (answerBytes e 0x82 [0])) s = .next (settle ((answered e s).setAct e
    { (answered e s).act e with state := .inFlight, timer := some (tenths ((answered e s).elemDef e).timeout) })) := by
  rw [exec_busAnswer_of_good hs hcurrent (goodAnswerOf_accept (element_range_of_defined hd) a),
    show busAddress (.actuate e a) = e from rfl, reportResult_of_good hd]
  rfl

theorem exec_refuseAnswer :
    exec (.busAnswer (answerBytes e 0x82 [1])) s = .next (settle (endActuation e .refused (answered e s))) := by
  rw [exec_busAnswer_of_good hs hcurrent (goodAnswerOf_refuse (element_range_of_defined hd) a),
    show busAddress (.actuate e a) = e from rfl, reportResult_of_good hd]
  rfl

end

/-- Of an undefined element nothing is reported (R95). -/
theorem reportResult_of_undefined {e : Nat} {s : State} (hd : ¬s.defined e = true) (r : BusResult) :
    reportResult e r s.withBusFree = s.withBusFree := if_neg hd

-- The faults that have reached the capture (R62)

theorem faultsCaptured_nil {e : Nat} {s t : State} (h : t.captured = s.captured) : faultsCaptured e [] s t := h

theorem faultsCaptured_singleton {e : Nat} {k : FaultKind} {s t : State} (h : t.captured
    = captureBehind s.captured { kind := k, element := e, time := s.faultTime }) : faultsCaptured e [k] s t := h

/-- Settles O45, by the transaction that the answer ends. -/
theorem goodAnswersActByTheirTransaction : Obligations.GoodAnswersActByTheirTransaction := by
  intro s e a total status position left hs h1 h32
  have he : 1 ≤ e ∧ e ≤ 32 := ⟨h1, h32⟩
  refine ⟨exec_busFrameSent_of_halt hs, fun q hq => exec_busFrameSent_of_request hs hq,
    fun hcurrent hd hstatus hposition => ?_, fun hcurrent hd => ⟨?_, ?_⟩, fun d hcurrent hd => ?_,
    fun kind request answer hcurrent hlength => ?_⟩
  · refine ⟨_, exec_pollAnswer_eq hs hd hcurrent hstatus hposition, ?_⟩
    have hbyte (h : total < 256) : (byte total).toNat = total := toNat_byte_of_lt h
    generalize (byte total).toNat = n at hbyte
    obtain ⟨hbaseline, haccumulator⟩ := totalled_elemScore he n s
    have hpresence := totalled_flagSet (f := .presence) (by decide) e n s
    rw [answered_flagSet] at hpresence
    by_cases hend : (s.act e).state = .inFlight ∧ 2 ≤ status
    · obtain ⟨hflight, hlow⟩ := hend
      obtain ⟨o, ho, hnot, h2, h3, h4, hfault⟩ := statusOutcome_of_ending hlow hstatus
      rw [takeStatus_of_ending (by simpa using hflight) ho]
      have hrun : (totalled e n s).run e = (s.run e).answered := by simp [answered_run_same he]
      have hacts := endActuation_act he hnot (s := totalled e n s)
      have hflags := endActuation_flagSet he hnot (s := totalled e n s)
      have hcaptured := endActuation_captured he hnot (s := totalled e n s)
      obtain ⟨houtcome, hpresent, hmisses⟩ := endActuation_run_fields he hnot (s := totalled e n s)
      have hrest : (endActuation e o (totalled e n s)).act e = restAct := by rw [hacts, if_pos rfl]
      have hconsole : (s.act e).origin = some .console →
          (endActuation e o (totalled e n s)).flagSet .consoleActDone = true := fun h => by simp [hflags, h]
      have htaken : pendingWithdrawalTaken e s (endActuation e o (totalled e n s)) :=
        pendingWithdrawalTaken_congr (pendingWithdrawalTaken_endActuation he hnot) (by rw [hrun]; rfl)
          (by rw [hrun]; rfl) (by simp) haccumulator (by simp)
      have hquiet (h : status ≠ 3) : ((endActuation e o (totalled e n s)).run e).faultTally = (s.run e).faultTally := by
        obtain ⟨_, htally, _⟩ := endActuation_run_of_noFault he hnot (s := totalled e n s) (hfault.trans (if_neg h))
        rw [htally, hrun]
        rfl
      refine ⟨by simp, by rw [hpresent, hrun]; rfl, by rw [hmisses, hrun]; rfl, fun hkind htotal => ?_,
        fun _ h => ⟨by rw [houtcome, h2 h], hrest, hquiet (by omega)⟩, fun _ h => absurd h (by omega), fun _ _ => htaken,
        fun h => absurd hflight (h.resolve_right (by omega)), ?_, fun _ h => ?_,
        fun _ h => ⟨by rw [houtcome, h4 h], hrest, hquiet (by omega)⟩, fun _ _ => hconsole, fun h => absurd hflight h, ?_,
        fun k hk => ⟨?_, ?_, ?_⟩⟩
      · rw [endActuation_baseline he hnot, hbaseline hkind, hbyte htotal]
      · split
        · next h => exact faultsCaptured_singleton (by rw [hcaptured, hfault, if_pos h.2]; simp)
        · next h =>
          have h3 : status ≠ 3 := fun h3 => h ⟨hflight, h3⟩
          exact faultsCaptured_nil (by rw [hcaptured, hfault, if_neg h3]; simp)
      · obtain ⟨hlast, htally, hjammed⟩ := endActuation_run_of_fault he hnot (s := totalled e n s) (hfault.trans (if_pos h))
        exact ⟨by rw [houtcome, h3.mp h], by rw [hjammed]; simp, hrest, hlast, by rw [htally, hrun]; rfl,
          by rw [hflags, hfault, if_pos h]; simp⟩
      · rw [hflags, hpresence]
        simp [flagNumber]
      · rw [endActuation_run he hnot, if_neg hk]
        simp [answered_run_other hk]
      · rw [hacts, if_neg hk]
        simp
      · rw [endActuation_claim he hnot, if_neg (by simp [hk])]
        simp
    · have hignored : (s.act e).state ≠ .inFlight ∨ status ≤ 1 := by
        by_cases h : (s.act e).state = .inFlight
        · exact .inr (Nat.lt_succ_iff.mp (Nat.not_le.mp fun h' => hend ⟨h, h'⟩))
        · exact .inl h
      rw [takeStatus_of_ignored (by simpa using hignored)]
      have hrun : (totalled e n s).run e = (s.run e).answered := by simp [answered_run_same he]
      refine ⟨by simp, by rw [hrun]; rfl, by rw [hrun]; rfl, fun hkind htotal => by rw [hbaseline hkind, hbyte htotal],
        fun hf h2 => absurd ⟨hf, by omega⟩ hend, fun _ _ => ⟨by simp, hrun⟩, fun hf h2 => absurd ⟨hf, h2⟩ hend,
        fun _ => by simp, ?_, fun hf h3 => absurd ⟨hf, by omega⟩ hend, fun hf h3 => absurd ⟨hf, by omega⟩ hend,
        fun hf h2 => absurd ⟨hf, h2⟩ hend, fun _ => ⟨by simp, hrun⟩, by simpa using hpresence,
        fun k hk => ⟨?_, by simp, by simp⟩⟩
      · rw [if_neg fun h => hend ⟨h.1, by omega⟩]
        exact faultsCaptured_nil (by simp)
      · simp [answered_run_other hk]
  · refine ⟨_, exec_acceptAnswer hs hd hcurrent, ?_⟩
    refine ⟨by simp, ?_, by simp [answered_run_same he, ElementRun.answered], by simp, by simp,
      faultsCaptured_nil (by simp [State.captured])⟩
    simp [act_setAct, he, tenths]
  · have hnot : ActOutcome.refused ≠ .aborted := by simp
    have hrun := answered_run_same he s
    have hflags := endActuation_flagSet he hnot (s := answered e s)
    obtain ⟨houtcome, -, -⟩ := endActuation_run_fields he hnot (s := answered e s)
    obtain ⟨hlast, htally, -⟩ := endActuation_run_of_fault he hnot (s := answered e s) rfl
    refine ⟨_, exec_refuseAnswer hs hd hcurrent, by rw [endActuation_act he hnot, if_pos rfl]; rfl, houtcome, hlast,
      by rw [htally, hrun]; rfl, by rw [hflags]; simp [endingFault],
      faultsCaptured_singleton (by rw [endActuation_captured he hnot]; simp [endingFault]),
      pendingWithdrawalTaken_congr (pendingWithdrawalTaken_endActuation he hnot) (by rw [hrun]; rfl) (by rw [hrun]; rfl)
        (by simp) (by simp) (by simp), fun k hk => ?_, fun horigin => by rw [hflags]; simp [horigin], by simp⟩
    rw [endActuation_claim he hnot, if_neg (by simp [hk])]
    simp
  · have hpresence := answered_flagSet e .presence s
    refine ⟨answered e s, ?_, by simp, by simp, answered_run_same he s, fun k hk => answered_run_other hk s,
      by simpa using hpresence, by simp, by simp, faultsCaptured_nil (by simp)⟩
    rw [exec_busAnswer_of_good hs hcurrent (goodAnswerOf_light he d), show busAddress (.light e d) = e from rfl,
      reportResult_of_good hd]
    rfl
  · refine ⟨_, exec_busAnswer_of_good hs hcurrent (goodAnswerOf_raw he kind request hlength), ?_⟩
    rw [show busAddress (.raw e request) = e from rfl]
    by_cases hd : s.defined e = true
    · rw [reportResult_of_good hd, if_pos hd]
      exact ⟨by simp [actOnResult, passArrives, passOf], flagSet_setFlag_self .passDone _,
        by simp [actOnResult, passArrives], by simp [actOnResult, passArrives], by simp [actOnResult, passArrives],
        faultsCaptured_nil (by simp [actOnResult, passArrives, State.captured]), answered_run_same he s⟩
    · rw [reportResult_of_undefined hd, if_neg hd]
      exact ⟨rfl, flagSet_setFlag_self .passDone _, rfl, rfl, rfl, faultsCaptured_nil rfl, rfl⟩

end Sys2Proof.Machine
end

section
/-! PROOFS. Answers that are missed or fail their check (R60 to R62, R95, R104, R113, R122). -/

namespace Sys2Proof.Machine

-- The counting of a miss (R60)

/-- The miss is the third in a row of an element that is not ABSENT (R60). -/
def thirdMiss (r : ElementRun) : Bool := r.presence != .absent && decide (2 ≤ r.missCount)

/-- A run-time part that has become ABSENT, in front of the fault (R60). -/
def ElementRun.gone (r : ElementRun) : ElementRun := { r with missCount := 3, presence := .absent }

/-- A run-time part behind one more miss that is not the third (R60). -/
def ElementRun.missedOnce (r : ElementRun) : ElementRun :=
  if r.presence = .absent then r else { r with missCount := r.missCount + 1 }

theorem countMiss_of_third {e : Nat} {s : State} (h : thirdMiss (s.run e) = true) :
    countMiss e s = (recordFault e .absent (s.setRun e (s.run e).gone)).setFlag .presence := by
  obtain ⟨hpresence, hcount⟩ : (s.run e).presence ≠ .absent ∧ 2 ≤ (s.run e).missCount := by simpa [thirdMiss] using h
  rw [countMiss, if_neg hpresence, if_neg (by omega)]
  rfl

theorem countMiss_of_absent {e : Nat} {s : State} (h : (s.run e).presence = .absent) : countMiss e s = s := if_pos h

theorem countMiss_of_earlier {e : Nat} {s : State} (h : thirdMiss (s.run e) = false)
    (hpresence : (s.run e).presence ≠ .absent) : countMiss e s = s.setRun e (s.run e).missedOnce := by
  have hcount : (s.run e).missCount < 2 := by simpa [thirdMiss, hpresence] using h
  rw [countMiss, if_neg hpresence, if_pos (by omega), ElementRun.missedOnce, if_neg hpresence]

/-- A run-time part behind a miss (R60). -/
def ElementRun.missed (r : ElementRun) : ElementRun := if thirdMiss r then r.gone.faulted .absent else r.missedOnce

section
variable {e : Nat} (he : 1 ≤ e ∧ e ≤ 32) (s : State)
include he

theorem countMiss_run (k : Nat) : (countMiss e s).run k = if k = e then (s.run e).missed else s.run k := by
  cases h : thirdMiss (s.run e) with
  | true =>
    rw [countMiss_of_third h, ElementRun.missed, if_pos h]
    by_cases hk : k = e <;> simp [recordFault_run, run_setRun, he, hk]
  | false =>
    rw [ElementRun.missed, h, if_neg Bool.false_ne_true]
    by_cases hpresence : (s.run e).presence = .absent
    · rw [countMiss_of_absent hpresence, ElementRun.missedOnce, if_pos hpresence]
      split <;> simp [*]
    · rw [countMiss_of_earlier h hpresence, run_setRun]
      simp [he]

end

theorem countMiss_flagSet (e : Nat) (f : Flag) (s : State) : (countMiss e s).flagSet f = (s.flagSet f
    || (thirdMiss (s.run e) && (decide (flagNumber .elementFault = flagNumber f)
      || decide (flagNumber .presence = flagNumber f)))) := by
  cases h : thirdMiss (s.run e) with
  | true =>
    have hset : (s.setRun e (s.run e).gone).flagSet f = s.flagSet f := rfl
    rw [countMiss_of_third h, flagSet_setFlag, recordFault_flagSet, hset, Bool.true_and, Bool.or_assoc]
  | false =>
    rw [Bool.false_and, Bool.or_false]
    by_cases hpresence : (s.run e).presence = .absent
    · rw [countMiss_of_absent hpresence]
    · rw [countMiss_of_earlier h hpresence]
      rfl

theorem countMiss_captured (e : Nat) (s : State) : (countMiss e s).captured = if thirdMiss (s.run e) then
    captureBehind s.captured { kind := .absent, element := e, time := s.faultTime } else s.captured := by
  cases h : thirdMiss (s.run e) with
  | true =>
    rw [countMiss_of_third h]
    exact recordFault_captured e .absent (s.setRun e (s.run e).gone)
  | false =>
    by_cases hpresence : (s.run e).presence = .absent
    · rw [countMiss_of_absent hpresence]
      rfl
    · rw [countMiss_of_earlier h hpresence]
      rfl

theorem countMiss_lights (e : Nat) (s : State) : (countMiss e s).lights = s.lights ∧ (countMiss e s).bus = s.bus := by
  unfold countMiss
  dsimp only
  split
  · exact ⟨rfl, rfl⟩
  · split
    · exact ⟨rfl, rfl⟩
    · exact recordFault_lights (by simp) e _

-- A missed answer (R60, R95)

/-- The result of a transaction that is missed: bytes that failed the check, or no answer at all (R95). -/
def missResult (failed : Bool) : BusResult := if failed then .failedCheck else .noAnswer

/-- The state in which a failed check has been recorded, in front of the miss (R60, step 1). -/
def checked (e : Nat) (failed : Bool) (s : State) : State := if failed then recordFault e .check s else s

/-- The state in which the missed answer of a defined element has been reported (R60, R95). -/
def missed (e : Nat) (failed : Bool) (s : State) : State := countMiss e (checked e failed s.withBusFree)

theorem reportResult_missResult {e : Nat} {s : State} (hd : s.defined e = true) (failed : Bool) :
    reportResult e (missResult failed) s.withBusFree = missed e failed s := by
  cases failed <;> exact if_pos hd

/-- A run-time part behind a failed check (R60, R61). -/
def ElementRun.checked (failed : Bool) (r : ElementRun) : ElementRun := if failed then r.faulted .check else r

theorem thirdMiss_checked (failed : Bool) (r : ElementRun) : thirdMiss (r.checked failed) = thirdMiss r := by
  cases failed <;> rfl

@[simp] theorem missed_frame (e : Nat) (failed : Bool) (s : State) :
    (missed e failed s).claims = s.claims ∧ (missed e failed s).lights = s.lights
      ∧ (missed e failed s).bus = { s.bus with current := none } ∧ (missed e failed s).score = s.score
      ∧ (∀ k, (missed e failed s).defined k = s.defined k) := by
  have hchecked : (checked e failed s.withBusFree).lights = s.lights
      ∧ (checked e failed s.withBusFree).bus = { s.bus with current := none } := by
    cases failed
    · exact ⟨rfl, rfl⟩
    · exact recordFault_lights (by simp) e _
  obtain ⟨hlights, hbus⟩ := countMiss_lights e (checked e failed s.withBusFree)
  rw [missed, hlights, hbus, hchecked.1, hchecked.2]
  cases failed <;> simp [checked, State.withBusFree, State.defined, State.elemDef]

section
variable {e : Nat} (he : 1 ≤ e ∧ e ≤ 32) (failed : Bool) (s : State)
include he

theorem checked_run (k : Nat) : (checked e failed s.withBusFree).run k
    = if k = e then (s.run e).checked failed else s.run k := by
  cases failed with
  | false =>
    by_cases hk : k = e
    · rw [hk, if_pos rfl]
      rfl
    · rw [if_neg hk]
      rfl
  | true =>
    rw [checked, if_pos rfl, recordFault_run]
    simp only [he, and_true]
    rfl

theorem missed_run (k : Nat) : (missed e failed s).run k
    = if k = e then ((s.run e).checked failed).missed else s.run k := by
  rw [missed, countMiss_run he, checked_run he, checked_run he, if_pos rfl]
  split <;> rfl

theorem missed_flagSet (f : Flag) : (missed e failed s).flagSet f = (s.flagSet f
    || (failed && decide (flagNumber .elementFault = flagNumber f))
    || (thirdMiss (s.run e) && (decide (flagNumber .elementFault = flagNumber f)
      || decide (flagNumber .presence = flagNumber f)))) := by
  have hchecked : (checked e failed s.withBusFree).flagSet f
      = (s.flagSet f || (failed && decide (flagNumber .elementFault = flagNumber f))) := by
    cases failed with
    | false => simp [checked, State.withBusFree, State.flagSet]
    | true => exact recordFault_flagSet e .check f _
  rw [missed, countMiss_flagSet, checked_run he, if_pos rfl, thirdMiss_checked, hchecked]

theorem faultsCaptured_missed : faultsCaptured e
    ((if failed = true then [.check] else []) ++ (if thirdMiss (s.run e) = true then [.absent] else [])) s
    (missed e failed s) := by
  have htime : (checked e failed s.withBusFree).faultTime = s.faultTime := by
    cases failed <;> simp [checked, State.faultTime, State.withBusFree]
  have hchecked : (checked e failed s.withBusFree).captured = if failed = true then
      captureBehind s.captured { kind := .check, element := e, time := s.faultTime } else s.captured := by
    cases failed with
    | false => rfl
    | true => exact recordFault_captured e .check _
  have hmissed := countMiss_captured e (checked e failed s.withBusFree)
  rw [checked_run he, if_pos rfl, thirdMiss_checked, htime, hchecked] at hmissed
  change (countMiss e (checked e failed s.withBusFree)).captured = _
  rw [hmissed]
  cases failed <;> cases thirdMiss (s.run e) <;> rfl

end

end Sys2Proof.Machine
end

section
/-! PROOFS. What misses leave behind, the timers of actuation and pulse, and how a display is computed and issued (R56, R57,
R60 to R62, R95, R104 to R106, R113, R116 to R122). -/

namespace Sys2Proof.Machine

-- A run-time part behind a miss (R60)

/-- The faults of a miss, in their order (R60). -/
def missFaults (failed third : Bool) : List FaultKind :=
  (if failed = true then [.check] else []) ++ (if third = true then [.absent] else [])

theorem ElementRun.missed_checked (failed : Bool) (r : ElementRun) :
    (r.checked failed).missed.missCount
        = (if r.presence = .absent then r.missCount else if thirdMiss r = true then 3 else r.missCount + 1)
      ∧ (r.checked failed).missed.presence = (if thirdMiss r = true then .absent else r.presence)
      ∧ (r.checked failed).missed.faultTally = (if missFaults failed (thirdMiss r) = [] then r.faultTally
          else min 255 (r.faultTally + (missFaults failed (thirdMiss r)).length))
      ∧ (r.checked failed).missed.lastFault
        = (if thirdMiss r = true then some .absent else if failed = true then some .check else r.lastFault)
      ∧ (r.checked failed).missed.jammed = r.jammed ∧ (r.checked failed).missed.lastOutcome = r.lastOutcome
      ∧ (r.checked failed).missed.withdrawn = r.withdrawn
      ∧ (r.checked failed).missed.withdrawPending = r.withdrawPending := by
  rw [ElementRun.missed, thirdMiss_checked]
  cases hthird : thirdMiss r with
  | true =>
    obtain ⟨hpresence, _⟩ : r.presence ≠ .absent ∧ 2 ≤ r.missCount := by simpa [thirdMiss] using hthird
    cases failed
    · simp [ElementRun.checked, ElementRun.gone, ElementRun.faulted, missFaults, hpresence]
    · simp [ElementRun.checked, ElementRun.gone, ElementRun.faulted, missFaults, hpresence]
      exact ⟨by omega, by cases r.jammed <;> rfl⟩
  | false =>
    by_cases hpresence : r.presence = .absent <;>
      cases failed <;>
        simp [ElementRun.checked, ElementRun.missedOnce, ElementRun.faulted, missFaults, hpresence]

/-- What a miss of an element leaves, whatever was asked of it (R60, R95). -/
structure MissLeft (e : Nat) (failed third : Bool) (s t : State) : Prop where
  current : t.bus.current = none
  missCount : (t.run e).missCount = (if (s.run e).presence = .absent then (s.run e).missCount
    else if third = true then 3 else (s.run e).missCount + 1)
  presence : (t.run e).presence = (if third = true then .absent else (s.run e).presence)
  faultTally : (t.run e).faultTally = (if missFaults failed third = [] then (s.run e).faultTally
    else min 255 ((s.run e).faultTally + (missFaults failed third).length))
  lastFault : (t.run e).lastFault = (if third = true then some .absent else if failed = true then some .check
    else (s.run e).lastFault)
  captured : faultsCaptured e (missFaults failed third) s t
  elementFault : t.flagSet .elementFault = (s.flagSet .elementFault || failed || third)
  presenceFlag : t.flagSet .presence = (s.flagSet .presence || third)
  jammed : (t.run e).jammed = (s.run e).jammed
  alliances : t.score.alliances = s.score.alliances
  others : ∀ k, k ≠ e → t.run k = s.run k ∧ t.act k = s.act k ∧ t.claim k = s.claim k ∧ t.light k = s.light k

theorem missLeft_missed {e : Nat} (he : 1 ≤ e ∧ e ≤ 32) (failed : Bool) (s : State) :
    MissLeft e failed (thirdMiss (s.run e)) s (missed e failed s) := by
  have hrun : (missed e failed s).run e = ((s.run e).checked failed).missed := by rw [missed_run he, if_pos rfl]
  obtain ⟨hcount, hpresence, htally, hlast, hjammed, _, _, _⟩ := (s.run e).missed_checked failed
  have hflags := missed_flagSet he failed s
  refine ⟨by simp, hrun ▸ hcount, hrun ▸ hpresence, hrun ▸ htally, hrun ▸ hlast, faultsCaptured_missed he failed s,
    ?_, ?_, hrun ▸ hjammed, by simp, fun k hk => ⟨?_, ?_, ?_, ?_⟩⟩
  · rw [hflags]
    simp
  · rw [hflags]
    simp [flagNumber]
  · rw [missed_run he, if_neg hk]
  · simp [State.act]
  · simp [State.claim]
  · simp [State.light]

/-- What a miss leaves is left whatever else its transaction does to lights, pass-through slot and other flags. -/
theorem MissLeft.of_kept {e : Nat} {failed third : Bool} {s w t : State} (h : MissLeft e failed third s w)
    (hcurrent : t.bus.current = w.bus.current) (hruns : ∀ k, t.run k = w.run k) (hcaptured : t.captured = w.captured)
    (hfault : t.flagSet .elementFault = w.flagSet .elementFault) (hpresence : t.flagSet .presence = w.flagSet .presence)
    (halliances : t.score.alliances = w.score.alliances)
    (hothers : ∀ k, k ≠ e → t.act k = w.act k ∧ t.claim k = w.claim k ∧ t.light k = w.light k) :
    MissLeft e failed third s t where
  current := hcurrent.trans h.current
  missCount := hruns e ▸ h.missCount
  presence := hruns e ▸ h.presence
  faultTally := hruns e ▸ h.faultTally
  lastFault := hruns e ▸ h.lastFault
  captured := hcaptured.trans h.captured
  elementFault := hfault.trans h.elementFault
  presenceFlag := hpresence.trans h.presenceFlag
  jammed := hruns e ▸ h.jammed
  alliances := halliances.trans h.alliances
  others k hk := by
    obtain ⟨hrun, hact, hclaim, hlight⟩ := h.others k hk
    obtain ⟨hact', hclaim', hlight'⟩ := hothers k hk
    exact ⟨(hruns k).trans hrun, hact'.trans hact, hclaim'.trans hclaim, hlight'.trans hlight⟩

/-- The end of the actuation that a missed ACTUATE brings leaves what the miss has left (R104, R106). -/
theorem MissLeft.endActuation {e : Nat} {failed third : Bool} {s w : State} (he : 1 ≤ e ∧ e ≤ 32)
    (h : MissLeft e failed third s w) : MissLeft e failed third s (endActuation e .noAnswer w) := by
  have hnot : ActOutcome.noAnswer ≠ .aborted := by simp
  obtain ⟨_, hpresence, hcount⟩ := endActuation_run_fields he hnot (s := w)
  obtain ⟨hlast, htally, hjammed⟩ := endActuation_run_of_noFault he hnot (s := w) rfl
  have hflags := endActuation_flagSet he hnot (s := w)
  refine ⟨by simpa using h.current, hcount.trans h.missCount, hpresence.trans h.presence, htally.trans h.faultTally,
    hlast.trans h.lastFault, (endActuation_captured he hnot).trans h.captured, ?_, ?_, hjammed.trans h.jammed,
    by simpa using h.alliances, fun k hk => ?_⟩
  · rw [hflags, ← h.elementFault]
    simp [flagNumber, endingFault]
  · rw [hflags, ← h.presenceFlag]
    simp [flagNumber, endingFault]
  · obtain ⟨hrun, hact, hclaim, hlight⟩ := h.others k hk
    rw [endActuation_run he hnot, if_neg hk, endActuation_act he hnot, if_neg hk, endActuation_claim he hnot,
      if_neg (by simp [hk]), endActuation_light_other he hnot hk]
    exact ⟨hrun, hact, hclaim, hlight⟩

-- The transaction that is missed (R95)

/-- A window that runs out and bytes that fail the check end their transaction with a miss (R95). -/
theorem exec_missed {s : State} {q : BusRequest} {left : Nat} {bytes : List Byte} {c : Instr} {failed : Bool} (hs : s.awake)
    (hcurrent : s.bus.current = some { request := q, window := some left })
    (hc : (c = .answerWindowExpiry ∧ failed = false)
      ∨ (c = .busAnswer bytes ∧ failed = true ∧ goodAnswerOf q bytes = none)) :
    exec c s = .next (settle (actOnResult q (missResult failed)
      (reportResult (busAddress q) (missResult failed) s.withBusFree))) := by
  rcases hc with ⟨rfl, rfl⟩ | ⟨rfl, rfl, hbad⟩
  · exact exec_answerWindowExpiry_of_waiting hs hcurrent
  · exact exec_busAnswer_of_bad hs hcurrent hbad

/-- What a miss does to its own transaction (R96, R104, R113, R122). -/
theorem actOnResult_missResult (e : Nat) (failed : Bool) (w : State) :
    actOnResult (.poll e) (missResult failed) w = w
      ∧ (∀ a, actOnResult (.actuate e a) (missResult failed) w = endActuation e .noAnswer w)
      ∧ (∀ d, actOnResult (.light e d) (missResult failed) w = lightFailed e w)
      ∧ ∀ p, actOnResult (.raw e p) (missResult failed) w
        = passArrives (if failed = true then .checkFail else .noAnswer) w := by
  cases failed <;> exact ⟨rfl, fun _ => rfl, fun _ => rfl, fun _ => rfl⟩

theorem lightFailed_light_other {e k : Nat} (hk : k ≠ e) (s : State) : (lightFailed e s).light k = s.light k := by
  unfold lightFailed
  split
  · simp [light_setLight, hk]
  · rfl

-- The timers (R105, R118)

theorem exec_actuationTimerExpiry {s : State} {e : Nat} (hs : s.awake) (hstate : (s.act e).state = .inFlight)
    (htimer : (s.act e).timer.isSome = true) :
    exec (.actuationTimerExpiry e) s = .next (settle (endActuation e .jammed s)) :=
  congrArg Host.Outcome.next ((whenAwake_of_awake hs _).trans (if_pos (by simp [hstate, htimer])))

theorem exec_pulseTimerExpiry {s : State} {e : Nat} (hs : s.awake) (htimer : (s.light e).pulse.isSome = true) :
    exec (.pulseTimerExpiry e) s
      = .next (settle (recompute e (s.setLight e { s.light e with pulse := none }))) :=
  congrArg Host.Outcome.next ((whenAwake_of_awake hs _).trans (if_pos htimer))

-- The computed display and its issuing (R117, R120)

theorem display_eq (s : State) (e : Nat) : s.display e =
    if s.defined e = false ∨ (s.run e).withdrawn = true then .off
    else if (s.elemDef e).policy.score = true ∧ (s.light e).pulse.isSome = true then
      .lit .pulse (.alliance ((s.light e).lastCredited.getD 0))
    else if (s.elemDef e).policy.contest = true ∧ (s.claim e).holder.isSome = true ∧ (s.claim e).waiters ≠ [] then
      .lit .slow (.alliance (((s.claim e).holder.map fun h => (s.slot h).alliance).getD 0))
    else if (s.elemDef e).policy.pending = true ∧ ((s.run e).withdrawPending = true ∨ (s.run e).jammed = true) then
      .lit .fast .white
    else if (s.elemDef e).policy.hold = true ∧ (s.elemDef e).policy.noSteady = false then
      match (s.claim e).holder, (s.elemDef e).side with
      | some h, _ => .lit .steady (.alliance (s.slot h).alliance)
      | none, some a => .lit .steady (.alliance a)
      | none, none => .off
    else .off := by
  refine if_congr (by simp) rfl (if_congr (by simp) rfl (if_congr ?_ rfl (if_congr (by simp) rfl
    (if_congr (by simp) ?_ rfl))))
  · simp [and_assoc]
  · rw [State.holderAlliance]
    cases (s.claim e).holder <;> cases (s.elemDef e).side <;> rfl

end Sys2Proof.Machine
end

section
/-! PROOFS. The claims about missed answers, running timers and displays, put together (R56, R57, R60 to R62, R95, R104 to
R106, R113, R116 to R122). -/

namespace Sys2Proof.Machine

-- A miss by the transaction (R60, R95)

section
variable {s : State} {e left : Nat} {bytes : List Byte} {c : Instr} {failed : Bool} (he : 1 ≤ e ∧ e ≤ 32)
include he

theorem missed_run_fields : ((missed e failed s).run e).lastOutcome = (s.run e).lastOutcome
    ∧ ((missed e failed s).run e).withdrawn = (s.run e).withdrawn
    ∧ ((missed e failed s).run e).withdrawPending = (s.run e).withdrawPending := by
  obtain ⟨_, _, _, _, _, houtcome, hwithdrawn, hpending⟩ := (s.run e).missed_checked failed
  rw [missed_run he, if_pos rfl]
  exact ⟨houtcome, hwithdrawn, hpending⟩

theorem missLeft_lightFailed :
    MissLeft e failed (thirdMiss (s.run e)) s (lightFailed e (missed e failed s)) := by
  refine (missLeft_missed he failed s).of_kept (by simp) (by simp) (by simp [State.captured]) (by simp [State.flagSet])
    (by simp [State.flagSet]) (by simp) fun k hk => ?_
  rw [lightFailed_light_other hk]
  simp

theorem missLeft_passArrives (p : PassSlot) :
    MissLeft e failed (thirdMiss (s.run e)) s (passArrives p (missed e failed s)) :=
  (missLeft_missed he failed s).of_kept rfl (fun _ => rfl) rfl
    (flagSet_setFlag_other (s := (missed e failed s).setPass p) (by decide))
    (flagSet_setFlag_other (s := (missed e failed s).setPass p) (by decide)) rfl fun _ _ => ⟨rfl, rfl, rfl⟩

/-- A missed ACTUATE ends NO_ANSWER (R57, R104). -/
theorem missed_actuate : ((endActuation e .noAnswer (missed e failed s)).run e).lastOutcome = some .noAnswer
    ∧ (endActuation e .noAnswer (missed e failed s)).act e = restAct
    ∧ pendingWithdrawalTaken e s (endActuation e .noAnswer (missed e failed s))
    ∧ ((s.act e).origin = some .console → (endActuation e .noAnswer (missed e failed s)).flagSet .consoleActDone = true)
    ∧ ((s.run e).withdrawPending = false → (endActuation e .noAnswer (missed e failed s)).score = s.score) := by
  have hnot : ActOutcome.noAnswer ≠ .aborted := by simp
  obtain ⟨_, hwithdrawn, hpending⟩ := missed_run_fields (s := s) (failed := failed) he
  obtain ⟨houtcome, _, _⟩ := endActuation_run_fields he hnot (s := missed e failed s)
  have hact (k : Nat) : (missed e failed s).act k = s.act k := by simp [State.act]
  refine ⟨houtcome, by rw [endActuation_act he hnot, if_pos rfl],
    pendingWithdrawalTaken_congr (pendingWithdrawalTaken_endActuation he hnot) hpending hwithdrawn (by simp [State.claim])
      (by simp [State.elemScore]) (by simp), fun h => ?_, fun h => ?_⟩
  · rw [endActuation_flagSet he hnot, hact, h]
    simp
  · rw [endActuation_score he hnot (hpending.trans h)]
    simp

end

/-- What a miss does beside what it reports, by the request (R104, R113, R122). -/
def MissBy (e : Nat) (q : BusRequest) (failed : Bool) (s t : State) : Prop :=
  (∀ a, q = .actuate e a → (t.run e).lastOutcome = some .noAnswer
      ∧ t.act e = { state := .none, origin := none, charge := none, timer := none }
      ∧ pendingWithdrawalTaken e s t
      ∧ ((s.act e).origin = some .console → t.flagSet .consoleActDone = true)
      ∧ ((s.run e).withdrawPending = false → t.score = s.score))
    ∧ ((∀ a, q ≠ .actuate e a) → t.bus.acts = s.bus.acts ∧ t.claims = s.claims ∧ t.score = s.score
      ∧ (t.run e).lastOutcome = (s.run e).lastOutcome ∧ (t.run e).withdrawn = (s.run e).withdrawn
      ∧ (t.run e).withdrawPending = (s.run e).withdrawPending)
    ∧ (∀ d, q = .light e d → s.lightQueued e = false → t.light e = { s.light e with issued := none })
    ∧ (∀ d, q = .light e d → s.lightQueued e = true → t.lights = s.lights)
    ∧ ∀ p, q = .raw e p → t.bus.pass = (if failed = true then .checkFail else .noAnswer)
      ∧ t.flagSet .passDone = true

theorem missBy_of {s : State} {e : Nat} {q : BusRequest} (he : 1 ≤ e ∧ e ≤ 32) (hd : s.defined e = true)
    (haddress : busAddress q = e) (hq : q ≠ .halt) (failed : Bool) :
    MissLeft e failed (thirdMiss (s.run e)) s (actOnResult q (missResult failed) (missed e failed s))
      ∧ MissBy e q failed s (actOnResult q (missResult failed) (missed e failed s)) := by
  obtain ⟨hpoll, hactuate, hlight, hraw⟩ := actOnResult_missResult e failed (missed e failed s)
  have hfields := missed_run_fields (s := s) (failed := failed) he
  cases q with
  | halt => exact absurd rfl hq
  | poll k =>
    obtain rfl : k = e := haddress
    rw [hpoll]
    exact ⟨missLeft_missed he failed s, nofun, fun _ => ⟨by simp, by simp, by simp, hfields⟩, nofun, nofun, nofun⟩
  | actuate k a =>
    obtain rfl : k = e := haddress
    rw [hactuate]
    exact ⟨(missLeft_missed he failed s).endActuation he, fun _ _ => missed_actuate he, fun h => absurd rfl (h a), nofun,
      nofun, nofun⟩
  | light k d =>
    obtain rfl : k = e := haddress
    have hqueued : (missed k failed s).lightQueued k = s.lightQueued k := by simp [State.lightQueued]
    rw [hlight]
    refine ⟨missLeft_lightFailed he, nofun, fun _ => ⟨by simp, by simp, by simp, by simpa using hfields⟩,
      fun _ _ hnone => ?_, fun _ _ hsome => ?_, nofun⟩
    · rw [lightFailed, if_pos (by simp [hqueued, hnone, hd]), light_setLight, if_pos ⟨rfl, he⟩]
      simp [State.light]
    · rw [lightFailed, if_neg (by simp [hqueued, hsome])]
      simp
  | raw k p =>
    obtain rfl : k = e := haddress
    rw [hraw]
    exact ⟨missLeft_passArrives he _, nofun, fun _ => ⟨by simp [passArrives], by simp [passArrives],
      by simp [passArrives], hfields⟩, nofun, nofun, fun _ _ => ⟨rfl, flagSet_setFlag_self .passDone _⟩⟩

-- The issuing of a display (R120)

theorem recompute_of_defined {e : Nat} {s : State} (hd : s.defined e = true) :
    recompute e s = issueLight e { s.light e with computed := s.display e } s := if_pos hd

theorem lightQueued_iff (s : State) (e : Nat) : s.lightQueued e = true ↔ ∃ y ∈ s.bus.queue, y.isLightFor e = true :=
  List.any_eq_true

theorem lightQueued_of_none {s : State} {e : Nat} (h : ∀ y ∈ s.bus.queue, y.isLightFor e = false) :
    ¬s.lightQueued e = true := by
  rw [lightQueued_iff]
  rintro ⟨y, hy, hlight⟩
  simp [h y hy] at hlight

/-- A state with the lights and the queue of another. -/
def State.withLightsOf (x t : State) : State := { t with lights := x.lights, bus := { t.bus with queue := x.bus.queue } }

theorem recompute_withLightsOf (x s : State) (e : Nat) : x.withLightsOf (recompute e s) = x.withLightsOf s := by
  unfold recompute issueLight
  split_ifs <;> rfl

/-- Settles O46: the miss by its transaction, the two timers by the end that they bring, and the display by its conditions. -/
theorem missedAnswersAndTimersRunOut : Obligations.MissedAnswersAndTimersRunOut := by
  refine ⟨⟨fun s e left q bytes c failed third kinds hs h1 h32 hcurrent haddress hq hc hthird hkinds => ⟨fun hd => ?_,
      fun hd => ⟨?_, ?_⟩⟩, fun s bytes hs hcurrent => ?_⟩, fun s e hs hd => ⟨fun hstate htimer => ?_, fun hpulse => ?_⟩,
    fun s e d c l x hdef hclaim hlight hx => ⟨?_, fun hd => ?_, fun hd => ⟨fun hissued => ?_, fun hissued hqueued => ?_,
      fun hissued hnone hroom => ?_, fun hissued hnone hfull => ?_⟩⟩⟩
  · have hthird' : third = thirdMiss (s.run e) := by
      rw [Bool.eq_iff_iff, hthird]
      simp [thirdMiss]
    subst hthird' hkinds
    obtain ⟨hleft, hby⟩ := missBy_of ⟨h1, h32⟩ hd haddress hq failed
    have hexec := exec_missed hs hcurrent hc
    rw [haddress, reportResult_missResult hd] at hexec
    obtain ⟨hactuate, hother, hlight, hqueued, hraw⟩ := hby
    exact ⟨_, hexec, hleft.current, hleft.missCount, hleft.presence, hleft.faultTally, hleft.lastFault, hleft.captured,
      hleft.elementFault, hleft.presenceFlag, hleft.jammed, hactuate, hother, hlight, hqueued, hraw, hleft.alliances,
      hleft.others⟩
  · rintro p rfl
    obtain ⟨-, -, -, hraw⟩ := actOnResult_missResult e failed s.withBusFree
    rw [exec_missed hs hcurrent hc, haddress, reportResult_of_undefined (by simp [hd])]
    exact congrArg (fun t => Host.Outcome.next (settle t)) (hraw p)
  · rintro d rfl
    obtain ⟨-, -, hlight, -⟩ := actOnResult_missResult e failed s.withBusFree
    have hnone : lightFailed e s.withBusFree = s.withBusFree := if_neg (by
      simp [show s.withBusFree.defined e = false from hd])
    rw [exec_missed hs hcurrent hc, haddress, reportResult_of_undefined (by simp [hd])]
    exact congrArg (fun t => Host.Outcome.next (settle t)) ((hlight d).trans hnone)
  · refine congrArg Host.Outcome.next ((whenAwake_of_awake hs _).trans ?_)
    rw [takeResult, hcurrent]
  · have he := element_range_of_defined hd
    have hnot : ActOutcome.jammed ≠ .aborted := by simp
    obtain ⟨houtcome, _, _⟩ := endActuation_run_fields he hnot (s := s)
    obtain ⟨hlast, htally, hjammed⟩ := endActuation_run_of_fault he hnot (s := s) rfl
    have hflags := endActuation_flagSet he hnot (s := s)
    have hquota (k : Nat) : (endActuation e .jammed s).quotaLeft e k = s.quotaLeft e k := by
      rw [State.quotaLeft, endActuation_elemScore he hnot]
      split <;> rfl
    refine ⟨_, exec_actuationTimerExpiry hs hstate htimer, by rw [endActuation_act he hnot, if_pos rfl]; rfl, houtcome,
      by rw [hjammed]; simp, hlast, htally, by rw [hflags]; simp [endingFault],
      faultsCaptured_singleton (endActuation_captured he hnot), pendingWithdrawalTaken_endActuation he hnot,
      fun h => by rw [hflags, h]; simp, hquota, by simp, fun k hk => ⟨?_, ?_, ?_⟩⟩
    · rw [endActuation_act he hnot, if_neg hk]
    · rw [endActuation_run he hnot, if_neg hk]
    · rw [endActuation_claim he hnot, if_neg (by simp [hk])]
  · have he := element_range_of_defined hd
    obtain ⟨hstopped, hcredited⟩ := recompute_light_pulse e e (s.setLight e { s.light e with pulse := none })
    rw [light_setLight, if_pos ⟨rfl, he⟩] at hstopped hcredited
    exact ⟨_, exec_pulseTimerExpiry hs hpulse, hstopped, hcredited, showsState_recompute (by simpa using hd),
      recompute_withLightsOf s _ e⟩
  · rw [hx, hdef, hclaim, hlight]
    exact display_eq s e
  · exact if_neg (by simp [hd])
  · rw [recompute_of_defined hd, ← hlight, ← hx, issueLight, if_pos hissued]
  · rw [recompute_of_defined hd, ← hlight, ← hx, issueLight, if_neg hissued,
      if_pos ((lightQueued_iff s e).mpr hqueued)]
    rfl
  · rw [recompute_of_defined hd, ← hlight, ← hx, issueLight, if_neg hissued,
      if_neg (lightQueued_of_none hnone), queuePlaces, if_pos hroom]
    rfl
  · rw [recompute_of_defined hd, ← hlight, ← hx, issueLight, if_neg hissued,
      if_neg (lightQueued_of_none hnone), queuePlaces,
      if_neg (Nat.not_lt.mpr hfull)]

end Sys2Proof.Machine
end

section
/-! PROOFS. SET SETTING, and the ALLOWED TIERS that reach the roster (R20, R41, R87, R186, R187). -/

namespace Sys2Proof.Machine

-- The roster behind a change of ALLOWED TIERS (R41)

/-- A slot record behind the recheck of its tier (R41). -/
def Slot.rechecked (g : Settings) (x : Slot) : Slot :=
  if (x.state = .offered || x.state = .admitted || x.state = .disabled)
      && !hasTier g.allowedTiers (x.tier.getD 0) then toExpected g x
  else x

theorem rechecked_congr {g : Settings} {x y : Slot} (h : SameButCounts x y) :
    SameButCounts (x.rechecked g) (y.rechecked g) := by
  refine ⟨?_⟩
  rw [h.eq]
  unfold Slot.rechecked
  dsimp only
  split <;> rfl

theorem recheckTier_slot_same {n : Nat} (hn : 1 ≤ n ∧ n ≤ 24) (s : State) :
    SameButCounts ((s.slot n).rechecked s.settings) ((recheckTier n s).slot n) := by
  unfold recheckTier Slot.rechecked
  dsimp only
  split
  · rw [returnToExpected_eq, setSlot_slot_self hn]
    refine ⟨?_⟩
    rw [(sameButCounts_dropClaims n s n).eq]
    rfl
  · exact .refl _

theorem recheckTier_slot_other {n k : Nat} (hk : k ≠ n) (s : State) :
    SameButCounts (s.slot k) ((recheckTier n s).slot k) := by
  unfold recheckTier
  dsimp only
  split
  · rw [returnToExpected_eq, setSlot_slot_other hk]
    exact sameButCounts_dropClaims n s k
  · exact .refl _

@[simp] theorem recheckTier_settings (n : Nat) (s : State) : (recheckTier n s).settings = s.settings := by
  unfold recheckTier
  dsimp only
  split <;> simp

/-- The recheck comes to each slot of a list once, and to the others not at all. -/
theorem recheck_slots {l : List Nat} (hl : l.Nodup) (hrange : ∀ n ∈ l, 1 ≤ n ∧ n ≤ 24) (s : State) (k : Nat) :
    (k ∉ l → SameButCounts (s.slot k) ((l.foldl (fun s n => recheckTier n s) s).slot k))
      ∧ (k ∈ l → SameButCounts ((s.slot k).rechecked s.settings)
          ((l.foldl (fun s n => recheckTier n s) s).slot k)) := by
  induction l generalizing s with
  | nil => exact ⟨fun _ => .refl _, by simp⟩
  | cons n l ih =>
    obtain ⟨hnot, hnodup⟩ := List.nodup_cons.mp hl
    obtain ⟨hout, hin⟩ := ih hnodup (fun m hm => hrange m (List.mem_cons_of_mem n hm)) (recheckTier n s)
    rw [recheckTier_settings] at hin
    rw [List.foldl_cons]
    by_cases hk : k = n
    · subst hk
      exact ⟨by simp, fun _ => (recheckTier_slot_same (hrange k (by simp)) s).trans (hout hnot)⟩
    · have hsame := recheckTier_slot_other hk s
      exact ⟨fun h => hsame.trans (hout (by simp_all)), fun h => (rechecked_congr hsame).trans (hin (by simp_all))⟩

theorem recheckTiers_slot {n : Nat} (hn : 1 ≤ n ∧ n ≤ 24) (s : State) :
    SameButCounts ((s.slot n).rechecked s.settings) ((recheckTiers s).slot n) :=
  (recheck_slots (by decide) (fun _ => mem_slotNumbers.mp) s n).2 (mem_slotNumbers.mpr hn)

theorem recheckTiers_settings (s : State) : (recheckTiers s).settings = s.settings :=
  foldl_keep (fun s => s.settings) _ (fun s n => recheckTier_settings n s) slotNumbers s

theorem lawful_recheckTiers {s : State} (hs : Lawful s) : Lawful (recheckTiers s) := by
  have hevents := events_recheckTiers s
  generalize recheckTiers s = t at hevents
  induction hevents with
  | refl => exact hs
  | tail _ h ih => exact lawful_event h ih

/-- Under the law only ADMITTED slots hold and wait (R21, R67). -/
theorem holdsNothing_of_notAdmitted {s : State} (hs : Lawful s) {n : Nat} (hn : (s.slot n).state ≠ .admitted) :
    holdsNothing n s := by
  have hhold (e : Nat) : (s.claim e).holder ≠ some n := fun h => hn (hs.holder_admitted h)
  have hwait (e : Nat) : n ∉ (s.claim e).waiters := fun h => hn (hs.waiter_admitted h)
  exact ⟨fun e => ⟨hhold e, hwait e⟩, (hs.holdCount n).trans (holds_eq_zero hhold),
    (hs.waitCount n).trans (waits_eq_zero hwait)⟩

-- The checks and the writing of a setting (R186, R187)

theorem byte_toNat (b : Byte) : byte b.toNat = b := by simp [byte]

section
variable {s : State} {id : Byte} {v : Word} (hs : s.ready)
include hs

theorem exec_setSetting_of_badArg (h : settingInRange id.toNat = false ∨ settingCodeOk id.toNat v.toNat = false) :
    exec (.setSetting id v) s = .next (replied 0x02 .badArg [] (receiverDone s)) := by
  refine exec_refused hs (serveSetSetting id.toNat v.toNat) ?_
  rw [serveSetSetting]
  rcases h with h | h
  · rw [if_pos (by simp [h])]
  · by_cases hrange : settingInRange id.toNat = true
    · rw [if_neg (by simp [hrange]), if_pos (by simp [h])]
    · rw [if_pos (by simp [hrange])]

variable (hrange : 1 ≤ id.toNat ∧ id.toNat ≤ 16) (hcode : settingCodeOk id.toNat v.toNat = true)
include hrange hcode

theorem exec_setSetting_of_badState (h : settingPhaseOk id.toNat s.clock.phase = false
    ∨ (id.toNat = 2 ∧ s.allianceInUseAbove (clampSetting id.toNat v.toNat) = true)) :
    exec (.setSetting id v) s = .next (replied 0x02 .badState [] (receiverDone s)) := by
  refine exec_refused hs (serveSetSetting id.toNat v.toNat) ?_
  rw [serveSetSetting, if_neg (by simp [settingInRange, hrange]), if_neg (by simp [hcode])]
  rcases h with h | ⟨hid, huse⟩
  · rw [if_pos (by simpa using h)]
  · by_cases hphase : settingPhaseOk id.toNat s.clock.phase = true
    · rw [if_neg (by simpa using hphase), if_pos (by simpa [hid] using hid ▸ huse)]
    · rw [if_pos (by simpa using hphase)]

variable (hphase : settingPhaseOk id.toNat s.clock.phase = true)
    (huse : id.toNat = 2 → s.allianceInUseAbove (clampSetting id.toNat v.toNat) = false)
include hphase huse

theorem exec_setSetting_of_accepted : exec (.setSetting id v) s = .next (replied 0x02
    (okIf (clampSetting id.toNat v.toNat != v.toNat)) (id :: fourBytes (clampSetting id.toNat v.toNat))
    (changeSetting id.toNat (clampSetting id.toNat v.toNat) (receiverDone s))) := by
  have hserved : serveSetSetting id.toNat v.toNat (receiverDone s)
      = { state := changeSetting id.toNat (clampSetting id.toNat v.toNat) (receiverDone s),
          outcome := okIf (clampSetting id.toNat v.toNat != v.toNat),
          fields := byte id.toNat :: fourBytes (clampSetting id.toNat v.toNat) } := by
    rw [serveSetSetting, if_neg (by simp [settingInRange, hrange]), if_neg (by simp [hcode]),
      if_neg (by simpa using hphase), if_neg ?_]
    rw [Bool.and_eq_true, decide_eq_true_eq]
    rintro ⟨hid, hused⟩
    exact Bool.false_ne_true ((huse hid).symm.trans hused)
  rw [exec_request hs (serveSetSetting id.toNat v.toNat) hserved, byte_toNat]

end

/-- A setting that does not reach the roster is written and nothing else (R187). -/
theorem changeSetting_of_quiet {id v : Nat} {u : State}
    (h : id ≠ 3 ∨ u.clock.phase ≠ .staging ∨ BitVec.ofNat 4 v = u.settings.allowedTiers) :
    changeSetting id v u = { u with settings := writeSetting id v u.settings } := by
  refine if_neg ?_
  simp only [Bool.and_eq_true, decide_eq_true_eq, bne_iff_ne, not_and, not_not]
  rintro ⟨rfl, hphase⟩
  rcases h with h | h | h
  · exact absurd rfl h
  · exact absurd hphase h
  · exact h.symm

section
variable {s : State} {id : Byte} {v : Word} (hs : s.ready) (hrange : 1 ≤ id.toNat ∧ id.toNat ≤ 16)
    (hcode : settingCodeOk id.toNat v.toNat = true) (hphase : settingPhaseOk id.toNat s.clock.phase = true)
    (huse : id.toNat = 2 → s.allianceInUseAbove (clampSetting id.toNat v.toNat) = false)
    (hquiet : id.toNat ≠ 3 ∨ s.clock.phase ≠ .staging ∨ BitVec.ofNat 4 (clampSetting id.toNat v.toNat) = s.settings.allowedTiers)
include hs hrange hcode hphase huse hquiet

/-- A numeric setting is brought to the nearer end of its range (R187, step 4). -/
theorem exec_setSetting_of_ranged {lo hi : Nat} (hle : lo ≤ hi)
    (hclamp : clampSetting id.toNat v.toNat = clampTo lo hi v.toNat) :
    exec (.setSetting id v) s = .next (replied 0x02 (if lo ≤ v.toNat ∧ v.toNat ≤ hi then .ok else .okAdjusted)
      (id :: fourBytes (max lo (min hi v.toNat)))
      { receiverDone s with settings := writeSetting id.toNat (max lo (min hi v.toNat)) s.settings }) := by
  rw [exec_setSetting_of_accepted hs hrange hcode hphase huse, changeSetting_of_quiet (u := receiverDone s) hquiet, hclamp,
    okIf_clampTo_bne hle]
  rfl

theorem exec_setSetting_of_exact (hclamp : clampSetting id.toNat v.toNat = v.toNat) :
    exec (.setSetting id v) s = .next (replied 0x02 .ok (id :: fourBytes v.toNat)
      { receiverDone s with settings := writeSetting id.toNat v.toNat s.settings }) := by
  rw [exec_setSetting_of_accepted hs hrange hcode hphase huse, changeSetting_of_quiet (u := receiverDone s) hquiet, hclamp,
    bne_self_eq_false]
  rfl

end

/-- The numeric settings but ALLIANCE COUNT are taken with every value, in every phase (R187). -/
theorem exec_setSetting_of_numeric {s : State} {id : Byte} {v : Word} {lo hi : Nat} (hs : s.ready)
    (hid : 4 ≤ id.toNat ∧ id.toNat ≤ 16 ∧ id.toNat ≠ 12 ∧ id.toNat ≠ 14) (hle : lo ≤ hi)
    (hclamp : clampSetting id.toNat v.toNat = clampTo lo hi v.toNat) :
    exec (.setSetting id v) s = .next (replied 0x02 (if lo ≤ v.toNat ∧ v.toNat ≤ hi then .ok else .okAdjusted)
      (id :: fourBytes (max lo (min hi v.toNat)))
      { receiverDone s with settings := writeSetting id.toNat (max lo (min hi v.toNat)) s.settings }) := by
  obtain ⟨hlow, hhigh, hdownshift, hrestore⟩ := hid
  have h1 : id.toNat ≠ 1 := by omega
  have h2 : id.toNat ≠ 2 := by omega
  have h3 : id.toNat ≠ 3 := by omega
  exact exec_setSetting_of_ranged hs ⟨by omega, hhigh⟩ (by simp [settingCodeOk, h1, h3, hdownshift, hrestore])
    (by simp [settingPhaseOk, h2, h3]) (fun h => absurd h h2) (.inl h3) hle hclamp

theorem writeSetting_of_tierCap {id : Nat} (hlow : 4 ≤ id) (hhigh : id ≤ 7) (v : Nat) (g : Settings) :
    writeSetting id v g = { g with tierCaps := set1 g.tierCaps (id - 3) v } := by
  rw [writeSetting, if_neg (by omega), if_neg (by omega), if_neg (by omega), if_pos hhigh]

theorem allianceInUseAbove_eq_true_iff (s : State) (c : Nat) : s.allianceInUseAbove c = true ↔
    (∃ n, 1 ≤ n ∧ n ≤ 24 ∧ (s.slot n).state ≠ .empty ∧ c < (s.slot n).alliance)
      ∨ ∃ e a, 1 ≤ e ∧ e ≤ 32 ∧ s.defined e = true ∧ (s.elemDef e).side = some a ∧ c < a := by
  rw [State.allianceInUseAbove, Bool.or_eq_true, List.any_eq_true, List.any_eq_true]
  refine or_congr (exists_congr fun n => ?_) (exists_congr fun e => ?_)
  · rw [mem_slotNumbers]
    simp [and_assoc]
  · rw [mem_elementNumbers]
    cases (s.elemDef e).side with
    | none => simp [orZero]
    | some a =>
      simp only [orZero, Option.getD_some, Option.some.injEq, and_assoc, Bool.and_eq_true]
      exact ⟨fun ⟨h1, h32, hd, h⟩ => ⟨a, h1, h32, hd, rfl, of_decide_eq_true h⟩,
        fun ⟨_, h1, h32, hd, ha, h⟩ => ⟨h1, h32, hd, decide_eq_true (ha ▸ h)⟩⟩

/-- ALLOWED TIERS that change in STAGING reach the roster (R41). -/
theorem changeSetting_of_recheck {v : Nat} {u : State} (hphase : u.clock.phase = .staging)
    (h : BitVec.ofNat 4 v ≠ u.settings.allowedTiers) : changeSetting 3 v u
      = settle (recheckTiers { u with settings := writeSetting 3 v u.settings }) :=
  if_pos (by simpa [hphase, writeSetting] using h.symm)

/-- What is left of a slot by the recheck, field by field. -/
theorem rechecked_fields {g : Settings} {x y : Slot} (h : SameButCounts (x.rechecked g) y) :
    if (x.state = .offered ∨ x.state = .admitted ∨ x.state = .disabled) ∧ hasTier g.allowedTiers (x.tier.getD 0) = false
    then y.state = .expected ∧ y.tier = none ∧ y.cap = none ∧ y.wasLost = false ∧ y.confirmTimer = none
      ∧ y.silenceTimer = none ∧ y.restoreTimer = restoreStart g x.restoreTimer
    else y.state = x.state ∧ y.tier = x.tier ∧ y.silenceTimer = x.silenceTimer := by
  rw [h.eq]
  unfold Slot.rechecked
  split
  · next hback =>
    rw [if_pos (by simpa [or_assoc] using hback)]
    exact ⟨rfl, rfl, rfl, rfl, rfl, rfl, rfl⟩
  · next hstays =>
    rw [if_neg (by simpa [or_assoc] using hstays)]
    exact ⟨rfl, rfl, rfl⟩

/-- Settles O11, setting by setting; the recheck of the roster keeps its law, so a slot sent back holds nothing. -/
theorem setSettingWritesInRangeAndReachesTheRoster : Obligations.SetSettingWritesInRangeAndReachesTheRoster := by
  refine ⟨fun s id v hs => ⟨?_, ?_, ?_, ?_, fun k hlow hhigh hid => ?_, ?_, ?_, ?_, ?_, ?_, ?_, fun c hid hidle hc => ?_, ?_,
    ?_, ?_, ?_, ?_, ?_, ?_⟩, fun s v hs hstaging hlow hhigh hchange => ?_⟩
  · rintro rfl
    exact exec_setSetting_of_numeric hs (by decide) (by decide) rfl
  · rintro rfl
    exact exec_setSetting_of_numeric hs (by decide) (by decide) rfl
  · rintro rfl
    exact exec_setSetting_of_numeric hs (by decide) (by decide) rfl
  · rintro rfl hcode
    exact exec_setSetting_of_exact hs (by decide) (by simpa [settingCodeOk] using hcode) rfl
      (fun h => absurd h (by decide)) (.inl (by decide)) rfl
  · have hclamp : clampSetting id.toNat v.toNat = clampTo 10 100 v.toNat := by
      rw [clampSetting, if_neg (by omega), if_pos (by simp; omega)]
    rw [exec_setSetting_of_numeric hs (by omega) (by decide) hclamp, writeSetting_of_tierCap (by omega) (by omega), hid,
      Nat.add_sub_cancel]
  · rintro rfl
    exact exec_setSetting_of_numeric hs (by decide) (by decide) rfl
  · rintro rfl
    exact exec_setSetting_of_numeric hs (by decide) (by decide) rfl
  · rintro rfl
    exact exec_setSetting_of_numeric hs (by decide) (by decide) rfl
  · rintro rfl
    exact exec_setSetting_of_numeric hs (by decide) (by decide) rfl
  · rintro rfl hv
    exact exec_setSetting_of_exact hs (by decide) (by simpa [settingCodeOk] using hv) rfl
      (fun h => absurd h (by decide)) (.inl (by decide)) rfl
  · rintro rfl hv
    exact exec_setSetting_of_exact hs (by decide) (by simpa [settingCodeOk] using hv) rfl
      (fun h => absurd h (by decide)) (.inl (by decide)) rfl
  · subst hid hc
    have hphase : settingPhaseOk (2 : Byte).toNat s.clock.phase = true := by simp [settingPhaseOk, hidle]
    refine ⟨fun huse => ?_, fun hslots helements => ?_⟩
    · exact exec_setSetting_of_badState hs (by decide) rfl (.inr ⟨rfl, (allianceInUseAbove_eq_true_iff _ _).mpr huse⟩)
    · refine exec_setSetting_of_ranged hs (lo := 2) (hi := 4) (by decide) rfl hphase (fun _ => ?_) (.inl (by decide))
        (by decide) rfl
      rw [← Bool.not_eq_true]
      rintro huse
      rcases (allianceInUseAbove_eq_true_iff _ _).mp huse with ⟨n, h1, h24, hstate, h⟩ | ⟨e, a, h1, h32, hd, hside, h⟩
      · exact absurd h (Nat.not_lt.mpr (hslots n h1 h24 hstate))
      · exact absurd h (Nat.not_lt.mpr (helements e a h1 h32 hd hside))
  · rintro rfl hlow hhigh hphase
    refine exec_setSetting_of_exact hs (by decide) (by simp [settingCodeOk, hlow, hhigh]) ?_
      (fun h => absurd h (by decide)) (.inr ?_) rfl
    · rcases hphase with h | ⟨h, _⟩ <;> simp [settingPhaseOk, h]
    · rcases hphase with h | ⟨_, h⟩
      · exact .inl (by simp [h])
      · exact .inr h
  · rintro rfl hcode
    exact exec_setSetting_of_badArg hs (.inr (by simpa [settingCodeOk] using hcode))
  · rintro (rfl | rfl) hv
    · exact exec_setSetting_of_badArg hs (.inr (by simpa [settingCodeOk] using hv))
    · exact exec_setSetting_of_badArg hs (.inr (by simpa [settingCodeOk] using hv))
  · intro hid
    have hzero : id = 0 ↔ id.toNat = 0 := by bv_omega
    exact exec_setSetting_of_badArg hs (.inl (by rw [hzero] at hid; simp [settingInRange]; omega))
  · rintro rfl hphase
    exact exec_setSetting_of_badState hs (by decide) rfl (.inl (by simpa [settingPhaseOk] using hphase))
  · rintro rfl hv
    exact exec_setSetting_of_badArg hs (.inr (by simp [settingCodeOk]; omega))
  · rintro rfl hlow hhigh hidle hstaging
    exact exec_setSetting_of_badState hs (by decide) (by simp [settingCodeOk, hlow, hhigh])
      (.inl (by simp [settingPhaseOk, hidle, hstaging]))
  · have hexec := exec_setSetting_of_accepted hs (id := 3) (v := v) (by decide) (by simp [settingCodeOk, hlow, hhigh])
      (by simp [settingPhaseOk, hstaging]) (fun h => absurd h (by decide))
    rw [show clampSetting (3 : Byte).toNat v.toNat = v.toNat from rfl, bne_self_eq_false] at hexec
    refine ⟨_, hexec.trans (congrArg (fun t => (.next (replied 0x02 .ok (3 :: fourBytes v.toNat) t) : Result))
      (changeSetting_of_recheck (u := receiverDone s) hstaging hchange)),
      recheckTiers_settings { receiverDone s with settings := writeSetting 3 v.toNat s.settings }, fun n h1 h24 => ?_⟩
    have hfields := rechecked_fields (recheckTiers_slot ⟨h1, h24⟩
      { receiverDone s with settings := writeSetting 3 v.toNat s.settings })
    have hkept (hlaw : lawfulClaims s) :
        Lawful (recheckTiers { receiverDone s with settings := writeSetting 3 v.toNat s.settings }) :=
      lawful_recheckTiers (((lawfulClaims_iff s).mp hlaw).congr_claims_roster rfl rfl)
    split
    · next hback =>
      obtain ⟨hstate, htier, hcap, hlost, hconfirm, hsilence, hrestore⟩ := (if_pos hback).mp hfields
      exact ⟨hstate, htier, hcap, hlost, hconfirm, hsilence, hrestore,
        fun hlaw => holdsNothing_of_notAdmitted (hkept hlaw) (hstate ▸ by decide)⟩
    · next hstays => exact (if_neg hstays).mp hfields

end Sys2Proof.Machine
end

section
/-! PROOFS. The entry of the field stop: what a discarded ACTUATE leaves of its element, and the hand-overs of each cause
(R15, R56, R57, R106, R108, R144 to R147). -/

namespace Sys2Proof.Machine

-- The part of the state that an ABORTED actuation changes at its element (R57, R106)

/-- What the parts of the machine hold about one element, its light by its computed display. -/
structure ElementPart where
  act : ActRecord
  run : ElementRun
  claim : Claim
  score : ElementScore
  display : Display

/-- What a state holds about an element. -/
def State.part (s : State) (e : Nat) : ElementPart where
  act := s.act e
  run := s.run e
  claim := s.claim e
  score := s.elemScore e
  display := (s.light e).computed

/-- The score state of an element behind the refund of an ABORTED actuation (R106, R130). -/
def ElementScore.refunded (quota : Nat) (c : Option Charge) (x : ElementScore) : ElementScore :=
  match c with
  | none => x
  | some c => { x with quotas := set1 x.quotas c.alliance (min quota (at1 x.quotas c.alliance 0 + c.count)) }

/-- A withdrawal that takes effect, on the part of its element (R56). -/
def ElementPart.taken (defined : Bool) (p : ElementPart) : ElementPart :=
  { p with run := p.run.taken, claim := emptyClaim, score := { p.score with accumulator := 0 }
           display := if defined then .off else p.display }

/-- An element behind its ABORTED actuation, before a pending withdrawal is looked at (R57, R106). -/
def ElementPart.reported (quota : Nat) (p : ElementPart) : ElementPart :=
  { p with act := restAct, run := { p.run with lastOutcome := some .aborted }
           score := p.score.refunded quota p.act.charge }

/-- An element behind its ABORTED actuation: a pending withdrawal takes effect (R56, R57, R106). -/
def ElementPart.aborted (quota : Nat) (defined : Bool) (p : ElementPart) : ElementPart :=
  if p.run.withdrawPending then (p.reported quota).taken defined else p.reported quota

/-- A second end of an actuation of the same element finds nothing to refund and nothing pending. -/
theorem aborted_aborted (quota : Nat) (defined : Bool) (p : ElementPart) :
    (p.aborted quota defined).aborted quota defined = p.aborted quota defined := by
  obtain ⟨act, run, claim, score, display⟩ := p
  unfold ElementPart.aborted
  cases h : run.withdrawPending with
  | true => rfl
  | false => simp [h, ElementPart.reported, restAct, ElementScore.refunded]

theorem withdrawNow_computed (e k : Nat) (s : State) : ((withdrawNow e s).light k).computed
    = if k = e ∧ s.defined e = true then .off else (s.light k).computed := by
  by_cases hk : k = e
  · subst hk
    by_cases hd : s.defined k = true
    · rw [if_pos ⟨rfl, hd⟩, withdrawNow_light hd]
    · rw [if_neg (by simp [hd]), withdrawNow_eq, recompute, if_neg (by simpa using hd)]
      simp
  · rw [if_neg (by simp [hk]), withdrawNow_eq, recompute_light_other hk]
    simp

/-- The state of an ABORTED ending before a pending withdrawal is looked at (R57, R106). -/
def abortReported (e : Nat) (s : State) : State :=
  outcomeReported e .aborted (refundCharge e .aborted (s.act e).charge (atRest e s))

theorem endActuation_aborted_eq {e : Nat} (he : 1 ≤ e ∧ e ≤ 32) (s : State) : endActuation e .aborted s
    = (if (s.run e).withdrawPending = true then withdrawNow e (abortReported e s) else abortReported e s).setFlagIf
        ((s.act e).origin = some .console) .consoleActDone := by
  have hpending : ((abortReported e s).run e).withdrawPending = (s.run e).withdrawPending := by
    rw [abortReported, outcomeReported_run, if_pos ⟨rfl, he⟩, (ended_withdrawals _ _).1]
    simp [atRest]
  rw [← hpending, abortReported, ← actuationEnded_eq]
  rfl

theorem refundCharge_elemScore {e : Nat} (he : 1 ≤ e ∧ e ≤ 32) (k : Nat) (c : Option Charge) (s : State) :
    (refundCharge e .aborted c s).elemScore k
      = if k = e then (s.elemScore e).refunded (s.elemDef e).quota c else s.elemScore k := by
  cases c with
  | none =>
    split
    · next hk => rw [hk]; rfl
    · rfl
  | some c =>
    refine (elemScore_setElemScore s e k _).trans ?_
    simp only [he, and_true]
    rfl

/-- An ABORTED ending carries no fault, so it recomputes no light (R57). -/
theorem abortReported_light (e k : Nat) (s : State) : (abortReported e s).light k = s.light k := by
  rw [abortReported, outcomeReported]
  simp [endingFault, atRest]

theorem abortReported_defined (e k : Nat) (s : State) : (abortReported e s).defined k = s.defined k := by
  simp [abortReported, atRest]

theorem part_setFlagIf (c : Bool) (f : Flag) (s : State) (k : Nat) : (s.setFlagIf c f).part k = s.part k := by
  simp [State.part]

theorem abortReported_part {e : Nat} (he : 1 ≤ e ∧ e ≤ 32) (s : State) (k : Nat) : (abortReported e s).part k
    = if k = e then (s.part e).reported (s.elemDef e).quota else s.part k := by
  have hrun := outcomeReported_run e k .aborted (refundCharge e .aborted (s.act e).charge (atRest e s))
  have hscore := refundCharge_elemScore he k (s.act e).charge (atRest e s)
  rw [State.part, abortReported_light, abortReported]
  by_cases hk : k = e
  · subst hk
    simp_all [State.part, ElementPart.reported, atRest, act_setAct, ElementRun.ended, endingFault]
  · simp_all [State.part, atRest, act_setAct]

theorem withdrawNow_part {e : Nat} (he : 1 ≤ e ∧ e ≤ 32) (s : State) (k : Nat) :
    (withdrawNow e s).part k = if k = e then (s.part e).taken (s.defined e) else s.part k := by
  rw [State.part, withdrawNow_run, withdrawNow_claim, withdrawNow_elemScore, withdrawNow_computed]
  by_cases hk : k = e
  · subst hk
    simp [State.part, ElementPart.taken, he]
  · simp [State.part, hk]

theorem part_endActuation_aborted {e : Nat} (he : 1 ≤ e ∧ e ≤ 32) (s : State) (k : Nat) :
    (endActuation e .aborted s).part k
      = if k = e then (s.part e).aborted (s.elemDef e).quota (s.defined e) else s.part k := by
  have hreported := abortReported_part he s k
  have hsame := abortReported_part he s e
  have htaken := withdrawNow_part he (abortReported e s) k
  rw [if_pos rfl] at hsame
  rw [hreported, hsame, abortReported_defined] at htaken
  rw [endActuation_aborted_eq he, part_setFlagIf]
  unfold ElementPart.aborted
  by_cases hpending : (s.run e).withdrawPending = true
  · rw [if_pos hpending, htaken]
    split
    · exact (if_pos hpending).symm
    · rfl
  · rw [if_neg hpending, hreported]
    split
    · exact (if_neg hpending).symm
    · rfl

/-- No element bears the number: its part is the default one, which an end of an actuation keeps. -/
theorem part_endActuation_outside {e : Nat} (he : ¬(1 ≤ e ∧ e ≤ 32)) (s : State) (k : Nat) :
    (endActuation e .aborted s).part k = s.part k := by
  have hpending := endActuation_notPending e .aborted s
  have hact : s.act e = restAct := at1_outside _ _ _ he
  rw [endActuation, hact]
  simp [actuationEnded, refundCharge, endingFault, restAct, run_outside he, State.part, act_setAct, he, freshRun, run_modRun]

-- The discarding of the queued entries (R108)

theorem servePlace_computed (s : State) (k : Nat) : ((servePlace s).light k).computed = (s.light k).computed := by
  rcases servePlace_cases s with h | ⟨e, _, _, h⟩
  · rw [h]
  · rw [h, light_setLight]
    split
    · next hk => rw [hk.1]
    · rfl

theorem departEntry_part (x : Entry) (s : State) (k : Nat) : (departEntry x s).part k = s.part k := by
  have hcomputed : ((departEntry x s).light k).computed = (s.light k).computed := by
    rw [departEntry]
    rcases freedPlace_cases (s.setQueue (s.bus.queue.erase x)) with ⟨_, h⟩ | ⟨_, h | h⟩
    · rw [h]
      rfl
    · rw [h]
      rfl
    · rw [h, servePlace_computed]
      rfl
  rw [State.part, hcomputed]
  simp [State.part]

theorem discardActuate_part {k : Nat} (hk : 1 ≤ k ∧ k ≤ 32) (x : Entry) (s : State) : (discardActuate x s).part k
    = if x.element = k then (s.part k).aborted (s.elemDef k).quota (s.defined k) else s.part k := by
  rw [discardActuate]
  by_cases hx : 1 ≤ x.element ∧ x.element ≤ 32
  · rw [part_endActuation_aborted hx, departEntry_part, departEntry_part]
    split_ifs with h h' h'
    · subst h
      simp
    · exact absurd h.symm h'
    · exact absurd h'.symm h
    · rfl
  · rw [part_endActuation_outside hx, departEntry_part, if_neg (fun h : x.element = k => hx (by rw [h]; exact hk))]

/-- The elements whose ACTUATEs are discarded end ABORTED, the others are left as they are. -/
theorem discardActuates_part {k : Nat} (hk : 1 ≤ k ∧ k ≤ 32) (l : List Entry) (s : State) :
    (l.foldl (fun s x => discardActuate x s) s).part k
      = if ∃ x ∈ l, x.element = k then (s.part k).aborted (s.elemDef k).quota (s.defined k) else s.part k := by
  induction l generalizing s with
  | nil => simp
  | cons x l ih =>
    have hframe := discardActuate_frame x s
    rw [List.foldl_cons, ih, discardActuate_part hk]
    by_cases hx : x.element = k
    · rw [if_pos (⟨x, by simp, hx⟩ : ∃ y ∈ x :: l, y.element = k), if_pos hx]
      simp [aborted_aborted]
    · simp [hx]

theorem abortReported_attention (e : Nat) (s : State) : (abortReported e s).attention = s.attention := by
  rw [abortReported, outcomeReported]
  simp [endingFault, atRest]

theorem discardActuate_flagSet (x : Entry) (f : Flag) (s : State) : (discardActuate x s).flagSet f = (s.flagSet f
    || (((abortReported x.element (departEntry x s)).run x.element).withdrawPending
        && decide (flagNumber .withdrawn = flagNumber f))
    || (decide ((s.act x.element).origin = some .console) && decide (flagNumber .consoleActDone = flagNumber f))) := by
  have hdiscard : discardActuate x s = (actuationEnded x.element .aborted (refundCharge x.element .aborted
      ((departEntry x s).act x.element).charge (atRest x.element (departEntry x s)))).setFlagIf
        (((departEntry x s).act x.element).origin = some .console) .consoleActDone := rfl
  have hreported : (abortReported x.element (departEntry x s)).flagSet f = s.flagSet f := by
    simp [State.flagSet, abortReported_attention]
  rw [hdiscard, flagSet_setFlagIf, actuationEnded_eq, ← abortReported, ← hreported]
  cases ((abortReported x.element (departEntry x s)).run x.element).withdrawPending with
  | true => simp [withdrawNow_flagSet_eq]
  | false => simp

theorem discardActuates_flagSet {f : Flag} (l : List Entry) (s : State) (h : s.flagSet f = true) :
    (l.foldl (fun s x => discardActuate x s) s).flagSet f = true :=
  foldl_inv (fun s => s.flagSet f = true) _ (fun s x h => by rw [discardActuate_flagSet, h]; rfl) l s h

/-- A withdrawal pending behind a discarded ACTUATE sets WITHDRAWN as it takes effect (R56, R57). -/
theorem discardActuates_withdrawn {e : Nat} (he : 1 ≤ e ∧ e ≤ 32) (l : List Entry) (s : State)
    (hl : ∃ x ∈ l, x.element = e) (hpending : (s.run e).withdrawPending = true) :
    (l.foldl (fun s x => discardActuate x s) s).flagSet .withdrawn = true := by
  induction l generalizing s with
  | nil => simp at hl
  | cons x l ih =>
    rw [List.foldl_cons]
    by_cases hx : x.element = e
    · refine discardActuates_flagSet l _ ?_
      have hreported := congrArg (fun p => p.run.withdrawPending) (abortReported_part he (departEntry x s) e)
      have hdeparted := congrArg (fun p => p.run.withdrawPending) (departEntry_part x s e)
      rw [discardActuate_flagSet, hx]
      simp_all [State.part, ElementPart.reported]
    · have hpart := congrArg (fun p => p.run.withdrawPending) (discardActuate_part he x s)
      refine ih _ (by simpa [hx] using hl) ?_
      simp_all [State.part]

theorem discardRaw_part (x : Entry) (s : State) (k : Nat) : (discardRaw x s).part k = s.part k := by
  rw [← departEntry_part x s k]
  rfl

theorem discardRaws_part (l : List Entry) (s : State) (k : Nat) :
    (l.foldl (fun s x => discardRaw x s) s).part k = s.part k :=
  foldl_keep (fun s => s.part k) _ (fun s x => discardRaw_part x s k) l s

theorem discardRaws_flagSet {f : Flag} (l : List Entry) (s : State) (h : s.flagSet f = true) :
    (l.foldl (fun s x => discardRaw x s) s).flagSet f = true := by
  refine foldl_inv (fun s => s.flagSet f = true) _ (fun s x h => ?_) l s h
  rw [discardRaw, passArrives, flagSet_setFlag]
  have hdeparted : ((departEntry x s).setPass .aborted).flagSet f = s.flagSet f := by simp [State.flagSet]
  rw [hdeparted, h]
  rfl

theorem discardRaws_pass (l : List Entry) (s : State) :
    (l.foldl (fun s x => discardRaw x s) s).bus.pass = if l.isEmpty then s.bus.pass else .aborted := by
  induction l generalizing s with
  | nil => rfl
  | cons x l ih =>
    rw [List.foldl_cons, ih]
    split <;> rfl

/-- A state whose HALT is pending (R108, step 1). -/
def State.withHalt (s : State) : State := { s with bus := { s.bus with haltPending := true } }

/-- The state behind the discarding of the queued ACTUATEs (R108, step 2). -/
def actuatesDiscarded (s : State) : State :=
  (s.bus.queue.filter Entry.isActuate).foldl (fun s x => discardActuate x s) s.withHalt

theorem actuatesDiscarded_queue (s : State) : (actuatesDiscarded s).bus.queue.filter Entry.isActuate = []
    ∧ (actuatesDiscarded s).bus.queue.filter Entry.isRaw = s.bus.queue.filter Entry.isRaw := by
  obtain ⟨-, hnone, hkeep⟩ := foldl_discard Entry.isActuate (fun s x => discardActuate x s)
    (fun s x => commandEntries_discardActuate x s) (fun _ _ => events_discardActuate) _ s.withHalt
    (filter_commandEntries isActuate_commandEntry _)
  have hraws := hkeep Entry.isRaw isActuate_eq_false_of_isRaw
  rw [filter_commandEntries isActuate_commandEntry] at hnone
  rw [filter_commandEntries isRaw_commandEntry, filter_commandEntries isRaw_commandEntry] at hraws
  exact ⟨hnone, hraws⟩

theorem haltField_eq (s : State) : haltField s
    = (s.bus.queue.filter Entry.isRaw).foldl (fun s x => discardRaw x s) (actuatesDiscarded s) := by
  rw [← (actuatesDiscarded_queue s).2]
  rfl

theorem haltField_queue (s : State) : ∀ x ∈ (haltField s).bus.queue, x.isActuate = false ∧ x.isRaw = false := by
  obtain ⟨hacts, hraws⟩ := actuatesDiscarded_queue s
  obtain ⟨-, hnone, hkeep⟩ := foldl_discard Entry.isRaw (fun s x => discardRaw x s)
    (fun s x => commandEntries_discardRaw x s) (fun _ _ => events_discardRaw) _ (actuatesDiscarded s)
    (filter_commandEntries isRaw_commandEntry _)
  have hkept := hkeep Entry.isActuate fun x hx => by
    cases hraw : x.isRaw with
    | false => rfl
    | true => rw [isActuate_eq_false_of_isRaw x hraw] at hx; exact absurd hx (by simp)
  rw [hraws, ← haltField_eq, filter_commandEntries isRaw_commandEntry] at hnone
  rw [hraws, ← haltField_eq, filter_commandEntries isActuate_commandEntry, filter_commandEntries isActuate_commandEntry,
    hacts] at hkept
  intro x hx
  exact ⟨by simpa using List.filter_eq_nil_iff.mp hkept x hx, by simpa using List.filter_eq_nil_iff.mp hnone x hx⟩

theorem haltField_part {k : Nat} (hk : 1 ≤ k ∧ k ≤ 32) (s : State) : (haltField s).part k
    = if ∃ x ∈ s.bus.queue, x.isActuateFor k = true then (s.part k).aborted (s.elemDef k).quota (s.defined k)
      else s.part k := by
  have hmem : (∃ x ∈ s.bus.queue, x.isActuateFor k = true)
      ↔ ∃ x ∈ s.bus.queue.filter Entry.isActuate, x.element = k := by
    simp only [isActuateFor_iff, List.mem_filter, and_assoc]
  rw [haltField_eq, discardRaws_part, actuatesDiscarded, discardActuates_part hk]
  exact if_congr hmem.symm rfl rfl

theorem haltField_flagSet {f : Flag} {s : State} (h : s.flagSet f = true) : (haltField s).flagSet f = true := by
  rw [haltField_eq]
  exact discardRaws_flagSet _ _ (discardActuates_flagSet _ s.withHalt h)

theorem haltField_pass (s : State) :
    (haltField s).bus.pass = if s.bus.queue.any Entry.isRaw then .aborted else s.bus.pass := by
  have hacts : (actuatesDiscarded s).bus.pass = s.bus.pass := by
    simp [actuatesDiscarded, haltField_actuates_frame, State.withHalt]
  have hany : s.bus.queue.any Entry.isRaw = !(s.bus.queue.filter Entry.isRaw).isEmpty := by
    induction s.bus.queue with
    | nil => rfl
    | cons x q ih => cases hx : x.isRaw <;> simp [hx, ih]
  rw [haltField_eq, discardRaws_pass, hacts, hany]
  cases (s.bus.queue.filter Entry.isRaw).isEmpty <;> rfl

theorem haltField_haltPending (s : State) : (haltField s).bus.haltPending = true := by
  simp [haltField_eq, haltField_raws_frame, actuatesDiscarded, haltField_actuates_frame, State.withHalt]

-- The entry of the stop (R15, R147)

/-- A state with the cause of a field stop latched and FIELD_STOP set (R144). -/
def State.latched (u : StopUnit) (s : State) : State := ({ s with stop := u }).setFlag .fieldStop

theorem latched_part (u : StopUnit) (s : State) (k : Nat) : (stopClock (s.latched u)).part k = s.part k := by
  unfold stopClock
  split <;> rfl

theorem latched_bus (u : StopUnit) (s : State) : (stopClock (s.latched u)).bus = s.bus := by
  unfold stopClock
  split <;> rfl

theorem causeArrives_of_clear {s : State} (h : s.stop.stopped = false) (c : Cause) :
    causeArrives c s = enterStop (s.latched (latch c { unlatch s.stop with stopped := true })) := if_neg (by simp [h])

theorem enterStop_part {k : Nat} (hk : 1 ≤ k ∧ k ≤ 32) (u : StopUnit) (s : State) : (enterStop (s.latched u)).part k
    = if ∃ x ∈ s.bus.queue, x.isActuateFor k = true then (s.part k).aborted (s.elemDef k).quota (s.defined k)
      else s.part k := by
  have hpart := haltField_part hk (stopClock (s.latched u))
  rw [latched_part, latched_bus] at hpart
  have hdefs : (stopClock (s.latched u)).elemDef k = s.elemDef k ∧ (stopClock (s.latched u)).defined k = s.defined k := by
    simp [State.latched, State.elemDef, State.defined]
  rw [hdefs.1, hdefs.2] at hpart
  exact hpart

theorem enterStop_flagSet {f : Flag} {u : StopUnit} {s : State} (h : (s.latched u).flagSet f = true) :
    (enterStop (s.latched u)).flagSet f = true := by
  refine haltField_flagSet (s := stopClock (s.latched u)) ?_
  rw [← h]
  unfold stopClock
  split <;> rfl

theorem enterStop_withdrawn {e : Nat} (he : 1 ≤ e ∧ e ≤ 32) {u : StopUnit} {s : State}
    (hx : ∃ x ∈ s.bus.queue, x.isActuateFor e = true) (hpending : (s.run e).withdrawPending = true) :
    (enterStop (s.latched u)).flagSet .withdrawn = true := by
  have hmem : ∃ x ∈ (stopClock (s.latched u)).bus.queue.filter Entry.isActuate, x.element = e := by
    simpa only [latched_bus, isActuateFor_iff, List.mem_filter, and_assoc] using hx
  have hrun := congrArg (fun p => p.run.withdrawPending) (latched_part u s e)
  have hflag := discardActuates_withdrawn he _ (stopClock (s.latched u)).withHalt hmem (hrun.trans hpending)
  have hraws := discardRaws_flagSet ((stopClock (s.latched u)).bus.queue.filter Entry.isRaw) _ hflag
  rw [← actuatesDiscarded, ← haltField_eq] at hraws
  exact hraws

theorem aborted_of_pending {quota : Nat} {defined : Bool} {p : ElementPart} (h : p.run.withdrawPending = true) :
    p.aborted quota defined = (p.reported quota).taken defined := if_pos h

theorem aborted_of_notPending {quota : Nat} {defined : Bool} {p : ElementPart} (h : p.run.withdrawPending = false) :
    p.aborted quota defined = p.reported quota := if_neg (by simp [h])

theorem aborted_fields (quota : Nat) (defined : Bool) (p : ElementPart) :
    (p.aborted quota defined).act = restAct ∧ (p.aborted quota defined).run.lastOutcome = some .aborted
      ∧ (p.aborted quota defined).score.quotas = (p.score.refunded quota p.act.charge).quotas := by
  unfold ElementPart.aborted
  split <;> exact ⟨rfl, rfl, rfl⟩

theorem refunded_accumulator (quota : Nat) (c : Option Charge) (x : ElementScore) :
    (x.refunded quota c).accumulator = x.accumulator := by
  cases c <;> rfl

/-- The end of the discarded actuations of an element, by its part (R56, R57). -/
theorem pendingWithdrawalTaken_of_aborted {e : Nat} {s t : State}
    (hpart : t.part e = (s.part e).aborted (s.elemDef e).quota (s.defined e))
    (hflag : (s.run e).withdrawPending = true → t.flagSet .withdrawn = true) : pendingWithdrawalTaken e s t := by
  unfold pendingWithdrawalTaken
  split
  · next hpending =>
    rw [aborted_of_pending hpending] at hpart
    have hrun : t.run e = _ := congrArg ElementPart.run hpart
    have hclaim : t.claim e = emptyClaim := congrArg ElementPart.claim hpart
    have hscore : t.elemScore e = _ := congrArg ElementPart.score hpart
    have hdisplay : (t.light e).computed = if s.defined e then .off else (s.light e).computed :=
      congrArg ElementPart.display hpart
    exact ⟨by rw [hrun]; rfl, by rw [hrun]; rfl, hclaim, by rw [hscore]; rfl, fun hd => by rw [hdisplay, if_pos hd],
      hflag hpending⟩
  · next hpending =>
    have hnot : (s.run e).withdrawPending = false := by simpa using hpending
    rw [aborted_of_notPending hnot] at hpart
    have hrun : t.run e = _ := congrArg ElementPart.run hpart
    have hclaim : t.claim e = s.claim e := congrArg ElementPart.claim hpart
    have hscore : t.elemScore e = _ := congrArg ElementPart.score hpart
    exact ⟨by rw [hrun]; rfl, by rw [hrun]; exact hnot, hclaim,
      by rw [hscore]; exact refunded_accumulator _ _ _⟩

/-- The hand-overs at the entry of the stop, whatever its cause (R147). -/
theorem stopEntered_enterStop (u : StopUnit) (s : State) : stopEntered u s (enterStop (s.latched u)) := by
  have hact (e : Nat) (he : ¬(1 ≤ e ∧ e ≤ 32)) (t : State) : t.act e = restAct := at1_outside _ _ _ he
  have hclaim (e : Nat) (he : ¬(1 ≤ e ∧ e ≤ 32)) (t : State) : t.claim e = emptyClaim := at1_outside _ _ _ he
  refine ⟨?_, ?_, haltField_haltPending _, ?_, haltField_queue _, fun e hx => ?_, fun e hx => ?_, ?_, ?_,
    enterStop_flagSet (flagSet_setFlag_self _ _), ?_, ?_, ?_, ?_⟩
  · simp [enterStop, State.latched]
  · have hphase : (s.latched u).clock.phase = s.clock.phase := rfl
    rw [enterStop, stopClock, hphase]
    split <;> simp [State.latched, enterHeld, enterPhase]
  · have hcurrent : (stopClock (s.latched u)).bus.current = s.bus.current := by rw [latched_bus]
    simpa [enterStop] using hcurrent
  · by_cases he : 1 ≤ e ∧ e ≤ 32
    · have hpart := (enterStop_part he u s).trans (if_pos hx)
      obtain ⟨hrest, houtcome, hquotas⟩ := aborted_fields (s.elemDef e).quota (s.defined e) (s.part e)
      rw [← hpart] at hrest houtcome hquotas
      refine ⟨hrest, fun _ _ => ⟨houtcome, pendingWithdrawalTaken_of_aborted hpart (enterStop_withdrawn he hx)⟩,
        fun c hc _ _ ha1 ha4 => ?_⟩
      have hquota := congrArg (fun q => at1 q c.alliance 0) hquotas
      have hcharge : (s.part e).act.charge = some c := hc
      rw [hcharge] at hquota
      exact hquota.trans (at1_set1_same _ _ _ _ ⟨ha1, ha4⟩)
    · exact ⟨hact e he _, fun h1 h32 => absurd ⟨h1, h32⟩ he, fun _ _ h1 h32 => absurd ⟨h1, h32⟩ he⟩
  · by_cases he : 1 ≤ e ∧ e ≤ 32
    · have hnone : ¬∃ x ∈ s.bus.queue, x.isActuateFor e = true := fun ⟨x, hmem, h⟩ => by simp [hx x hmem] at h
      have hpart := (enterStop_part he u s).trans (if_neg hnone)
      exact ⟨congrArg ElementPart.act hpart, congrArg ElementPart.run hpart, congrArg ElementPart.claim hpart⟩
    · exact ⟨(hact e he _).trans (hact e he s).symm, (run_outside he _).trans (run_outside he s).symm,
        (hclaim e he _).trans (hclaim e he s).symm⟩
  · have hpass := haltField_pass (stopClock (s.latched u))
    rw [latched_bus] at hpass
    exact hpass
  · unfold enterStop stopClock
    split <;> simp [State.latched, enterHeld, enterPhase, State.makeBeaconDue]
  all_goals simp [enterStop, State.latched]

/-- Settles O21: each cause latches alone, and the entry of the stop is the same for all. -/
theorem eachCauseEntersTheFieldStop : Obligations.EachCauseEntersTheFieldStop := by
  intro s h
  refine ⟨fun hs => ?_, fun hs hin => ?_, fun hs hbreak => ?_⟩
  · exact ⟨_, exec_carriedOut hs serveFieldStop
      (congrArg (fun t => settled (carryOut t)) (causeArrives_of_clear (s := receiverDone s) h .console)),
      stopEntered_enterStop _ (receiverDone s)⟩
  · refine ⟨_, (exec_stopInPressed hs hin).trans ?_, stopEntered_enterStop _ s⟩
    rw [causeArrives_of_clear (s := setStopIn true s) h]
    rfl
  · refine ⟨_, (exec_breakDetected hs hbreak).trans ?_, stopEntered_enterStop _ s.inBreak⟩
    rw [causeArrives_of_clear (s := s.inBreak) h]
    rfl

end Sys2Proof.Machine
end

section
/-! PROOFS. The fourteen readings: each replies and leaves the machine as it was, and the fields of READ ELEMENT, READ
CLAIMS, READ TALLIES, READ FAULTS, READ STRANGERS and MAIL STATUS (R52, R63, R86, R142, R169, R180). -/

namespace Sys2Proof.Machine

/-- A command reads: it serves a request that leaves every state as it was. -/
def Reads (c : Instr) : Prop :=
  ∃ (k : Nat) (serve : State → Served), k < 0x80 ∧ (∀ u, (serve u).state = u)
    ∧ ∀ s, exec c s = .next (consoleRequest k serve s)

theorem state_of_checkedReading {ok : Bool} {o : OutcomeCode} {u : State} {fields : List Byte} :
    (if !ok then refuse o u else reading fields u).state = u := by
  cases ok <;> rfl

theorem servePassResult_state (u : State) : (servePassResult u).state = u := by
  unfold servePassResult
  split <;> rfl

theorem reads_of_mem {c : Instr} {x : Byte} (h : c ∈ [.identify, .getSetting x, .readElement x, .readFaults,
    .readSlot x, .readStrangers, .readClock, .readStop, .readClaims x, .passResult, .readScores, .readTallies x,
    .mailStatus, .readEvents]) : Reads c := by
  simp only [List.mem_cons, List.not_mem_nil, or_false] at h
  rcases h with rfl | rfl | rfl | rfl | rfl | rfl | rfl | rfl | rfl | rfl | rfl | rfl | rfl | rfl
  · exact ⟨_, serveIdentify, by decide, fun _ => rfl, fun _ => rfl⟩
  · exact ⟨_, serveGetSetting x.toNat, by decide, fun _ => state_of_checkedReading, fun _ => rfl⟩
  · exact ⟨_, serveReadElement x.toNat, by decide, fun _ => state_of_checkedReading, fun _ => rfl⟩
  · exact ⟨_, serveReadFaults, by decide, fun _ => rfl, fun _ => rfl⟩
  · exact ⟨_, serveReadSlot x.toNat, by decide, fun _ => state_of_checkedReading, fun _ => rfl⟩
  · exact ⟨_, serveReadStrangers, by decide, fun _ => rfl, fun _ => rfl⟩
  · exact ⟨_, serveReadClock, by decide, fun _ => rfl, fun _ => rfl⟩
  · exact ⟨_, serveReadStop, by decide, fun _ => rfl, fun _ => rfl⟩
  · exact ⟨_, serveReadClaims x.toNat, by decide, fun _ => state_of_checkedReading, fun _ => rfl⟩
  · exact ⟨_, servePassResult, by decide, servePassResult_state, fun _ => rfl⟩
  · exact ⟨_, serveReadScores, by decide, fun _ => rfl, fun _ => rfl⟩
  · exact ⟨_, serveReadTallies x.toNat, by decide, fun _ => state_of_checkedReading, fun _ => rfl⟩
  · exact ⟨_, serveMailStatus, by decide, fun _ => rfl, fun _ => rfl⟩
  · exact ⟨_, serveReadEvents, by decide, fun _ => rfl, fun _ => rfl⟩

-- The bytes of the fields (R196)

theorem boxBytes_eq (m : Option Message) : boxBytes m = match m with
    | none => [0, 0]
    | some m => [byte (1 + (if m.origin = .robot then 2 else 0) + if m.pending then 4 else 0), byte m.bytes.length] := by
  cases m with
  | none => rfl
  | some m =>
    obtain ⟨origin, bytes, pending⟩ := m
    cases origin <;> cases pending <;> rfl

theorem modeCode_reported (s : State) (e : Nat) :
    byte (modeCode (s.modeReported e)) = if s.defined e = false then 3 else byte (modeCode (s.mode e)) := by
  cases h : s.defined e <;> simp [State.modeReported, h, modeCode, byte]

theorem covered_length (first : Nat) : (covered first).length = min 8 (33 - first) := by simp [covered]

/-- Settles O6: every reading leaves the state behind the receiver as it was, then six of them field by field. -/
theorem readingsReplyAndChangeNothingElse : Obligations.ReadingsReplyAndChangeNothingElse := by
  intro s c x hs
  refine ⟨fun hc => ?_, ?_, ?_, ?_, fun hlow hhigh => ?_⟩
  · obtain ⟨k, serve, hk, hstate, hexec⟩ := reads_of_mem hc
    have h := exec_request hs serve rfl (hexec s) hk
    rw [hstate] at h
    exact ⟨_, h⟩
  · exact exec_request hs serveReadStrangers rfl
  · rw [exec_request hs serveMailStatus rfl]
    simp only [serveMailStatus, boxBytes_eq]
    rfl
  · exact exec_request hs serveReadFaults rfl
  · have hrange : ¬(!elementInRange x.toNat) = true := by simp [elementInRange, hlow, hhigh]
    refine ⟨?_, ?_, ?_⟩
    · rw [exec_request hs (serveReadElement x.toNat) (if_neg hrange), modeCode_reported]
      rfl
    · rw [exec_request hs (serveReadClaims x.toNat) (if_neg hrange), covered_length, byte_toNat]
      rfl
    · rw [exec_request hs (serveReadTallies x.toNat) (if_neg hrange), covered_length, byte_toNat]
      rfl

end Sys2Proof.Machine
end

section
/-! PROOFS. A step with nothing to do: the expiries that are due, and what a microsecond changes (R4, R5, R10, R11, R20, R39,
R62, R68, R81, R82, R91, R94, R104, R118, R137, R161, R173, R188). -/

namespace Sys2Proof.Machine

-- Due expiries

theorem runsOut_iff (t : Timer) : runsOut t = true ↔ t = some 0 := by
  cases t <;> simp [runsOut]

theorem disableRunsOut_iff (d : Option Disable) : disableRunsOut d = true ↔ d = some (.timed 0) := by
  cases d with
  | none => simp [disableRunsOut]
  | some d => cases d <;> simp [disableRunsOut]

theorem any_eq_zero_iff {α : Type} (o : Option α) (left : α → Nat) :
    o.any (fun x => decide (left x = 0)) = true ↔ o.map left = some 0 := by
  cases o <;> simp

theorem windowRunsOut_iff (b : FieldBus) : windowRunsOut b = true ↔ b.current.map (·.window) = some (some 0) := by
  unfold windowRunsOut
  cases b.current <;> simp [runsOut_iff]

theorem mem_dueExpiries (s : State) (c : Instr) : c ∈ dueExpiries s ↔
    (∃ e, (1 ≤ e ∧ e ≤ 32) ∧ c ∈ dueAtElement s e) ∨ (∃ n, (1 ≤ n ∧ n ≤ 24) ∧ c ∈ dueAtSlot s n)
      ∨ c ∈ dueIf (s.clock.phase = .running && s.clock.remaining = 0) .periodExpiry
      ∨ c ∈ dueIf (s.clock.phase = .grace && runsOut s.clock.graceTimer) .graceExpiry
      ∨ c ∈ dueIf (windowRunsOut s.bus) .answerWindowExpiry
      ∨ c ∈ dueIf (runsOut s.link.beaconTimer) .beaconIntervalExpiry
      ∨ c ∈ dueIf (runsOut s.console.gapTimer && s.console.receiver != .seeking) .gapTimerExpiry
      ∨ c ∈ dueIf (s.store.writing.any (·.left = 0)) .storeDone := by
  simp only [dueExpiries, List.mem_append, List.mem_flatMap, mem_elementNumbers, mem_slotNumbers, or_assoc]

theorem mem_dueAtElement (s : State) (e : Nat) (c : Instr) : c ∈ dueAtElement s e ↔
    (s.secondDue e = true ∧ c = .towerSecond e)
      ∨ (((s.claim e).holdTimer = some 0 ∧ s.driveTime = true ∧ (s.claim e).holder.isSome = true) ∧ c = .holdTimerExpiry e)
      ∨ (((s.claim e).barred.map (·.left) = some 0 ∧ s.driveTime = true) ∧ c = .cooldownExpiry e)
      ∨ (((s.act e).timer = some 0 ∧ (s.act e).state = .inFlight) ∧ c = .actuationTimerExpiry e)
      ∨ ((s.light e).pulse = some 0 ∧ c = .pulseTimerExpiry e) := by
  simp only [dueAtElement, List.mem_append, mem_dueIf, or_assoc, Bool.and_eq_true, runsOut_iff, any_eq_zero_iff,
    decide_eq_true_eq, and_assoc]

theorem mem_dueAtSlot (s : State) (n : Nat) (c : Instr) : c ∈ dueAtSlot s n ↔
    (((s.slot n).confirmTimer = some 0 ∧ (s.slot n).state = .offered) ∧ c = .confirmTimerExpiry n)
      ∨ (((s.slot n).silenceTimer = some 0 ∧ ((s.slot n).state = .admitted ∨ (s.slot n).state = .disabled))
          ∧ c = .silenceTimerExpiry n)
      ∨ ((s.slot n).restoreTimer = some 0 ∧ c = .restoreTimerExpiry n)
      ∨ (((s.slot n).disable = some (.timed 0) ∧ s.clock.phase = .running) ∧ c = .disableTimerExpiry n) := by
  simp only [dueAtSlot, List.mem_append, mem_dueIf, or_assoc, Bool.and_eq_true, Bool.or_eq_true, runsOut_iff,
    disableRunsOut_iff, State.matchTime, decide_eq_true_eq, and_assoc]

theorem secondDue_iff (s : State) (e : Nat) : s.secondDue e = true ↔
    (s.elemDef e).kind = .tower ∧ (s.claim e).holder.isSome = true ∧ 1000000 ≤ (s.elemScore e).accumulator := by
  simp [State.secondDue, seconds, and_assoc]

section
variable (s : State)

theorem periodExpiry_due : .periodExpiry ∈ dueExpiries s ↔ s.clock.phase = .running ∧ s.clock.remaining = 0 := by
  simp [mem_dueExpiries, mem_dueAtElement, mem_dueAtSlot, mem_dueIf]

theorem graceExpiry_due : .graceExpiry ∈ dueExpiries s ↔ s.clock.phase = .grace ∧ s.clock.graceTimer = some 0 := by
  simp [mem_dueExpiries, mem_dueAtElement, mem_dueAtSlot, mem_dueIf, runsOut_iff]

theorem answerWindowExpiry_due :
    .answerWindowExpiry ∈ dueExpiries s ↔ s.bus.current.map (·.window) = some (some 0) := by
  simp only [mem_dueExpiries, mem_dueAtElement, mem_dueAtSlot, mem_dueIf, windowRunsOut_iff]
  simp

theorem beaconIntervalExpiry_due : .beaconIntervalExpiry ∈ dueExpiries s ↔ s.link.beaconTimer = some 0 := by
  simp [mem_dueExpiries, mem_dueAtElement, mem_dueAtSlot, mem_dueIf, runsOut_iff]

theorem gapTimerExpiry_due :
    .gapTimerExpiry ∈ dueExpiries s ↔ s.console.gapTimer = some 0 ∧ s.console.receiver ≠ .seeking := by
  simp [mem_dueExpiries, mem_dueAtElement, mem_dueAtSlot, mem_dueIf, runsOut_iff]

theorem storeDone_due : .storeDone ∈ dueExpiries s ↔ s.store.writing.map (·.left) = some 0 := by
  simp only [mem_dueExpiries, mem_dueAtElement, mem_dueAtSlot, mem_dueIf, any_eq_zero_iff]
  simp

end

section
variable (s : State) {e : Nat} (he : 1 ≤ e ∧ e ≤ 32)
include he

theorem holdTimerExpiry_due : .holdTimerExpiry e ∈ dueExpiries s
    ↔ (s.claim e).holdTimer = some 0 ∧ (s.claim e).holder.isSome = true ∧ s.driveTime = true := by
  simp [mem_dueExpiries, mem_dueAtElement, mem_dueAtSlot, mem_dueIf, he, and_comm]

theorem cooldownExpiry_due : .cooldownExpiry e ∈ dueExpiries s
    ↔ (s.claim e).barred.map (·.left) = some 0 ∧ s.driveTime = true := by
  simp [mem_dueExpiries, mem_dueAtElement, mem_dueAtSlot, mem_dueIf, he]

theorem towerSecond_due : .towerSecond e ∈ dueExpiries s
    ↔ (s.elemDef e).kind = .tower ∧ (s.claim e).holder.isSome = true ∧ 1000000 ≤ (s.elemScore e).accumulator := by
  simp [mem_dueExpiries, mem_dueAtElement, mem_dueAtSlot, mem_dueIf, he, secondDue_iff]

theorem actuationTimerExpiry_due : .actuationTimerExpiry e ∈ dueExpiries s
    ↔ (s.act e).timer = some 0 ∧ (s.act e).state = .inFlight := by
  simp [mem_dueExpiries, mem_dueAtElement, mem_dueAtSlot, mem_dueIf, he]

theorem pulseTimerExpiry_due : .pulseTimerExpiry e ∈ dueExpiries s ↔ (s.light e).pulse = some 0 := by
  simp [mem_dueExpiries, mem_dueAtElement, mem_dueAtSlot, mem_dueIf, he]

end

section
variable (s : State) {n : Nat} (hn : 1 ≤ n ∧ n ≤ 24)
include hn

theorem disableTimerExpiry_due : .disableTimerExpiry n ∈ dueExpiries s
    ↔ (s.slot n).disable = some (.timed 0) ∧ s.clock.phase = .running := by
  simp [mem_dueExpiries, mem_dueAtElement, mem_dueAtSlot, mem_dueIf, hn]

theorem confirmTimerExpiry_due : .confirmTimerExpiry n ∈ dueExpiries s
    ↔ (s.slot n).confirmTimer = some 0 ∧ (s.slot n).state = .offered := by
  simp [mem_dueExpiries, mem_dueAtElement, mem_dueAtSlot, mem_dueIf, hn]

theorem silenceTimerExpiry_due : .silenceTimerExpiry n ∈ dueExpiries s
    ↔ (s.slot n).silenceTimer = some 0 ∧ ((s.slot n).state = .admitted ∨ (s.slot n).state = .disabled) := by
  simp [mem_dueExpiries, mem_dueAtElement, mem_dueAtSlot, mem_dueIf, hn]

theorem restoreTimerExpiry_due : .restoreTimerExpiry n ∈ dueExpiries s ↔ (s.slot n).restoreTimer = some 0 := by
  simp [mem_dueExpiries, mem_dueAtElement, mem_dueAtSlot, mem_dueIf, hn]

end

-- A microsecond

theorem elemScore_accrue (s : State) (e k : Nat) : (accrue s k).elemScore e
    = if (e = k ∧ 1 ≤ k ∧ k ≤ 32) ∧ s.accrues k = true then
        { s.elemScore k with accumulator := (s.elemScore k).accumulator + 1 }
      else s.elemScore e := by
  unfold accrue
  split
  · next h => simp [elemScore_setElemScore, h]
  · next h => simp [h]

theorem accrues_accrue (s : State) (e k : Nat) : (accrue s k).accrues e = s.accrues e := by
  unfold accrue
  split <;> rfl

/-- Each tower that accrues gains its microsecond once (R137). -/
theorem elemScore_foldl_accrue {l : List Nat} (hl : l.Nodup) (hrange : ∀ k ∈ l, 1 ≤ k ∧ k ≤ 32) (s : State) (e : Nat) :
    (l.foldl accrue s).elemScore e
      = if e ∈ l ∧ s.accrues e = true then { s.elemScore e with accumulator := (s.elemScore e).accumulator + 1 }
        else s.elemScore e := by
  induction l generalizing s with
  | nil => simp
  | cons k l ih =>
    obtain ⟨hnot, hnodup⟩ := List.nodup_cons.mp hl
    have hk := hrange k (by simp)
    rw [List.foldl_cons, ih hnodup (fun m hm => hrange m (List.mem_cons_of_mem k hm)), accrues_accrue, elemScore_accrue]
    by_cases he : e = k
    · subst he
      simp [hnot, hk]
    · simp [he]

theorem tickTowers_eq (s : State) : tickTowers s = elementNumbers.foldl accrue s := rfl

theorem passTime_elemScore (s : State) (e : Nat) : (passTime s).elemScore e
    = if (1 ≤ e ∧ e ≤ 32) ∧ s.accrues e = true then
        { s.elemScore e with accumulator := (s.elemScore e).accumulator + 1 }
      else s.elemScore e := by
  have htime : (passTime s).elemScore e = (tickTowers s).elemScore e := by
    simp only [State.elemScore, passTime]
  rw [htime, tickTowers_eq, elemScore_foldl_accrue (by decide) (fun _ => mem_elementNumbers.mp)]
  exact if_congr (and_congr_left' mem_elementNumbers) rfl rfl

theorem passTime_act (s : State) (e : Nat) : (passTime s).act e = { s.act e with timer := tickTimer (s.act e).timer } := by
  simp only [State.act, passTime, tickTowers_frame, tickBus]
  exact at1_mapTable _ _ _ _ _ rfl

theorem passTime_light (s : State) (e : Nat) :
    (passTime s).light e = { s.light e with pulse := tickTimer (s.light e).pulse } := by
  simp only [State.light, passTime, tickTowers_frame]
  exact at1_mapTable _ _ _ _ _ rfl

theorem tickDisable_of_notTimed (c : Bool) {d : Option Disable} (h : ∀ left, d ≠ some (.timed left)) :
    tickDisable c d = d := by
  cases d with
  | none => rfl
  | some d =>
    cases d with
    | timed left => exact absurd rfl (h left)
    | permanent => rfl

theorem tickClaim_false (c : Claim) : tickClaim false c = c := by
  simp [tickClaim, tickIf]

/-- With nothing else to do, a step brings the first expiry that is due, or lets time pass. -/
theorem step_of_idle {s : State} (hs : s.awake) (hpending : s.pending = []) (hbus : s.busHasWork = false)
    (hport : s.portHasWork = false) (huplink : s.link.uplink = []) :
    (∀ c rest, dueExpiries s = c :: rest → step s = .next { s with pending := [c] })
      ∧ (dueExpiries s = [] → step s = .next (passTime s)) := by
  have hreset : s.resetAsserted = false := hs
  rw [step, hpending, idle, hreset, hbus, hport, huplink]
  generalize dueExpiries s = due
  exact ⟨fun c rest h => by rw [h]; rfl, fun h => by rw [h]; rfl⟩

/-- Settles O2: the expiries by membership, and what a microsecond leaves of each part. -/
theorem idleStepAdvancesTheRunningTimes : Obligations.IdleStepAdvancesTheRunningTimes := by
  intro s hs hpending hbus hport huplink
  obtain ⟨hbrought, htime⟩ := step_of_idle hs hpending hbus hport huplink
  refine ⟨hbrought, periodExpiry_due s, graceExpiry_due s, answerWindowExpiry_due s,
    beaconIntervalExpiry_due s, gapTimerExpiry_due s, storeDone_due s, fun e h1 h32 => ?_, fun n h1 h24 => ?_,
    fun hnone => ?_⟩
  · have he := And.intro h1 h32
    exact ⟨holdTimerExpiry_due s he, cooldownExpiry_due s he, towerSecond_due s he, actuationTimerExpiry_due s he,
      pulseTimerExpiry_due s he⟩
  · have hn := And.intro h1 h24
    exact ⟨disableTimerExpiry_due s hn, confirmTimerExpiry_due s hn, silenceTimerExpiry_due s hn,
      restoreTimerExpiry_due s hn⟩
  · refine ⟨_, htime hnone, ?_, fun e => ?_, fun e hd => ?_, fun e hd => ?_, fun e h1 h32 hd => ?_, fun e => ?_,
      fun n left hleft => ?_, fun n hnot => ?_, fun n => ?_, ?_⟩
    · simp [passTime, tickClock, tickTimer]
    · rw [passTime_claim]
      exact ⟨rfl, rfl⟩
    · rw [passTime_claim, passTime_elemScore, hd, tickClaim_false, if_neg (by simp [State.accrues, hd])]
      exact ⟨rfl, rfl⟩
    · rw [passTime_claim, hd]
      exact ⟨rfl, rfl⟩
    · have haccrues : s.accrues e = true ↔ (s.elemDef e).kind = .tower ∧ (s.claim e).holder.isSome = true := by
        simp [State.accrues, hd]
      rw [passTime_elemScore, if_congr ((and_iff_right ⟨h1, h32⟩).trans haccrues) rfl rfl]
      split <;> rfl
    · exact ⟨passTime_act s e, passTime_light s e⟩
    · rw [passTime_slot, tickSlot, hleft]
      simp [tickDisable, State.matchTime]
    · rw [passTime_slot, tickSlot]
      exact tickDisable_of_notTimed _ hnot
    · rw [passTime_slot]
      rfl
    · simp [passTime, tickBus, tickTimer, tickStore, tickUptime, hpending]

end Sys2Proof.Machine
end

section
/-! PROOFS. A record sent byte by byte: it is framed, its CRC checks, and its last byte serves the request that its kind
names (R172, R174, R176, R190 to R192). -/

namespace Sys2Proof.Machine

-- The receiver over the bytes of a record (R172)

theorem offerRecord_receive (kind : Nat) (serve : State → Served) (r : Receiver) (s : State) :
    offerRecord kind serve (receive r s) = offerRecord kind serve s := rfl

theorem offerGoodRecord_receive (kind : Nat) (p : List Byte) (r : Receiver) (s : State) :
    offerGoodRecord kind p (receive r s) = offerGoodRecord kind p s := by
  unfold offerGoodRecord
  split <;> rfl

theorem completeRecord_receive (l : Nat) (got : List Byte) (r : Receiver) (s : State) :
    completeRecord l got (receive r s) = completeRecord l got s := by
  unfold completeRecord
  dsimp only
  rw [offerGoodRecord_receive]
  rfl

/-- The CRC that the sender appends is the one that the part computes (R174, R191). -/
theorem completeRecord_of_good (kind : Byte) (p : List Byte) (s : State) :
    completeRecord p.length (kind :: p ++ twoBytes (crc16 ([byte p.length, kind] ++ p)).toNat) s
      = offerGoodRecord kind.toNat p s := by
  have hlength : (kind :: p).length = p.length + 1 := rfl
  unfold completeRecord
  dsimp only
  rw [List.take_left' hlength, List.drop_left' hlength, if_pos (by rfl)]
  rfl

theorem feed_cons {b : Byte} {s t : State} (h : exec (.consoleByte b) s = .next t) (rest : List Byte) :
    feed (b :: rest) s = feed rest t := by
  rw [feed, h]

section
variable {s : State} (hs : s.awake) (hbreak : s.console.breakInProgress = false)
include hs hbreak

/-- The bytes behind the length byte are taken until the record is complete (R172). -/
theorem feed_receiving {l : Nat} {body : List Byte} (hbody : body ≠ []) (got : List Byte)
    (hlength : got.length + body.length = l + 3) :
    feed body (receive (.receiving l got) s) = .next (completeRecord l (got ++ body) s) := by
  induction body generalizing got with
  | nil => exact absurd rfl hbody
  | cons b rest ih =>
    have hexec := exec_consoleByte_of_receiving (s := receive (.receiving l got) s) hs hbreak b rfl
    rw [List.length_cons] at hlength
    cases rest with
    | nil =>
      rw [if_pos (by simpa using hlength), completeRecord_receive] at hexec
      rw [feed_cons hexec, feed]
    | cons c rest =>
      rw [if_neg (by rw [List.length_cons] at hlength; omega)] at hexec
      have hrest := ih (by simp) (got ++ [b]) (by simp at hlength ⊢; omega)
      rw [List.append_assoc] at hrest
      exact (feed_cons hexec _).trans hrest

/-- A whole record is offered with its kind and its payload (R174). -/
theorem feed_recordBytes (hseeking : s.console.receiver = .seeking) (kind : Byte) {p : List Byte} (hp : p.length ≤ 120) :
    feed (recordBytes kind p) s = .next (offerGoodRecord kind.toNat p s) := by
  have hcount : (byte p.length).toNat = p.length := toNat_byte_of_lt (by omega)
  have hlead : byte p.length ≠ 0xA5 := fun h => by
    have hnat := congrArg BitVec.toNat h
    rw [hcount] at hnat
    have : (0xA5 : Byte).toNat = 165 := rfl
    omega
  have hfirst := exec_consoleByte_of_seeking hs hbreak 0xA5 hseeking
  rw [if_pos rfl] at hfirst
  have hsecond := exec_consoleByte_of_framing (s := receive .framing s) hs hbreak (byte p.length) rfl
  rw [if_neg hlead, if_pos (by omega), hcount] at hsecond
  have hbody := feed_receiving hs hbreak (l := p.length) (body := kind :: p ++ twoBytes (crc16 ([byte p.length, kind] ++ p)).toNat)
    (by simp) [] (by simp [twoBytes])
  have hcomplete : completeRecord p.length ([] ++ (kind :: p ++ twoBytes (crc16 ([byte p.length, kind] ++ p)).toNat)) s
      = offerGoodRecord kind.toNat p s := completeRecord_of_good kind p s
  rw [hcomplete] at hbody
  exact ((feed_cons hfirst _).trans (feed_cons hsecond _)).trans hbody

end

-- The requests of the catalogue by their kinds (R192)

theorem answeredFrom_withLength {n : Nat} {p : List Byte} {serve : State → Served} {u : State}
    (h : AnsweredFrom u (serve u)) : AnsweredFrom u (withLength n p serve u) := by
  unfold withLength
  split
  · exact h
  · exact answeredFrom_refuse rfl

theorem answeredFrom_withVariable {n most : Nat} {p : List Byte} {serve : State → Served} {u : State}
    (h : AnsweredFrom u (serve u)) : AnsweredFrom u (withVariable n most p serve u) := by
  unfold withVariable
  split
  · exact h
  · exact answeredFrom_refuse rfl

/-- A part of the catalogue, looked up under a kind: it names a request for exactly its kinds, and each is answered. -/
structure Catalogued (kind : Nat) (kinds : List Nat) (request : Option (State → Served)) : Prop where
  none_iff : request = none ↔ kind ∉ kinds
  answered : ∀ serve, request = some serve → ∀ u, AnsweredFrom u (serve u)

section
variable {kind k n : Nat} {ks ls : List Nat} {p : List Byte} {serve : State → Served} {o o' : Option (State → Served)}

theorem catalogued_none : Catalogued kind [] none := ⟨by simp, by simp⟩

theorem Catalogued.row (h : Catalogued kind ks o) (hserve : ∀ u, AnsweredFrom u (serve u)) :
    Catalogued kind (k :: ks) (if kind = k then some serve else o) := by
  obtain ⟨hnone, hanswered⟩ := h
  by_cases hk : kind = k
  · simp only [if_pos hk]
    exact ⟨by simp [hk], fun _ h => by injection h with h; exact h ▸ hserve⟩
  · simp only [if_neg hk]
    exact ⟨by simp [hk, hnone], hanswered⟩

/-- A row whose payload has no variable part (R180). -/
theorem Catalogued.fixed (h : Catalogued kind ks o) (hserve : ∀ u, AnsweredFrom u (serve u)) :
    Catalogued kind (k :: ks) (if kind = k then some (withLength n p serve) else o) :=
  h.row fun u => answeredFrom_withLength (hserve u)

/-- A row whose payload has a variable part (R180). -/
theorem Catalogued.ranged {most : Nat} (h : Catalogued kind ks o) (hserve : ∀ u, AnsweredFrom u (serve u)) :
    Catalogued kind (k :: ks) (if kind = k then some (withVariable n most p serve) else o) :=
  h.row fun u => answeredFrom_withVariable (hserve u)

theorem Catalogued.orElse (h : Catalogued kind ks o) (h' : Catalogued kind ls o') :
    Catalogued kind (ks ++ ls) (o.orElse fun _ => o') := by
  obtain ⟨hnone, hanswered⟩ := h
  cases o with
  | none =>
    have hks : kind ∉ ks := hnone.mp rfl
    exact ⟨h'.none_iff.trans (by simp [hks]), h'.answered⟩
  | some serve =>
    have hks : kind ∈ ks := by simpa using hnone
    exact ⟨by simp [hks], hanswered⟩

end

section
variable (kind : Nat) (p : List Byte)

theorem catalogued_settings : Catalogued kind [0x01, 0x02, 0x03, 0x04, 0x05] (settingsRequest kind p) :=
  catalogued_none
    |>.fixed (serve := serveRestart) (fun _ => answeredFrom_carryOut rfl)
    |>.fixed (fun _ => answered_storeSettings)
    |>.fixed (fun _ => answered_getSetting _)
    |>.fixed (fun _ => answered_setSetting _ _)
    |>.fixed (serve := serveIdentify) (fun _ => answeredFrom_reading _)

theorem catalogued_elements :
    Catalogued kind [0x10, 0x11, 0x12, 0x13, 0x14, 0x15, 0x16] (elementRequest kind p) :=
  catalogued_none
    |>.fixed (fun _ => answered_clearFaults _)
    |>.fixed (fun _ => answeredFrom_reading _)
    |>.fixed (fun _ => answered_restoreElement _)
    |>.fixed (fun _ => answered_withdraw _)
    |>.fixed (fun _ => answered_setElementMode _ _ _)
    |>.fixed (fun _ => answered_readElement _)
    |>.fixed (fun _ => answered_defineElement _ _)

theorem catalogued_roster :
    Catalogued kind [0x20, 0x21, 0x22, 0x23, 0x24, 0x25, 0x26] (rosterRequest kind p) :=
  catalogued_none
    |>.fixed (fun _ => answered_restoreTiers _)
    |>.fixed (fun _ => answered_enableRobot _)
    |>.fixed (fun _ => answered_disableRobot _ _)
    |>.fixed (fun _ => answeredFrom_reading _)
    |>.fixed (fun _ => answered_readSlot _)
    |>.fixed (fun _ => answered_unregister _)
    |>.fixed (fun _ => answered_register _ _ _ _)

theorem catalogued_match :
    Catalogued kind [0x30, 0x31, 0x32, 0x33, 0x34, 0x35, 0x36, 0x37] (matchRequest kind p) :=
  catalogued_none
    |>.fixed (fun _ => answeredFrom_reading _)
    |>.fixed (fun _ => answered_closeMatch)
    |>.fixed (fun _ => answered_abortMatch)
    |>.fixed (fun _ => answered_resume)
    |>.fixed (fun _ => answered_pause)
    |>.fixed (fun _ => answered_start)
    |>.fixed (fun _ => answered_stage)
    |>.ranged (fun _ => answered_loadPlan _ _ _)

theorem catalogued_field :
    Catalogued kind [0x40, 0x41, 0x42, 0x48, 0x49, 0x4A, 0x4B, 0x4C] (fieldRequest kind p) :=
  catalogued_none
    |>.fixed (fun _ => answered_passResult)
    |>.ranged (fun _ => answered_passThrough _ _)
    |>.fixed (fun _ => answered_consoleActuate _ _)
    |>.fixed (fun _ => answered_revokeClaim _ _ _)
    |>.fixed (fun _ => answered_readClaims _)
    |>.fixed (fun _ => answeredFrom_reading _)
    |>.fixed (fun _ => answered_releaseStop)
    |>.fixed (fun _ => answered_fieldStop)

theorem catalogued_scores :
    Catalogued kind [0x50, 0x51, 0x52, 0x53, 0x58, 0x59, 0x5A, 0x60, 0x61, 0x62] (scoreRequest kind p) :=
  catalogued_none
    |>.fixed (fun _ => answered_setEventEnables _)
    |>.fixed (fun _ => answered_clearEvents _)
    |>.fixed (fun _ => answeredFrom_reading _)
    |>.fixed (fun _ => answeredFrom_reading _)
    |>.fixed (fun _ => answered_mailRead _ _ _)
    |>.ranged (fun _ => answered_mailPut _ _)
    |>.fixed (fun _ => answered_award _ _)
    |>.fixed (fun _ => answered_penalize _ _)
    |>.fixed (fun _ => answered_readTallies _)
    |>.fixed (fun _ => answeredFrom_reading _)

/-- The catalogue names a request for exactly its kinds, and each request is answered (R176, R192). -/
theorem catalogued_requestOf : Catalogued kind catalogueKinds (requestOf kind p) :=
  (catalogued_settings kind p).orElse <| (catalogued_elements kind p).orElse <| (catalogued_roster kind p).orElse <|
    (catalogued_match kind p).orElse <| (catalogued_field kind p).orElse <| catalogued_scores kind p

end

-- What the offered record leaves (R174 to R176)

section
variable {s : State} (hs : s.ready)
include hs

theorem offerRecord_of_ready (kind : Nat) (serve : State → Served) : offerRecord kind serve s
    = holdReply { kind := replyKind kind, outcome := (serve (receiverDone s)).outcome,
                  fields := (serve (receiverDone s)).fields } (serve (receiverDone s)).state := by
  obtain ⟨-, hempty⟩ := hs
  rw [offerRecord, hempty]
  rfl

/-- A good record is answered, with UNKNOWN_REQUEST exactly where its kind names no request (R176). -/
theorem offerGoodRecord_of_ready (kind : Nat) (p : List Byte) : ∃ r,
    (offerGoodRecord kind p s).console.held = some r ∧ (offerGoodRecord kind p s).console.receiver = .seeking
      ∧ r.kind = replyKind kind ∧ (r.outcome = .unknownRequest ↔ catalogueKinds.contains kind = false)
      ∧ r.outcome ≠ .frameError := by
  obtain ⟨hnone, hanswered⟩ := catalogued_requestOf kind p
  have hcontains : catalogueKinds.contains kind = false ↔ requestOf kind p = none := by rw [hnone]; simp
  rw [hcontains, offerGoodRecord]
  cases hrequest : requestOf kind p with
  | none =>
    dsimp only
    rw [offerUnknown, offerRecord_of_ready hs]
    exact ⟨_, rfl, rfl, rfl, by simp [refuse], by simp [refuse]⟩
  | some serve =>
    obtain ⟨hreceiver, houtcome, -⟩ := hanswered serve hrequest (receiverDone s)
    dsimp only
    rw [offerRecord_of_ready hs]
    simp only [ofRequest, Bool.and_eq_true, bne_iff_ne] at houtcome
    obtain ⟨hframe, hunknown⟩ := houtcome
    exact ⟨_, rfl, hreceiver, rfl, by simpa using hunknown, hframe⟩

/-- A record acts as the command whose row of the catalogue it names (R192). -/
theorem exec_of_offered {c : Instr} {kind : Nat} {p : List Byte} {serve : State → Served}
    (hrequest : requestOf kind p = some serve) (hexec : exec c s = .next (consoleRequest kind serve s)) :
    exec c s = .next (offerGoodRecord kind p s) := by
  rw [hexec, consoleRequest, whenAwake_of_awake hs.1, offerGoodRecord, hrequest]

end

/-- Settles O8: the record as it is received, then its row of the catalogue. -/
theorem sentRecordsAreServedAsTheirRequests : Obligations.SentRecordsAreServedAsTheirRequests := by
  refine ⟨fun s kind p hs hbreak hseeking hp => ?_, fun s hs hbreak hseeking => ⟨?_, fun e b x => ?_, fun id v => ?_⟩⟩
  · obtain ⟨r, hheld, hreceiver, hkind, hunknown, hframe⟩ := offerGoodRecord_of_ready hs kind.toNat p
    exact ⟨_, r, feed_recordBytes hs.1 hbreak hseeking kind hp, hheld, hreceiver, hkind, hunknown, hframe⟩
  · rw [feed_recordBytes hs.1 hbreak hseeking 0x32 (by decide)]
    exact (exec_of_offered hs rfl rfl).symm
  · rw [feed_recordBytes hs.1 hbreak hseeking 0x49 (by simp)]
    exact (exec_of_offered hs rfl rfl).symm
  · have hword : wordAt (id :: fourBytes v.toNat) 1 = v := by
      have h := wordAt_fourBytes v []
      rwa [List.append_nil] at h
    have hrequest : requestOf 0x02 (id :: fourBytes v.toNat)
        = some (serveSetSetting id.toNat (wordAt (id :: fourBytes v.toNat) 1).toNat) := rfl
    rw [hword] at hrequest
    rw [feed_recordBytes hs.1 hbreak hseeking 0x02 (by simp [fourBytes])]
    exact (exec_of_offered hs hrequest rfl).symm

end Sys2Proof.Machine
end
